-- ==== Sys2Proof/Word.lean ====
section
/-! DEFINITION. The word types of the SZ960 and their plainest arithmetic (spec/00 R3, R4). -/
namespace Sys2Proof

/-- One byte of memory, of a flit or of a message. -/
abbrev Byte := BitVec 8

/-- A 64-bit word: a scalar register, a parameter register, an instruction, a wide register. -/
abbrev Word := BitVec 64

/-- A 7-bit register specifier of an instruction (spec/04, register specifiers). -/
abbrev RegSpec := BitVec 7

/-- The byte `k` of a little-endian value (R3). -/
def byteOf (v k : Nat) : Byte := BitVec.ofNat 8 (v >>> (8 * k))

/-- A value as `n` bytes, lowest first (R3). -/
def bytesOf (v n : Nat) : List Byte := (List.range n).map (byteOf v)

/-- The value of bytes stored little-endian (R3). -/
def natOfBytes (bs : List Byte) : Nat := bs.foldr (fun b acc => b.toNat + 256 * acc) 0

/-- Bits `[lo + w - 1 : lo]` of a value (R3). -/
def bitsOf (v lo w : Nat) : Nat := (v >>> lo) % 2 ^ w

/-- Bit `k` of a value. -/
def bitAt (v k : Nat) : Bool := v.testBit k

/-- A `w`-bit field read as a two's-complement number. -/
def signedOf (v w : Nat) : Int :=
  if v % 2 ^ w < 2 ^ (w - 1) then (v % 2 ^ w : Nat) else (v % 2 ^ w : Nat) - (2 ^ w : Nat)

/-- A whole number as a `w`-bit two's-complement field. -/
def fieldOfInt (i : Int) (w : Nat) : Nat := (i % (2 ^ w : Nat)).toNat

/-- Division rounded up. -/
def ceilDiv (a b : Nat) : Nat := (a + (b - 1)) / b

end Sys2Proof
end

