-- ==== Sys2Proof/Syntax.lean ====
section
/-! DEFINITION. The commands of the SZ960: one constructor for each row of spec/opcode_table.json. -/
namespace Sys2Proof

/-- Who makes a register access (spec/00 R7, spec/16 R328): the host's functions, a command
processor, a core, a remote device through the register window, or JTAG. -/
inductive Agent
  | pf0
  | vf (f : Nat)
  | cp (n : Nat)
  | core (n : Nat)
  | remote (dev : Nat)
  | jtag
  deriving DecidableEq, Repr

/-- Where an instruction issues: its logical core, its queue (0 S, 1 M, 2 V, 3 D, 4 X), its gap and
whether it is service-class code (spec/04 R79, R86, R97). -/
structure Issue where
  core : Nat
  queue : Nat
  gap : Nat
  svc : Bool := false
  deriving DecidableEq, Repr

/-- The host's command packet (spec/14, command packets), with its issuing function and its global
queue. -/
structure HostCmd where
  func : Nat := 0
  queue : Nat := 0
  cmdId : Nat := 0
  flags : Nat := 0
  config : Nat := 0
  a0 : Nat := 0
  a1 : Nat := 0
  a2 : Nat := 0
  a3 : Nat := 0
  a4 : Nat := 0
  a5 : Nat := 0
  a6 : Nat := 0
  deriving DecidableEq, Repr

/-- The two commands that the table's NOP row stands for (R87, spec/14 opcode 0x00). -/
inductive NopKind
  | plan (x : Issue)
  | host (h : HostCmd)
  deriving DecidableEq, Repr

/-- A verdict that moves on a verdict tree (spec/03 R56, spec/13 R283). -/
inductive Verdict
  | ok
  | abort (origin cause : Nat)
  | hold (origin : Nat)
  deriving DecidableEq, Repr

/-- The path of a management message (spec/16, management sessions): MCTP over PCIe, from PF0 or from another requester, over
I3C, or in UDP over the MGT port. -/
inductive MgmtPath
  | pcie (pf0 : Bool)
  | i3c
  | mgt
  deriving DecidableEq, Repr

/-- How a management message comes: its path, and for a message of a session its session and its SPDM sequence number
(R335). -/
structure MgmtMsg where
  path : MgmtPath
  session : Nat := 0
  seq : Nat := 0
  deriving DecidableEq, Repr

/-- The hardware loops that may be held at a bound (spec/02 R45). -/
inductive PinnedLoop
  | debtHigh
  | oscFloor
  | clampPinned
  | steerPinned
  deriving DecidableEq, Repr

/-- What a read of a stored burst or word finds (spec/08 R160, R161, R170). -/
inductive EccFind
  | clean
  | corrected
  | uncorrectable
  deriving DecidableEq, Repr

/-- A service packet (spec/11 R244): its header and its data. -/
structure Packet where
  src : Nat
  dest : Nat
  kind : Nat
  vc : Nat
  status : Nat
  tag : Nat
  len : Nat
  addr : Nat
  data : List Byte
  bcast : Bool := false
  tree : Nat := 0
  sampled : Bool := false
  hops : Nat := 0
  deriving DecidableEq, Repr

/-- A Guyline message (spec/10 R232): source, hops, its body's fields, whether its CRC is good, and whether its TYPE is one
of the table's. -/
structure GlMsg where
  hops : Nat
  src : Nat
  stamp : Nat := 0
  acc : Nat := 0
  val : Nat := 0
  crcOk : Bool := true
  known : Bool := true
  deriving DecidableEq, Repr

/-- One entry of a Roll Call message (spec/13, message body, ENTRY). -/
structure RcEntry where
  dev : Nat
  port : Nat := 0
  link : Bool := false
  cause : Nat := 0
  deriving DecidableEq, Repr

/-- A Roll Call message body (spec/13): everything but its type, which is the row's. `ring` is for a copy from the Guyline: its
HOPS, and whether its CRC is good. -/
structure RcMsg where
  sender : Nat
  round : Nat := 1
  coord : Nat := 0
  epoch : Nat := 0
  digest : Nat := 0
  planId : Nat := 0
  s : Nat := 0
  reason : Nat := 0
  entries : List RcEntry := []
  inPort : Nat := 31
  ring : Option (Nat × Bool) := none
  deriving DecidableEq, Repr

/-- A character as the Guyline's receiver decodes it (spec/10 R231). -/
inductive GlChar
  | good
  | invalid
  | disparity
  deriving DecidableEq, Repr

/-- A TS2 set's content (spec/10 R211, R214). -/
structure Ts2 where
  dev : Nat
  devValid : Bool
  port : Nat
  lanes : Nat
  rate : Nat
  enc : Bool
  rxNext : Nat
  ack : Nat
  deriving DecidableEq, Repr

/-- The commands of the SZ960, in the order of spec/opcode_table.json but for UPDATE_STAGE and UPDATE_CONFIRM, which stand
beside POWER_SET. -/
inductive Instr
  -- registers and clocking
  | registerWrite (agent : Agent) (off size be : Nat) (value : Nat)
  | lowHalfRead (agent : Agent) (off size : Nat)
  | slackExhausted (r : Nat)
  | timestampSend (p : Nat)
  | timestamp (p stamp frac hops dev : Nat) (keeper locked : Bool) (epochLo arrFrac : Nat) (crcOk : Bool)
  | steeringUpdate
  | clkRateReq (agent : Agent) (value : Nat)
  | rateRequest (m : RcMsg)
  | rateAnnounce (m : RcMsg)
  | rateAck (m : RcMsg)
  | rateAckDeadline
  | rateCancel (m : RcMsg)
  | rateStopRetune
  | rateChangeResume
  | clkRegionCeil (agent : Agent) (r value : Nat)
  | ceilingChangeApply (r : Nat)
  | ceilPending (r : Nat)
  | loopPinned (r : Nat) (loop : PinnedLoop)
  | refclkEdgeMissing (ppm : Int)
  | refBack
  | holdoverIdleLimit
  -- plans and frames
  | planLoad (h : HostCmd) (image : List Byte)
  | planActivate (h : HostCmd)
  | planUnload (h : HostCmd)
  | frameRun (h : HostCmd)
  | frameStop (h : HostCmd)
  | frameWait (h : HostCmd)
  | slotBind (h : HostCmd)
  | slotUnbind (h : HostCmd)
  | paramPatch (h : HostCmd)
  | digestRecheck
  | frameStart
  | frameEnd
  | verdict (p : Nat) (v : Verdict)
  | decisionTick
  | rerunLimit
  | applyTick
  | powerOver (r : Nat)
  | planFaultHead (agent : Agent) (value : Nat)
  | statsRead (h : HostCmd)
  -- scalar, control and token instructions
  | add (x : Issue) (rd ra rb : RegSpec) (imm : BitVec 23)
  | sub (x : Issue) (rd ra rb : RegSpec) (imm : BitVec 23)
  | mul (x : Issue) (rd ra rb : RegSpec) (imm : BitVec 23)
  | and (x : Issue) (rd ra rb : RegSpec) (imm : BitVec 23)
  | or (x : Issue) (rd ra rb : RegSpec) (imm : BitVec 23)
  | xor (x : Issue) (rd ra rb : RegSpec) (imm : BitVec 23)
  | shl (x : Issue) (rd ra rb : RegSpec) (imm : BitVec 23)
  | shr (x : Issue) (rd ra rb : RegSpec) (imm : BitVec 23)
  | sra (x : Issue) (rd ra rb : RegSpec) (imm : BitVec 23)
  | min (x : Issue) (rd ra rb : RegSpec) (imm : BitVec 23)
  | max (x : Issue) (rd ra rb : RegSpec) (imm : BitVec 23)
  | slt (x : Issue) (rd ra rb : RegSpec) (imm : BitVec 23)
  | sltu (x : Issue) (rd ra rb : RegSpec) (imm : BitVec 23)
  | seq (x : Issue) (rd ra rb : RegSpec) (imm : BitVec 23)
  | ldi (x : Issue) (rd : RegSpec) (h : Bool) (imm : BitVec 32)
  | lds (x : Issue) (rd ra : RegSpec) (imm : BitVec 23)
  | sts (x : Issue) (rs ra : RegSpec) (imm : BitVec 23)
  | nop (k : NopKind)
  | endQ (x : Issue)
  | loop (x : Issue) (count body : Nat)
  | brb (x : Issue) (cond : Nat) (ra rb : RegSpec) (alen blen : Nat)
  | join (x : Issue) (ticks sig : Nat)
  | bru (x : Issue) (cond : Nat) (ra rb : RegSpec) (offset : BitVec 27)
  | lcall (x : Issue) (routine : Nat)
  | libraryRoutineCompletion (core : Nat) (status : Nat) (results : List Nat)
  | sig (x : Issue) (token n : Nat)
  | wait (x : Issue) (token n : Nat)
  | bar (x : Issue) (mask : BitVec 32)
  -- matrix, vector, DMA and fabric instructions
  | mpass (x : Issue) (emask : BitVec 4) (split : Bool) (bank : Bool) (acc : Bool) (fmtA fmtB : Nat)
      (rA rB : RegSpec) (kt : Nat)
  | passCompletion (core eng : Nat) (bank : Bool)
  | vcfg (x : Issue) (slot line : Nat)
  | vrun (x : Issue) (emask : BitVec 4) (slot src : Nat) (rSrc rDst rRed : RegSpec) (len rmode : Nat)
  | vrunCompletion (core eng : Nat)
  | reds (x : Issue) (sd : RegSpec) (eng : Nat) (which : Bool)
  | dma (x : Issue) (ch done desc : Nat)
  | dmaPiece (core : Nat)
  | pageTableWalk (core : Nat)
  | burstArrival (core : Nat)
  | dmaPieceLanding (core : Nat)
  | send (x : Issue) (route : Nat) (rAddr : RegSpec) (count pool done : Nat)
  | recv (x : Issue) (route : Nat) (rAddr : RegSpec) (count done : Nat)
  | cgive (x : Issue) (route pool n : Nat)
  -- service class, memory and serving
  | svcRun (h : HostCmd) (code : List Word)
  | serviceWindowStart
  | serviceWindowEnd
  | coreSvcArea (agent : Agent) (core value : Nat)
  | refresh (stack : Nat)
  | retrain (stack : Nat)
  | patrolScrub (stack : Nat) (burst : Nat) (find : EccFind)
  | prefetch (r tracker : Nat)
  | trackerIdle (r tracker : Nat)
  | dmaCopy (h : HostCmd) (hostData : List Byte)
  | serviceDmaCompletion (die ch : Nat)
  | pageMap (h : HostCmd)
  | pageUnmap (h : HostCmd)
  | pageMove (h : HostCmd)
  | ctxCreate (h : HostCmd) (desc : List Byte) (trail : List Byte)
  | ctxSet (h : HostCmd) (desc : List Byte) (trail : List Byte)
  | ctxDestroy (h : HostCmd)
  | srvCtxSel (agent : Agent) (value : Nat)
  | selectionJob (u : Nat)
  | selectionJobResult (u : Nat)
  | cairnRecord (lane : Nat)
  | cairnRead (h : HostCmd)
  | audTrailSel (agent : Agent) (value : Nat)
  -- Klonak ports
  | markerLock (p lane rx n arrPs : Nat)
  | markerLockLoss (p lane : Nat) (syms : List Nat)
  | blockLock (p rx n : Nat)
  | blockLockLoss (p : Nat) (headers : List Bool)
  | noValidBlock (p : Nat)
  | ts1 (p : Nat) (preset coeff : Nat) (eyeMet crcOk : Bool)
  | eqComplete (p : Nat)
  | eqTimeout (p : Nat) (failed : BitVec 4)
  | markerNarrowing (p : Nat)
  | ts2 (p : Nat) (t : Ts2) (crcOk : Bool)
  | ping (p seq : Nat) (crcOk : Bool)
  | echo (p seq rttPs delayPs : Nat) (crcOk : Bool)
  | bringUpTimeout (p : Nat)
  | bringUpRetry (p : Nat)
  | graceExpiry (p : Nat)
  | resetSet (p : Nat) (crcOk : Bool)
  | linkReset (h : HostCmd)
  | klPortCtrl (agent : Agent) (p value : Nat)
  | flitSlot (p : Nat)
  | flit (p : Nat) (raw : List Byte) (escape : Bool) (corrected bad : Nat)
  | nakRepeat (p seq : Nat)
  | flitRelease (p : Nat)
  | lateFlit (p route : Nat)
  | spill (p : Nat)
  | keySwitch (p : Nat)
  -- Guyline ring
  | guylineLock (rx n : Nat)
  | guylineLockLoss (chars : List GlChar)
  | bypassOpen
  | frameMarker (m : GlMsg)
  | timeCorrection (m : GlMsg)
  | timeCorrectionSend
  | discovery (m : GlMsg)
  | discoverySend
  | roster (m : GlMsg)
  | rosterSend
  | wakeMessage (m : GlMsg)
  | pwrWakeSend (agent : Agent) (value : Nat)
  | pendExpiry
  -- fabric
  | fabId (agent : Agent) (value : Nat)
  | read (inPort : Nat) (pkt : Packet)
  | write (inPort : Nat) (pkt : Packet)
  | bwrite (inPort : Nat) (pkt : Packet)
  | back (inPort : Nat) (pkt : Packet)
  | resp (inPort : Nat) (pkt : Packet)
  | hostcpl (inPort : Nat) (pkt : Packet)
  | servicePacketForward (p vc : Nat) (rooms : List (Nat × Nat × Nat))
  | packetDiscard (p vc : Nat)
  | gateClosed (r : Nat)
  | regionExitComplete (r : Nat)
  | armPush (agent : Agent) (value : Nat)
  | disarmPush (agent : Agent) (value : Nat)
  -- Roll Call
  | heartbeat (p dev state round epoch digest : Nat) (crcOk : Bool)
  | heartbeatSend
  | neighbourLost (dev : Nat)
  | suspect (m : RcMsg)
  | collectionWindow
  | propose (m : RcMsg)
  | accept (m : RcMsg)
  | refuse (m : RcMsg)
  | full (m : RcMsg) (bitmap : Nat)
  | commit (m : RcMsg)
  | request (m : RcMsg)
  | ackTimeout
  | acceptanceDrop
  | excludeDevice (agent : Agent) (dev : Nat)
  | excludeLink (agent : Agent) (dev port : Nat)
  | joinThisDevice (agent : Agent)
  | linkReturn (agent : Agent) (port : Nat)
  | serviceDmaExpiry (die ch : Nat)
  | cpWorkRenewal (n : Nat)
  | cpWorkExpiry (n : Nat)
  -- host
  | queueEnable (agent : Agent) (q value : Nat)
  | queueDisable (agent : Agent) (q value : Nat)
  | drainComplete (q : Nat)
  | dbSqTail (agent : Agent) (q tail : Nat)
  | dbCqHead (agent : Agent) (q head : Nat)
  | fetch (readOk : Bool) (entry : List Byte)
  | commandStart (q : Nat)
  | replyWrite (q : Nat) (writeOk : Bool)
  | moderationTimer (q : Nat)
  | hostVfQmap (agent : Agent) (f value : Nat)
  | vfFlr (f : Nat)
  | vfEnableClear
  | vfFlrCompletion (f : Nat)
  | pf0Flr
  | perstN
  | busMasterEnable (f : Nat) (on : Bool)
  | pcieLinkTraining (gen width : Nat) (flitMode : Bool)
  -- power
  | powerSet (h : HostCmd)
  | updateStage (h : HostCmd) (image : List Byte)
  | updateConfirm (h : HostCmd)
  | entryStep
  | commitPoint
  | hostPm
  | timerWake
  | d0Reached (probes : List (Nat × Nat × Nat))
  | sleepStart (r : Nat)
  | sleepExit (r : Nat)
  | powerSample (milliAmps : List Nat)
  | powerWindow
  | overPower
  | thermalClamp (r tempC : Nat)
  | thermalShutdown
  | avsbusReadback (rail : Nat) (valid : Bool) (mv amps : Nat)
  | ceilingRelease (rail : Nat)
  -- Ranger and management
  | watchdog
  | idAssign (m : MgmtMsg) (id dims : Nat)
  | allowSet (m : MgmtMsg) (allowW hardW : Nat)
  | thermSet (m : MgmtMsg) (hotC critC : Nat)
  | wake (m : MgmtMsg)
  | deviceReset (m : MgmtMsg)
  | failsafeEnter (m : MgmtMsg)
  | bivouacSet (m : MgmtMsg) (n : Nat)
  | bivouacExit (m : MgmtMsg)
  | linkMasterSet (m : MgmtMsg) (key : Nat)
  | logClear (m : MgmtMsg) (mask : Nat)
  | rootRotate (m : MgmtMsg) (digest sig : Nat)
  | coreRetire (m : MgmtMsg) (die index : Nat)
  | sessionExpiry (session : Nat)
  | getVersion (m : MgmtMsg)
  | getCapabilities (m : MgmtMsg)
  | negotiateAlgorithms (m : MgmtMsg) (offered : Nat)
  | getDigests (m : MgmtMsg)
  | getCertificate (m : MgmtMsg) (slot offset len : Nat)
  | challenge (m : MgmtMsg) (slot nonce : Nat)
  | getMeasurements (m : MgmtMsg) (index nonce : Nat)
  | keyExchange (m : MgmtMsg) (exchange : Nat)
  | finish (m : MgmtMsg) (chainRoot sig : Nat)
  | spdmHeartbeat (m : MgmtMsg)
  | keyUpdate (m : MgmtMsg) (op : Nat)
  | endSession (m : MgmtMsg)
  | setEndpointId (m : MgmtMsg) (eid : Nat)
  | getEndpointId (m : MgmtMsg)
  | getEndpointUuid (m : MgmtMsg)
  | getMctpVersionSupport (m : MgmtMsg) (mtype : Nat)
  | getMessageTypeSupport (m : MgmtMsg)
  | getTid (m : MgmtMsg)
  | getPldmVersion (m : MgmtMsg) (ptype : Nat)
  | getPldmTypes (m : MgmtMsg)
  | getPldmCommands (m : MgmtMsg) (ptype : Nat)
  | getPdr (m : MgmtMsg) (record : Nat)
  | getSensorReading (m : MgmtMsg) (sensor : Nat)
  | requestUpdate (m : MgmtMsg) (maxTransfer : Nat)
  | passComponentTable (m : MgmtMsg) (kind version : Nat)
  | updateComponent (m : MgmtMsg) (kind version size : Nat)
  | requestFirmwareData (m : MgmtMsg) (offset : Nat) (data : List Byte)
  | transferComplete (m : MgmtMsg) (result : Nat)
  | verifyComplete (m : MgmtMsg)
  | applyComplete (m : MgmtMsg)
  | activateFirmware (m : MgmtMsg)
  | getStatus (m : MgmtMsg)
  | cancelUpdate (m : MgmtMsg)
  | entdaa (addr : Nat)
  | setdasa (staticAddr addr : Nat)
  | hotJoin
  | arp (targetIp : Nat)
  | ndp (targetIp : Nat)
  | icmpEcho (targetIp ident : Nat)
  -- boot and update
  | trialTimeout (kind : Nat)
  | commandProcessorRestart (n : Nat)
  | libraryActivation
  | clkRecal (agent : Agent) (value : Nat)
  | recalibration
  | recalibrationResult (probes : List (Nat × Nat × Nat))
  | powerOnReset (copyBad : Bool)
  | sysRstN
  | start
  | b0 (fusesOk slotAOk slotBOk testEn : Bool)
  | b1 (railsOk : Bool)
  | b2 (settled : Bool) (probes : List (Nat × Nat × Nat))
  | b3 (idOk : BitVec 12) (trained : BitVec 12) (fullRate : Bool)
  | b4 (activeOk otherOk : Bool)
  | b5 (linkActiveOk linkOtherOk libActiveOk libOtherOk : Bool) (elapsedMs : Nat)
  | readyTimeout
  | bootRetry
  | settlePoint
  | strapSample (mgtMode : Bool) (i3cAddr : BitVec 3) (testEn : Bool)
  | railOutOfRange (rail : Nat)
  | vddAoLow (copyBad : Bool)
  | jtagInstruction (ir : Nat) (off value : Nat)
  | tickRelease
  | tickIssue (r : Nat) (inputsReady : Bool)
  | sysRstNAsserted
  | firmwareResume
  | mgtLinkUp (up : Bool)
  deriving DecidableEq, Repr

end Sys2Proof
end

