-- ==== Sys2Proof/Decode.lean ====
section
/-! DEFINITION. The commands as words. No row of spec/opcode_table.json gives its command bits, so no word
spells a command. The instruction words of spec/04 are in Machine/IsaWord.lean. -/
namespace Sys2Proof

/-- The command that a word of the table's bits spells: none, since no row of the table has bits. -/
def decodeTableWord (nbits w : Nat) : Option Instr :=
  match nbits, w with
  | _, _ => none

end Sys2Proof
end

