-- ==== Sys2Proof/Machine/Digest.lean ====
section
/-! DEFINITION. The digests and the generator: SHA-256 (FIPS 180-4, named by R262), CRC-32C (R217), CRC-16
(R214, R232) and the counter-based generator G (R195). -/
namespace Sys2Proof.Machine

/-! ### The generator -/

/-- Rotation of a 64-bit word to the left. -/
def rotl64 (v k : Nat) : Nat := ((v <<< k) ||| (v >>> (64 - k))) % 2 ^ 64

/-- One round of mix (R195). -/
def mixRound (s : Nat) : Nat :=
  let s := (s + 0x9E3779B97F4A7C15) % 2 ^ 64
  let s := s ^^^ rotl64 s 23 ^^^ rotl64 s 41
  (s + rotl64 s 13) % 2 ^ 64

/-- mix: four rounds (R195). -/
def genMix (s : Nat) : Nat := mixRound (mixRound (mixRound (mixRound s)))

/-- G (R195). -/
def genG (seed context position : Nat) : Nat :=
  let s := (seed % 2 ^ 64) ^^^ 0x243F6A8885A308D3
  let s := genMix ((s + position) % 2 ^ 64)
  let s := genMix (s ^^^ (context % 2 ^ 64))
  genMix ((s + 0xB7E151628AED2A6B) % 2 ^ 64)

/-! ### CRCs -/

/-- Eight steps of a reflected CRC-32C register. -/
def crc32cBits : Nat → Nat → Nat
  | 0, c => c
  | n + 1, c => crc32cBits n (if c % 2 = 1 then (c >>> 1) ^^^ 0x82F63B78 else c >>> 1)

/-- CRC-32C of bytes (R217). -/
def crc32c (bs : List Byte) : Nat :=
  (bs.foldl (fun c b => crc32cBits 8 (c ^^^ b.toNat)) 0xFFFFFFFF) ^^^ 0xFFFFFFFF

/-- Eight steps of a CRC-16 register with polynomial 0x1021. -/
def crc16Bits : Nat → Nat → Nat
  | 0, c => c
  | n + 1, c =>
    crc16Bits n (if c ≥ 0x8000 then ((c * 2) % 0x10000) ^^^ 0x1021 else c * 2)

/-- CRC-16 of bytes, initial value 0xFFFF (R214, R232). -/
def crc16 (bs : List Byte) : Nat :=
  bs.foldl (fun c b => crc16Bits 8 (c ^^^ (b.toNat * 256))) 0xFFFF

/-! ### SHA-256 -/

/-- The 64 round constants of FIPS 180-4. -/
def shaK : List Nat :=
  [0x428a2f98, 0x71374491, 0xb5c0fbcf, 0xe9b5dba5, 0x3956c25b, 0x59f111f1, 0x923f82a4, 0xab1c5ed5] ++
  [0xd807aa98, 0x12835b01, 0x243185be, 0x550c7dc3, 0x72be5d74, 0x80deb1fe, 0x9bdc06a7, 0xc19bf174] ++
  [0xe49b69c1, 0xefbe4786, 0x0fc19dc6, 0x240ca1cc, 0x2de92c6f, 0x4a7484aa, 0x5cb0a9dc, 0x76f988da] ++
  [0x983e5152, 0xa831c66d, 0xb00327c8, 0xbf597fc7, 0xc6e00bf3, 0xd5a79147, 0x06ca6351, 0x14292967] ++
  [0x27b70a85, 0x2e1b2138, 0x4d2c6dfc, 0x53380d13, 0x650a7354, 0x766a0abb, 0x81c2c92e, 0x92722c85] ++
  [0xa2bfe8a1, 0xa81a664b, 0xc24b8b70, 0xc76c51a3, 0xd192e819, 0xd6990624, 0xf40e3585, 0x106aa070] ++
  [0x19a4c116, 0x1e376c08, 0x2748774c, 0x34b0bcb5, 0x391c0cb3, 0x4ed8aa4a, 0x5b9cca4f, 0x682e6ff3] ++
  [0x748f82ee, 0x78a5636f, 0x84c87814, 0x8cc70208, 0x90befffa, 0xa4506ceb, 0xbef9a3f7, 0xc67178f2]

/-- The initial hash value of FIPS 180-4. -/
def shaInit : List Nat :=
  [0x6a09e667, 0xbb67ae85, 0x3c6ef372, 0xa54ff53a, 0x510e527f, 0x9b05688c, 0x1f83d9ab, 0x5be0cd19]

/-- Rotation of a 32-bit word to the right. -/
def rotr32 (v k : Nat) : Nat := ((v >>> k) ||| (v <<< (32 - k))) % 2 ^ 32

/-- The message schedule, latest word first, extended by `n` words. -/
def shaSchedule : Nat → List Nat → List Nat
  | 0, w => w
  | n + 1, w =>
    let w15 := w.getD 14 0
    let w2 := w.getD 1 0
    let s0 := rotr32 w15 7 ^^^ rotr32 w15 18 ^^^ (w15 >>> 3)
    let s1 := rotr32 w2 17 ^^^ rotr32 w2 19 ^^^ (w2 >>> 10)
    shaSchedule n ((s1 + w.getD 6 0 + s0 + w.getD 15 0) % 2 ^ 32 :: w)

/-- One round on the eight working variables. -/
def shaRound (v : List Nat) (kw : Nat × Nat) : List Nat :=
  match v with
  | [a, b, c, d, e, f, g, h] =>
    let s1 := rotr32 e 6 ^^^ rotr32 e 11 ^^^ rotr32 e 25
    let ch := (e &&& f) ^^^ ((2 ^ 32 - 1 - e) &&& g)
    let t1 := h + s1 + ch + kw.1 + kw.2
    let s0 := rotr32 a 2 ^^^ rotr32 a 13 ^^^ rotr32 a 22
    let maj := (a &&& b) ^^^ (a &&& c) ^^^ (b &&& c)
    [(t1 + s0 + maj) % 2 ^ 32, a, b, c, (d + t1) % 2 ^ 32, e, f, g]
  | v => v

/-- The compression of one 64-byte block. -/
def shaBlock (h : List Nat) (block : List Byte) : List Nat :=
  let words := (List.range 16).map fun i =>
    ((block.drop (4 * i)).take 4).foldl (fun acc b => acc * 256 + b.toNat) 0
  let w := (shaSchedule 48 words.reverse).reverse
  List.zipWith (fun a b => (a + b) % 2 ^ 32) h ((shaK.zip w).foldl shaRound h)

/-- The compression of `n` blocks. -/
def shaBlocks : Nat → List Nat → List Byte → List Nat
  | 0, h, _ => h
  | n + 1, h, bs => shaBlocks n (shaBlock h (bs.take 64)) (bs.drop 64)

/-- A number as `n` bytes, highest first. -/
def bigEndian (v n : Nat) : List Byte := (bytesOf v n).reverse

/-- SHA-256 of bytes: the 32-byte digest in the standard's byte order. -/
def sha256 (bs : List Byte) : List Byte :=
  let n := bs.length
  let pad := (119 - n % 64) % 64
  let msg := bs ++ [0x80#8] ++ List.replicate pad 0#8 ++ bigEndian (8 * n) 8
  (shaBlocks (msg.length / 64) shaInit msg).flatMap fun w => bigEndian w 4

/-- HMAC-SHA-256 (FIPS 198-1, named by R228). -/
def hmac256 (key msg : List Byte) : List Byte :=
  let k := if key.length > 64 then sha256 key else key
  let k := k ++ List.replicate (64 - k.length) 0#8
  sha256 (k.map (· ^^^ 0x5C#8) ++ sha256 (k.map (· ^^^ 0x36#8) ++ msg))

end Sys2Proof.Machine
end

