-- ==== Sys2Proof/Machine/Cipher.lean ====
section
/-! DEFINITION. AES-256-GCM (FIPS 197 and NIST SP 800-38D, named by R228) and SHA-384 (FIPS 180-4, named by R335, R341 and
R353), written out from their standards (log 8). -/
namespace Sys2Proof.Machine

/-! ### AES-256 -/

/-- Doubling in AES's field of 256 elements. -/
def gf8Double (a : Nat) : Nat := if a < 128 then 2 * a else (2 * a - 256) ^^^ 0x1B

/-- A product in AES's field. -/
def gf8Mul (a b : Nat) : Nat :=
  ((List.range 8).foldl (fun (x : Nat × Nat) i => (if b.testBit i then x.1 ^^^ x.2 else x.1, gf8Double x.2)) (0, a)).1

/-- The inverse in AES's field, which is the 254th power; 0 stays 0. -/
def gf8Inv (a : Nat) : Nat :=
  ((List.range 6).foldl (fun (x : Nat × Nat) _ => let q := gf8Mul x.2 x.2; (gf8Mul x.1 q, q)) (gf8Mul a a, gf8Mul a a)).1

/-- SubBytes on one byte. -/
def aesSub (a : Nat) : Nat :=
  let b := gf8Inv a
  let rot (k : Nat) : Nat := (b <<< k ||| b >>> (8 - k)) % 256
  b ^^^ rot 1 ^^^ rot 2 ^^^ rot 3 ^^^ rot 4 ^^^ 0x63

/-- The key schedule's words, latest first, extended by `n` words from word `i` on. -/
def aesSchedule : Nat → Nat → List (List Nat) → List (List Nat)
  | 0, _, w => w
  | n + 1, i, w =>
    let prev := w.headD []
    let t :=
      if i % 8 = 0 then
        match prev.map aesSub with
        | [a, b, c, d] => [b ^^^ (List.range (i / 8 - 1)).foldl (fun r _ => gf8Double r) 1, c, d, a]
        | other => other
      else if i % 8 = 4 then prev.map aesSub else prev
    aesSchedule n (i + 1) (List.zipWith (· ^^^ ·) (w.getD 7 []) t :: w)

/-- The 15 round keys of a 32-byte key. -/
def aesRoundKeys (key : List Byte) : List (List Nat) :=
  let first := (List.range 8).map fun i => ((key.drop (4 * i)).take 4).map (·.toNat)
  let words := (aesSchedule 52 8 first.reverse).reverse
  (List.range 15).map fun r => ((words.drop (4 * r)).take 4).flatten

/-- ShiftRows on the 16 bytes of a block, held by columns. -/
def aesShift (x : List Nat) : List Nat := (List.range 16).map fun i => x.getD ((i + 4 * (i % 4)) % 16) 0

/-- MixColumns on the 16 bytes of a block. -/
def aesMix (x : List Nat) : List Nat :=
  (List.range 16).map fun i =>
    let at' (k : Nat) : Nat := x.getD (i / 4 * 4 + (i + k) % 4) 0
    gf8Mul 2 (at' 0) ^^^ gf8Mul 3 (at' 1) ^^^ at' 2 ^^^ at' 3

/-- AES-256 of one 16-byte block. -/
def aesEncrypt (keys : List (List Nat)) (block : List Byte) : List Byte :=
  let add (x k : List Nat) : List Nat := List.zipWith (· ^^^ ·) x k
  let x := add (block.map (·.toNat)) (keys.getD 0 [])
  let x := (List.range 13).foldl (fun x r => add (aesMix (aesShift (x.map aesSub))) (keys.getD (r + 1) [])) x
  (add (aesShift (x.map aesSub)) (keys.getD 14 [])).map (BitVec.ofNat 8)

/-! ### Galois/counter mode -/

/-- The number of bytes that stand highest first. -/
def bigNat (bs : List Byte) : Nat := natOfBytes bs.reverse

/-- A product in GCM's field: bit 127 of the numbers is the block's first bit. -/
def ghashMul (x y : Nat) : Nat :=
  ((List.range 128).foldl (fun (a : Nat × Nat) i =>
    (if x.testBit (127 - i) then a.1 ^^^ a.2 else a.1,
     if a.2 % 2 = 1 then (a.2 / 2) ^^^ (0xE1 * 2 ^ 120) else a.2 / 2)) (0, y)).1

/-- Bytes filled up with zeros to whole blocks of 16. -/
def padBlock (bs : List Byte) : List Byte := bs ++ List.replicate ((16 - bs.length % 16) % 16) 0

/-- GHASH of whole blocks. -/
def ghash (h : Nat) (bs : List Byte) : Nat :=
  (List.range (bs.length / 16)).foldl (fun y i => ghashMul (y ^^^ bigNat ((bs.drop (16 * i)).take 16)) h) 0

/-- The counter block `n` of a 96-bit IV. -/
def gcmCounter (iv : List Byte) (n : Nat) : List Byte := iv ++ bigEndian n 4

/-- Bytes with the key stream of an IV laid over them. -/
def gcmStream (keys : List (List Nat)) (iv bs : List Byte) : List Byte :=
  let pad := (List.range ((bs.length + 15) / 16)).flatMap fun i => aesEncrypt keys (gcmCounter iv (i + 2))
  List.zipWith (· ^^^ ·) bs pad

/-- The 16-byte tag of a ciphertext and its additional data. -/
def gcmTag (keys : List (List Nat)) (iv aad ct : List Byte) : List Byte :=
  let h := bigNat (aesEncrypt keys (List.replicate 16 0))
  let sum := ghash h (padBlock aad ++ padBlock ct ++ bigEndian (8 * aad.length) 8 ++ bigEndian (8 * ct.length) 8)
  List.zipWith (· ^^^ ·) (bigEndian sum 16) (aesEncrypt keys (gcmCounter iv 1))

/-- AES-256-GCM encryption (R228): the ciphertext, and the tag behind it. -/
def gcmSeal (key iv aad pt : List Byte) : List Byte :=
  let keys := aesRoundKeys key
  let ct := gcmStream keys iv pt
  ct ++ gcmTag keys iv aad ct

/-- AES-256-GCM decryption (R228, R229): the plaintext, if the tag is good. -/
def gcmOpen (key iv aad ct tag : List Byte) : Option (List Byte) :=
  let keys := aesRoundKeys key
  if gcmTag keys iv aad ct = tag then some (gcmStream keys iv ct) else none

/-! ### SHA-384 -/

/-- The 80 round constants of SHA-384. -/
def sha5K : List Nat :=
  [0x428a2f98d728ae22, 0x7137449123ef65cd, 0xb5c0fbcfec4d3b2f, 0xe9b5dba58189dbbc, 0x3956c25bf348b538] ++
  [0x59f111f1b605d019, 0x923f82a4af194f9b, 0xab1c5ed5da6d8118, 0xd807aa98a3030242, 0x12835b0145706fbe] ++
  [0x243185be4ee4b28c, 0x550c7dc3d5ffb4e2, 0x72be5d74f27b896f, 0x80deb1fe3b1696b1, 0x9bdc06a725c71235] ++
  [0xc19bf174cf692694, 0xe49b69c19ef14ad2, 0xefbe4786384f25e3, 0x0fc19dc68b8cd5b5, 0x240ca1cc77ac9c65] ++
  [0x2de92c6f592b0275, 0x4a7484aa6ea6e483, 0x5cb0a9dcbd41fbd4, 0x76f988da831153b5, 0x983e5152ee66dfab] ++
  [0xa831c66d2db43210, 0xb00327c898fb213f, 0xbf597fc7beef0ee4, 0xc6e00bf33da88fc2, 0xd5a79147930aa725] ++
  [0x06ca6351e003826f, 0x142929670a0e6e70, 0x27b70a8546d22ffc, 0x2e1b21385c26c926, 0x4d2c6dfc5ac42aed] ++
  [0x53380d139d95b3df, 0x650a73548baf63de, 0x766a0abb3c77b2a8, 0x81c2c92e47edaee6, 0x92722c851482353b] ++
  [0xa2bfe8a14cf10364, 0xa81a664bbc423001, 0xc24b8b70d0f89791, 0xc76c51a30654be30, 0xd192e819d6ef5218] ++
  [0xd69906245565a910, 0xf40e35855771202a, 0x106aa07032bbd1b8, 0x19a4c116b8d2d0c8, 0x1e376c085141ab53] ++
  [0x2748774cdf8eeb99, 0x34b0bcb5e19b48a8, 0x391c0cb3c5c95a63, 0x4ed8aa4ae3418acb, 0x5b9cca4f7763e373] ++
  [0x682e6ff3d6b2b8a3, 0x748f82ee5defb2fc, 0x78a5636f43172f60, 0x84c87814a1f0ab72, 0x8cc702081a6439ec] ++
  [0x90befffa23631e28, 0xa4506cebde82bde9, 0xbef9a3f7b2c67915, 0xc67178f2e372532b, 0xca273eceea26619c] ++
  [0xd186b8c721c0c207, 0xeada7dd6cde0eb1e, 0xf57d4f7fee6ed178, 0x06f067aa72176fba, 0x0a637dc5a2c898a6] ++
  [0x113f9804bef90dae, 0x1b710b35131c471b, 0x28db77f523047d84, 0x32caab7b40c72493, 0x3c9ebe0a15c9bebc] ++
  [0x431d67c49c100d4c, 0x4cc5d4becb3e42b6, 0x597f299cfc657e2a, 0x5fcb6fab3ad6faec, 0x6c44198c4a475817]

/-- The initial hash value of SHA-384. -/
def sha384Init : List Nat :=
  [0xcbbb9d5dc1059ed8, 0x629a292a367cd507, 0x9159015a3070dd17, 0x152fecd8f70e5939,
   0x67332667ffc00b31, 0x8eb44a8768581511, 0xdb0c2e0d64f98fa7, 0x47b5481dbefa4fa4]

/-- Rotation of a 64-bit word to the right. -/
def rotr64 (v k : Nat) : Nat := rotl64 v (64 - k)

/-- The message schedule of SHA-384, latest word first, extended by `n` words. -/
def sha5Schedule : Nat → List Nat → List Nat
  | 0, w => w
  | n + 1, w =>
    let a := w.getD 14 0
    let b := w.getD 1 0
    let s0 := rotr64 a 1 ^^^ rotr64 a 8 ^^^ (a >>> 7)
    let s1 := rotr64 b 19 ^^^ rotr64 b 61 ^^^ (b >>> 6)
    sha5Schedule n ((s1 + w.getD 6 0 + s0 + w.getD 15 0) % 2 ^ 64 :: w)

/-- One round of SHA-384 on the eight working variables. -/
def sha5Round (v : List Nat) (kw : Nat × Nat) : List Nat :=
  match v with
  | [a, b, c, d, e, f, g, h] =>
    let s1 := rotr64 e 14 ^^^ rotr64 e 18 ^^^ rotr64 e 41
    let ch := (e &&& f) ^^^ ((2 ^ 64 - 1 - e) &&& g)
    let t1 := h + s1 + ch + kw.1 + kw.2
    let s0 := rotr64 a 28 ^^^ rotr64 a 34 ^^^ rotr64 a 39
    let maj := (a &&& b) ^^^ (a &&& c) ^^^ (b &&& c)
    [(t1 + s0 + maj) % 2 ^ 64, a, b, c, (d + t1) % 2 ^ 64, e, f, g]
  | v => v

/-- The compression of one 128-byte block. -/
def sha5Block (h : List Nat) (block : List Byte) : List Nat :=
  let words := (List.range 16).map fun i => bigNat ((block.drop (8 * i)).take 8)
  let w := (sha5Schedule 64 words.reverse).reverse
  List.zipWith (fun a b => (a + b) % 2 ^ 64) h ((sha5K.zip w).foldl sha5Round h)

/-- The compression of `n` blocks. -/
def sha5Blocks : Nat → List Nat → List Byte → List Nat
  | 0, h, _ => h
  | n + 1, h, bs => sha5Blocks n (sha5Block h (bs.take 128)) (bs.drop 128)

/-- SHA-384 of bytes: the 48-byte digest in the standard's byte order. -/
def sha384 (bs : List Byte) : List Byte :=
  let n := bs.length
  let msg := bs ++ [0x80#8] ++ List.replicate ((239 - n % 128) % 128) 0#8 ++ bigEndian (8 * n) 16
  (sha5Blocks (msg.length / 128) sha384Init msg).take 6 |>.flatMap fun w => bigEndian w 8

end Sys2Proof.Machine
end

