-- ==== Sys2Proof/Config.lean ====
section
/-! DEFINITION. What the manual leaves open: free values (constants without a body) and the functions of
public standards whose values the manual does not give. Nothing in Lean can evaluate them. -/
namespace Sys2Proof.Config

/-- A free byte, by the number of the free value drawn (log 2). -/
opaque freeByte : Nat → Byte

/-- A free number, by the number of the free value drawn (log 2). -/
opaque freeNat : Nat → Nat

/-- Whether an ECDSA P-384 signature over a message is valid under the key with the given digest
(R353, R335, R336; log 8). -/
opaque signatureValid : (keyDigest : Nat) → (message : List Byte) → (signature : Nat) → Bool

/-- What a receiver asks of its peer's transmitter at a Groundsheet tick, and whether its own margin is met: the contents of a
TS1 set's equalisation fields (R211, R214; log 63). -/
opaque equaliser : (gst port : Nat) → Nat

/-- The state of a port's scrambler before its first block (R206; log 63). -/
opaque scramblerSeed : (port : Nat) → Nat

/-- The address of a port's spill area within the firmware area (R155, R221; log 64). -/
opaque spillBase : (port : Nat) → Nat

/-- The payload of an SPDM, MCTP or PLDM answer that the manual names and does not lay out, by the
answer's code and the request's argument (R337, R340, R341; log 8). -/
opaque mgmtPayload : (code arg : Nat) → List Byte

/-- The MGT port's IPv6 link-local address, formed from its fused MAC address (R338; log 3). -/
opaque mgtLinkLocal : Nat

/-- The point `k` (0 to 15) of die `d`'s fused voltage table, in mV (R344; log 3). -/
opaque vfPoint : (die k : Nat) → Nat

/-- The SHA-384 digest of the Bexhus image key in the fuses (R353; log 3). -/
opaque imageKeyDigest : Nat

/-- The bound in ticks of an installed library routine (0x8000 to 0xFFFF), from its arguments (R99; log 9). -/
opaque libraryBound : (routine : Nat) → (args : List Nat) → Nat

/-- The resident version of a library routine under the library firmware of a version (R99; log 9). -/
opaque routineVersion : (firmware routine : Nat) → Nat

/-- The correctly rounded value where the interval evaluation of a stage function does not settle
(R122; log 10). -/
opaque stageTie : (func x : Nat) → Nat

/-- Whether CLK32K is present at the start of a given number (R376): the board's input, which no command names
(log 24). -/
opaque clk32kPresent : (boots : Nat) → Bool

/-- The region that sends over a crossing, and the one that receives; 288 and above stand for a PHY domain: the device has 1,216
crossings (R29), and the manual does not list their ends (log 52). -/
opaque xingSrc : (crossing : Nat) → Nat

/-- See xingSrc. -/
opaque xingDst : (crossing : Nat) → Nat

/-- The frequency in MHz that the droop of a region's supply allows at a Groundsheet tick (R45; log 44). -/
opaque droopMhz : (gst region : Nat) → Nat

/-- The bytes of the summary vector that the plan with a digest keeps of each page (R185; log 18). -/
opaque summaryBytes : (digest : Nat) → Nat

end Sys2Proof.Config
end

