-- ==== Sys2Proof/Machine/Assoc.lean ====
section
/-! DEFINITION. Sparse maps as plain data: a list of (key, value) pairs with keys rising, in which no
entry equals the default value. State holds its registers, cores, ports, queues and memories so. -/
namespace Sys2Proof.Machine

/-- A sparse map from numbers. -/
abbrev Assoc (α : Type) := List (Nat × α)

/-- The entry at `k`, if one is listed. -/
def Assoc.find {α : Type} (l : Assoc α) (k : Nat) : Option α :=
  match l with
  | [] => none
  | (k', v) :: t => if k = k' then some v else Assoc.find t k

/-- The list with `v` listed at `k`. -/
def Assoc.insert {α : Type} (l : Assoc α) (k : Nat) (v : α) : Assoc α :=
  match l with
  | [] => [(k, v)]
  | (k', v') :: t =>
    if k < k' then (k, v) :: (k', v') :: t
    else if k = k' then (k, v) :: t
    else (k', v') :: Assoc.insert t k v

/-- The list with nothing listed at `k`. -/
def Assoc.erase {α : Type} (l : Assoc α) (k : Nat) : Assoc α :=
  l.filter (fun e => e.1 != k)

/-- The value at `k`: the listed one, or the default `d`. -/
def Assoc.get {α : Type} (d : α) (l : Assoc α) (k : Nat) : α := (Assoc.find l k).getD d

/-- The map with value `v` at `k`; a value equal to the default is not listed. -/
def Assoc.put {α : Type} [DecidableEq α] (d : α) (l : Assoc α) (k : Nat) (v : α) : Assoc α :=
  if v = d then Assoc.erase l k else Assoc.insert l k v

/-- The keys rise strictly. -/
def Assoc.sorted {α : Type} : Assoc α → Bool
  | [] => true
  | (k, _) :: t => (t.all fun e => decide (k < e.1)) && Assoc.sorted t

/-- The canonical form: keys rising and no entry equal to the default. -/
def Assoc.wf {α : Type} [DecidableEq α] (d : α) (l : Assoc α) : Bool :=
  Assoc.sorted l && l.all fun e => decide (e.2 ≠ d)

/-- Consecutive keys from `k` take the values of a list. -/
def Assoc.putRange {α : Type} [DecidableEq α] (d : α) (l : Assoc α) (k : Nat) : List α → Assoc α
  | [] => l
  | v :: vs => Assoc.putRange d (Assoc.put d l k v) (k + 1) vs

/-- The largest power of two, as an exponent, that a search over bits `0 .. n-1` finds set first:
the least set bit of `v` below `n`. -/
def leastBit (v n : Nat) : Option Nat := (List.range n).find? fun k => v.testBit k

end Sys2Proof.Machine
end

