-- ==== Sys2Proof/Machine/RegTable.lean ====
section
/-! DEFINITION. The BAR0 registers (spec/01 R19 to R22 and the register tables of spec/02 to spec/17):
every field under the manual's own name, with its offset, place, access code and reset value (R8).
A reset value marked HW in the manual is the value of log entry 3. -/
namespace Sys2Proof.Machine

/-- One field of a register, or of each register of an indexed run: the BAR0 offset of the first
register, the distance to the next, the lowest bit, the width and the value at reset. -/
structure Field where
  off : Nat
  stride : Nat
  lo : Nat
  width : Nat
  reset : Nat
  deriving DecidableEq, Repr

/-- The access codes of spec/00. -/
inductive Access
  | ro
  | rw
  | rw1c
  | wo
  | rgo
  deriving DecidableEq, Repr

/-- One register, or an indexed run of registers: its first offset, the distance to the next, how many,
its size in bytes and its fields. A run of runs (a port's counters) has `modulus` and `limit`: index
`i` names a register only when `i % modulus < limit`. Indices below `first` are reserved. -/
structure RegRow where
  off : Nat
  stride : Nat
  count : Nat
  modulus : Nat
  limit : Nat
  bytes : Nat
  first : Nat
  fields : List (Field × Access)
  deriving DecidableEq, Repr

/-- Where State holds the field of register number `i`. -/
def Field.key (f : Field) (i : Nat) : Nat := (f.off + f.stride * i) * 64 + f.lo

/-- The value of a field of register number `i`. -/
def Regs.get (m : Assoc Nat) (f : Field) (i : Nat) : Nat := Assoc.get f.reset m (f.key i)

/-- A field of register number `i` takes the low bits of `v`. -/
def Regs.set (m : Assoc Nat) (f : Field) (i v : Nat) : Assoc Nat :=
  Assoc.put f.reset m (f.key i) (v % 2 ^ f.width)

/-! IDENT_DEVICE: offset 0x0000_0000, 32 bits. spec/01_device_organisation.md -/
/-- PART [15:0] RO, reset 0x0960: Part number -/
def IDENT_DEVICE.PART : Field := ⟨0x0, 0x0, 0, 16, 2400⟩
/-- STEP_MINOR [19:16] RO, reset 0x1: Stepping digit; 1 for A1 -/
def IDENT_DEVICE.STEP_MINOR : Field := ⟨0x0, 0x0, 16, 4, 1⟩
/-- STEP_MAJOR [23:20] RO, reset 0x1: Stepping letter; 1 = A -/
def IDENT_DEVICE.STEP_MAJOR : Field := ⟨0x0, 0x0, 20, 4, 1⟩
/-- GRADE [27:24] RO, reset HW: 0 = SZ960-LC, 1 = SZ960-LB -/
def IDENT_DEVICE.GRADE : Field := ⟨0x0, 0x0, 24, 4, 0⟩

/-! IDENT_COUNTS: offset 0x0000_0008, 64 bits. spec/01_device_organisation.md -/
/-- LCORES [15:0] RO, reset HW: Logical cores with VALID = 1; 256 (LC) or 224 (LB) unless spares are exhausted -/
def IDENT_COUNTS.LCORES : Field := ⟨0x8, 0x0, 0, 16, 256⟩
/-- PCORES [31:16] RO, reset 272: Physical cores -/
def IDENT_COUNTS.PCORES : Field := ⟨0x8, 0x0, 16, 16, 272⟩
/-- ENGINES [35:32] RO, reset 4: Engines per core -/
def IDENT_COUNTS.ENGINES : Field := ⟨0x8, 0x0, 32, 4, 4⟩
/-- DIES [39:36] RO, reset 2: Compute dies -/
def IDENT_COUNTS.DIES : Field := ⟨0x8, 0x0, 36, 4, 2⟩
/-- PORTS [47:40] RO, reset 18: Klonak ports -/
def IDENT_COUNTS.PORTS : Field := ⟨0x8, 0x0, 40, 8, 18⟩
/-- STACKS [51:48] RO, reset 12: Memory stacks -/
def IDENT_COUNTS.STACKS : Field := ⟨0x8, 0x0, 48, 4, 12⟩
/-- CMDPROC [55:52] RO, reset 4: Command processors per die -/
def IDENT_COUNTS.CMDPROC : Field := ⟨0x8, 0x0, 52, 4, 4⟩
/-- SELUNITS [63:56] RO, reset 16: Selection units -/
def IDENT_COUNTS.SELUNITS : Field := ⟨0x8, 0x0, 56, 8, 16⟩

/-! IDENT_SIZES: offset 0x0000_0010, 64 bits. spec/01_device_organisation.md -/
/-- SPAD_KIB [15:0] RO, reset 4096: Scratchpad per core, KiB -/
def IDENT_SIZES.SPAD_KIB : Field := ⟨0x10, 0x0, 0, 16, 4096⟩
/-- SPAD_BANKS [23:16] RO, reset 16: Banks per scratchpad -/
def IDENT_SIZES.SPAD_BANKS : Field := ⟨0x10, 0x0, 16, 8, 16⟩
/-- HUB_MIB [31:24] RO, reset 128: Hub cache per die, MiB -/
def IDENT_SIZES.HUB_MIB : Field := ⟨0x10, 0x0, 24, 8, 128⟩
/-- STACK_GB [39:32] RO, reset 48: Capacity per stack, GB -/
def IDENT_SIZES.STACK_GB : Field := ⟨0x10, 0x0, 32, 8, 48⟩
/-- ARRAY_DIM [47:40] RO, reset 32: Matrix array rows and columns -/
def IDENT_SIZES.ARRAY_DIM : Field := ⟨0x10, 0x0, 40, 8, 32⟩
/-- VLANES [55:48] RO, reset 32: Vector chain lanes -/
def IDENT_SIZES.VLANES : Field := ⟨0x10, 0x0, 48, 8, 32⟩
/-- VSTAGES [59:56] RO, reset 8: Vector chain stages -/
def IDENT_SIZES.VSTAGES : Field := ⟨0x10, 0x0, 56, 4, 8⟩
/-- VARIANTS [63:60] RO, reset 4: Plan variants a device holds -/
def IDENT_SIZES.VARIANTS : Field := ⟨0x10, 0x0, 60, 4, 4⟩

/-! IDENT_HOST: offset 0x0000_0018, 32 bits. spec/01_device_organisation.md -/
/-- MAX_VFS [7:0] RO, reset 255: Virtual functions supported -/
def IDENT_HOST.MAX_VFS : Field := ⟨0x18, 0x0, 0, 8, 255⟩
/-- QP_LOG2 [12:8] RO, reset 16: log2 of queue pairs -/
def IDENT_HOST.QP_LOG2 : Field := ⟨0x18, 0x0, 8, 5, 16⟩
/-- CTX_LOG2 [17:13] RO, reset 16: log2 of context descriptors -/
def IDENT_HOST.CTX_LOG2 : Field := ⟨0x18, 0x0, 13, 5, 16⟩
/-- MSIX_VEC [29:18] RO, reset 2048: MSI-X vectors per function -/
def IDENT_HOST.MSIX_VEC : Field := ⟨0x18, 0x0, 18, 12, 2048⟩

/-! IDENT_TICK_RATES: offset 0x0000_0020, 32 bits. spec/01_device_organisation.md -/
/-- RATES [4:0] RO, reset 0x1F: Bit set = rate supported; bit 0 1.50, bit 1 1.35, bit 2 1.20, bit 3 1.05, bit 4 0.90 GHz -/
def IDENT_TICK_RATES.RATES : Field := ⟨0x20, 0x0, 0, 5, 31⟩
/-- NOMINAL [7:5] RO, reset 0: Bit index in RATES of the nominal rate -/
def IDENT_TICK_RATES.NOMINAL : Field := ⟨0x20, 0x0, 5, 3, 0⟩

/-! IDENT_FORMATS: offset 0x0000_0028, 32 bits; a set bit means the format is supported as a matrix operand. spec/01_device_organisation.md -/
/-- FP4 [0] RO, reset 1: FP4 E2M1 -/
def IDENT_FORMATS.FP4 : Field := ⟨0x28, 0x0, 0, 1, 1⟩
/-- MXFP4 [1] RO, reset 1: MXFP4 -/
def IDENT_FORMATS.MXFP4 : Field := ⟨0x28, 0x0, 1, 1, 1⟩
/-- INT4 [2] RO, reset 1: INT4 -/
def IDENT_FORMATS.INT4 : Field := ⟨0x28, 0x0, 2, 1, 1⟩
/-- E4M3 [3] RO, reset 1: FP8 E4M3 -/
def IDENT_FORMATS.E4M3 : Field := ⟨0x28, 0x0, 3, 1, 1⟩
/-- E5M2 [4] RO, reset 1: FP8 E5M2 -/
def IDENT_FORMATS.E5M2 : Field := ⟨0x28, 0x0, 4, 1, 1⟩
/-- E2M3 [5] RO, reset 1: FP6 E2M3 -/
def IDENT_FORMATS.E2M3 : Field := ⟨0x28, 0x0, 5, 1, 1⟩
/-- E3M2 [6] RO, reset 1: FP6 E3M2 -/
def IDENT_FORMATS.E3M2 : Field := ⟨0x28, 0x0, 6, 1, 1⟩
/-- MXFP8 [7] RO, reset 1: MXFP8 -/
def IDENT_FORMATS.MXFP8 : Field := ⟨0x28, 0x0, 7, 1, 1⟩
/-- MXFP6 [8] RO, reset 1: MXFP6 -/
def IDENT_FORMATS.MXFP6 : Field := ⟨0x28, 0x0, 8, 1, 1⟩
/-- MXINT8 [9] RO, reset 1: MXINT8 -/
def IDENT_FORMATS.MXINT8 : Field := ⟨0x28, 0x0, 9, 1, 1⟩
/-- INT8 [10] RO, reset 1: INT8 -/
def IDENT_FORMATS.INT8 : Field := ⟨0x28, 0x0, 10, 1, 1⟩
/-- BF16 [11] RO, reset 1: BF16 -/
def IDENT_FORMATS.BF16 : Field := ⟨0x28, 0x0, 11, 1, 1⟩
/-- FP16 [12] RO, reset 1: FP16 -/
def IDENT_FORMATS.FP16 : Field := ⟨0x28, 0x0, 12, 1, 1⟩
/-- FP32 [13] RO, reset 1: FP32 -/
def IDENT_FORMATS.FP32 : Field := ⟨0x28, 0x0, 13, 1, 1⟩

/-! IDENT_DOMAIN: offset 0x0000_0030, 32 bits. spec/01_device_organisation.md -/
/-- MAX_LOG2 [4:0] RO, reset 14: log2 of the largest schedule domain -/
def IDENT_DOMAIN.MAX_LOG2 : Field := ⟨0x30, 0x0, 0, 5, 14⟩
/-- DEVICE_ID [29:16] RO, reset 0: This device's ID; meaningful only when ID_VALID = 1 -/
def IDENT_DOMAIN.DEVICE_ID : Field := ⟨0x30, 0x0, 16, 14, 0⟩
/-- ID_VALID [31] RO, reset 0: 1 once Fabric and Routing's ID assignment has completed -/
def IDENT_DOMAIN.ID_VALID : Field := ⟨0x30, 0x0, 31, 1, 0⟩

/-! IDENT_MAP_GEN: offset 0x0000_0038, 32 bits. spec/01_device_organisation.md -/
/-- GEN [31:0] RO, reset 0: Logical core map generation, incremented under R14; wraps at 2³² -/
def IDENT_MAP_GEN.GEN : Field := ⟨0x38, 0x0, 0, 32, 0⟩

/-! CLK_STATUS: offset 0x0001_0000, 32 bits. spec/02_logical_time_and_clocking.md -/
/-- RATE_IDX [2:0] RO, reset 0: Current tick rate, as a bit index of IDENT_TICK_RATES.RATES -/
def CLK_STATUS.RATE_IDX : Field := ⟨0x10000, 0x0, 0, 3, 0⟩
/-- SOURCE [3] RO, reset 0: 0 REFCLK, 1 holdover oscillator -/
def CLK_STATUS.SOURCE : Field := ⟨0x10000, 0x0, 3, 1, 0⟩
/-- LOCKED [4] RO, reset 0: Lock state under R35 -/
def CLK_STATUS.LOCKED : Field := ⟨0x10000, 0x0, 4, 1, 0⟩
/-- KEEPER [5] RO, reset 0: 1 = this device is the time keeper -/
def CLK_STATUS.KEEPER : Field := ⟨0x10000, 0x0, 5, 1, 0⟩
/-- HOLD_FRAMES [9:6] RO, reset 0: Frame boundaries crossed in the current holdover -/
def CLK_STATUS.HOLD_FRAMES : Field := ⟨0x10000, 0x0, 6, 4, 0⟩

/-! CLK_SYNC: offset 0x0001_0010, 64 bits. spec/02_logical_time_and_clocking.md -/
/-- PARENT_PORT [4:0] RO, reset 31: Parent port number, 0 to 17; 31 = none -/
def CLK_SYNC.PARENT_PORT : Field := ⟨0x10010, 0x0, 0, 5, 31⟩
/-- HOPS [10:5] RO, reset 63: Hop count to the time keeper; 63 = unknown -/
def CLK_SYNC.HOPS : Field := ⟨0x10010, 0x0, 5, 6, 63⟩
/-- OFFSET [27:12] RO, reset 0: Mean offset to parent over the last interval, signed, 1/16 tick -/
def CLK_SYNC.OFFSET : Field := ⟨0x10010, 0x0, 12, 16, 0⟩
/-- STEER_PPB [51:32] RO, reset 0: Current steering, signed, ppb -/
def CLK_SYNC.STEER_PPB : Field := ⟨0x10010, 0x0, 32, 20, 0⟩

/-! CLK_STEER_CFG: offset 0x0001_0018, 32 bits. spec/02_logical_time_and_clocking.md -/
/-- INTERVAL_LOG2 [4:0] RW, reset 12: Steering interval 2^n ticks; 10 to 16; other values are ignored on write -/
def CLK_STEER_CFG.INTERVAL_LOG2 : Field := ⟨0x10018, 0x0, 0, 5, 12⟩
/-- KP [15:8] RW, reset 20: Proportional gain, 1,000 ppb per tick -/
def CLK_STEER_CFG.KP : Field := ⟨0x10018, 0x0, 8, 8, 20⟩
/-- KI [23:16] RW, reset 10: Integral gain, 100 ppb per tick-interval -/
def CLK_STEER_CFG.KI : Field := ⟨0x10018, 0x0, 16, 8, 10⟩

/-! CLK_RATE_REQ: offset 0x0001_0020, 32 bits. spec/02_logical_time_and_clocking.md -/
/-- RATE_IDX [2:0] WO, reset —: Requested tick rate -/
def CLK_RATE_REQ.RATE_IDX : Field := ⟨0x10020, 0x0, 0, 3, 0⟩
/-- GO [31] WO, reset —: 1 = submit the request under R37 and R38 -/
def CLK_RATE_REQ.GO : Field := ⟨0x10020, 0x0, 31, 1, 0⟩

/-! CLK_RATE_STATE: offset 0x0001_0024, 32 bits. spec/02_logical_time_and_clocking.md -/
/-- PENDING [0] RO, reset 0: 1 = a change is announced and not yet done -/
def CLK_RATE_STATE.PENDING : Field := ⟨0x10024, 0x0, 0, 1, 0⟩
/-- TARGET_IDX [3:1] RO, reset 0: Rate of the pending or last change -/
def CLK_RATE_STATE.TARGET_IDX : Field := ⟨0x10024, 0x0, 1, 3, 0⟩
/-- RESULT [6:4] RO, reset 0: 0 none, 1 done, 2 cancelled as unsupported, 3 cancelled for a missing acknowledgement, 4 ignored as a duplicate, 5 cancelled by a Roll Call epoch change (R279); 6 and 7 not used -/
def CLK_RATE_STATE.RESULT : Field := ⟨0x10024, 0x0, 4, 3, 0⟩

/-! CLK_RATE_AT: offset 0x0001_0028, 64 bits. spec/02_logical_time_and_clocking.md -/
/-- BOUNDARY [63:0] RO, reset 0: Groundsheet tick B of the pending or last change -/
def CLK_RATE_AT.BOUNDARY : Field := ⟨0x10028, 0x0, 0, 64, 0⟩

/-! CLK_HOLDOVER: offset 0x0001_0030, 32 bits. spec/02_logical_time_and_clocking.md -/
/-- FRAMES [3:0] RW, reset 2: Holdover limit in frame boundaries, 1 to 15; a write of 0 is ignored -/
def CLK_HOLDOVER.FRAMES : Field := ⟨0x10030, 0x0, 0, 4, 2⟩
/-- IDLE_MS [15:8] RW, reset 100: Holdover limit with no plan running, 1 to 255 ms; a write of 0 is ignored -/
def CLK_HOLDOVER.IDLE_MS : Field := ⟨0x10030, 0x0, 8, 8, 100⟩

/-! CLK_EVENT: offset 0x0001_0038, 32 bits. spec/02_logical_time_and_clocking.md -/
/-- REF_LOST [0] RW1C, reset 0: Reference loss declared -/
def CLK_EVENT.REF_LOST : Field := ⟨0x10038, 0x0, 0, 1, 0⟩
/-- REF_BACK [1] RW1C, reset 0: Switched back to REFCLK -/
def CLK_EVENT.REF_BACK : Field := ⟨0x10038, 0x0, 1, 1, 0⟩
/-- SLACK_EXH [2] RW1C, reset 0: Slack exhausted in some region -/
def CLK_EVENT.SLACK_EXH : Field := ⟨0x10038, 0x0, 2, 1, 0⟩
/-- DEBT_HIGH [3] RW1C, reset 0: Debt ≥ DEBT_THRESH for WINDOW_US -/
def CLK_EVENT.DEBT_HIGH : Field := ⟨0x10038, 0x0, 3, 1, 0⟩
/-- OSC_FLOOR [4] RW1C, reset 0: Oscillator held at 0.90 GHz for WINDOW_US -/
def CLK_EVENT.OSC_FLOOR : Field := ⟨0x10038, 0x0, 4, 1, 0⟩
/-- CLAMP_PINNED [5] RW1C, reset 0: Clamp below ceiling for WINDOW_US -/
def CLK_EVENT.CLAMP_PINNED : Field := ⟨0x10038, 0x0, 5, 1, 0⟩
/-- STEER_PINNED [6] RW1C, reset 0: Steering at its limit for WINDOW_US -/
def CLK_EVENT.STEER_PINNED : Field := ⟨0x10038, 0x0, 6, 1, 0⟩
/-- CEIL_REJECT [7] RW1C, reset 0: Ceiling write refused -/
def CLK_EVENT.CEIL_REJECT : Field := ⟨0x10038, 0x0, 7, 1, 0⟩
/-- CEIL_PENDING [8] RW1C, reset 0: Ceiling change pending for WINDOW_US -/
def CLK_EVENT.CEIL_PENDING : Field := ⟨0x10038, 0x0, 8, 1, 0⟩
/-- RATE_CANCEL [9] RW1C, reset 0: Tick-rate change cancelled -/
def CLK_EVENT.RATE_CANCEL : Field := ⟨0x10038, 0x0, 9, 1, 0⟩
/-- LOCK_LOST [10] RW1C, reset 0: LOCKED fell to 0 -/
def CLK_EVENT.LOCK_LOST : Field := ⟨0x10038, 0x0, 10, 1, 0⟩
/-- GL_MISMATCH [11] RW1C, reset 0: Guyline frame marker more than 16 ticks off -/
def CLK_EVENT.GL_MISMATCH : Field := ⟨0x10038, 0x0, 11, 1, 0⟩

/-! CLK_EVENT_REGION: offset 0x0001_003C, 32 bits. spec/02_logical_time_and_clocking.md -/
/-- REGION [8:0] RO, reset 0: Index r of the first region to raise a region event since VALID was cleared -/
def CLK_EVENT_REGION.REGION : Field := ⟨0x1003C, 0x0, 0, 9, 0⟩
/-- VALID [31] RW1C, reset 0: 1 = REGION holds an index -/
def CLK_EVENT_REGION.VALID : Field := ⟨0x1003C, 0x0, 31, 1, 0⟩

/-! CLK_PIN_CFG: offset 0x0001_0040, 32 bits. spec/02_logical_time_and_clocking.md -/
/-- WINDOW_US [7:0] RW, reset 10: Pinned-loop window, 1 to 255 µs; a write of 0 is ignored -/
def CLK_PIN_CFG.WINDOW_US : Field := ⟨0x10040, 0x0, 0, 8, 10⟩
/-- DEBT_THRESH [14:8] RW, reset 32: Debt threshold for DEBT_HIGH, 1 to 64 ticks -/
def CLK_PIN_CFG.DEBT_THRESH : Field := ⟨0x10040, 0x0, 8, 7, 32⟩

/-! CLK_XING_COUNT: offset 0x0001_0048, 32 bits. spec/02_logical_time_and_clocking.md -/
/-- COUNT [15:0] RO, reset HW: Number of crossings; 1,216 on A1 -/
def CLK_XING_COUNT.COUNT : Field := ⟨0x10048, 0x0, 0, 16, 1216⟩

/-! CLK_XING_SEL: offset 0x0001_0050, 32 bits. spec/02_logical_time_and_clocking.md -/
/-- INDEX [11:0] RW, reset 0: Crossing shown in CLK_XING_RESULT, 0 to COUNT − 1 -/
def CLK_XING_SEL.INDEX : Field := ⟨0x10050, 0x0, 0, 12, 0⟩

/-! CLK_REGION_CEIL[r]: offset 0x0001_1000 + 4 × r, 32 bits. spec/02_logical_time_and_clocking.md -/
/-- CEIL_MHZ [10:0] RW, reset 1620: Oscillator ceiling under R40 and R41 -/
def CLK_REGION_CEIL.CEIL_MHZ : Field := ⟨0x11000, 0x4, 0, 11, 1620⟩

/-! CLK_REGION_DEBT[r]: offset 0x0001_2000 + 8 × r, 64 bits. spec/02_logical_time_and_clocking.md -/
/-- DEBT [6:0] RO, reset 0: Debt at the last REFCLK edge, ticks -/
def CLK_REGION_DEBT.DEBT : Field := ⟨0x12000, 0x8, 0, 7, 0⟩
/-- MAX_LIVE [14:8] RO, reset 0: Greatest debt in the current frame -/
def CLK_REGION_DEBT.MAX_LIVE : Field := ⟨0x12000, 0x8, 8, 7, 0⟩
/-- MAX_LAST [22:16] RO, reset 0: Greatest debt in the last frame, latched at the frame boundary -/
def CLK_REGION_DEBT.MAX_LAST : Field := ⟨0x12000, 0x8, 16, 7, 0⟩
/-- PEND [31] RO, reset 0: A ceiling change is pending -/
def CLK_REGION_DEBT.PEND : Field := ⟨0x12000, 0x8, 31, 1, 0⟩
/-- OSC_MHZ [42:32] RO, reset 0: Oscillator frequency over the last 160 ns release cycle -/
def CLK_REGION_DEBT.OSC_MHZ : Field := ⟨0x12000, 0x8, 32, 11, 0⟩
/-- CLAMP_MHZ [58:48] RO, reset 2047: Ranger clamp; 2047 = no clamp -/
def CLK_REGION_DEBT.CLAMP_MHZ : Field := ⟨0x12000, 0x8, 48, 11, 2047⟩

/-! PLAN_VAR_STATE[v]: offset 0x0004_0000 + 0x20 × v for v = 0 to 3, 64 bits. spec/03_plans_and_scheduled_execution.md -/
/-- STATE [2:0] RO, reset 0: 0 empty, 1 loading, 2 ready, 3 active, 4 unloading, 5 failed -/
def PLAN_VAR_STATE.STATE : Field := ⟨0x40000, 0x20, 0, 3, 0⟩
/-- ROLE [4:3] RO, reset 0: Header ROLE -/
def PLAN_VAR_STATE.ROLE : Field := ⟨0x40000, 0x20, 3, 2, 0⟩
/-- FOURCHIP [5] RO, reset 0: Header FLAGS[1] -/
def PLAN_VAR_STATE.FOURCHIP : Field := ⟨0x40000, 0x20, 5, 1, 0⟩
/-- PARAM [6] RO, reset 0: Header FLAGS[2] -/
def PLAN_VAR_STATE.PARAM : Field := ⟨0x40000, 0x20, 6, 1, 0⟩
/-- MULTI [7] RO, reset 0: Header FLAGS[0] -/
def PLAN_VAR_STATE.MULTI : Field := ⟨0x40000, 0x20, 7, 1, 0⟩
/-- REASON [15:8] RO, reset 0: Reason of the last refusal or failure -/
def PLAN_VAR_STATE.REASON : Field := ⟨0x40000, 0x20, 8, 8, 0⟩
/-- SLOTS [31:16] RO, reset 0: Header SLOTS -/
def PLAN_VAR_STATE.SLOTS : Field := ⟨0x40000, 0x20, 16, 16, 0⟩
/-- FRAME_LEN [58:32] RO, reset 0: Frame length in effect, ticks -/
def PLAN_VAR_STATE.FRAME_LEN : Field := ⟨0x40000, 0x20, 32, 27, 0⟩

/-! PLAN_VAR_ID[v]: offset 0x0004_0008 + 0x20 × v, 64 bits. spec/03_plans_and_scheduled_execution.md -/
/-- PLAN_ID [63:0] RO, reset 0: Header PLAN_ID -/
def PLAN_VAR_ID.PLAN_ID : Field := ⟨0x40008, 0x20, 0, 64, 0⟩

/-! PLAN_VAR_VTICKS[v]: offset 0x0004_0010 + 0x20 × v, 32 bits. spec/03_plans_and_scheduled_execution.md -/
/-- VERDICT_TICKS [20:0] RO, reset 0: Header VERDICT_TICKS -/
def PLAN_VAR_VTICKS.VERDICT_TICKS : Field := ⟨0x40010, 0x20, 0, 21, 0⟩

/-! PLAN_VAR_DIGEST[v, k]: offset 0x0004_0080 + 0x20 × v + 8 × k for k = 0 to 3, 64 bits. spec/03_plans_and_scheduled_execution.md -/
/-- DIGEST [63:0] RO, reset 0: Bytes 8k to 8k + 7 of the header DIGEST -/
def PLAN_VAR_DIGEST.DIGEST : Field := ⟨0x40080, 0x8, 0, 64, 0⟩

/-! PLAN_FRAME_CTRL: offset 0x0004_0100, 32 bits. spec/03_plans_and_scheduled_execution.md -/
/-- RUN [0] RO, reset 0: 1 = frames are running -/
def PLAN_FRAME_CTRL.RUN : Field := ⟨0x40100, 0x0, 0, 1, 0⟩
/-- ACTIVE [2:1] RO, reset 0: Active variant slot; meaningful when a variant is active -/
def PLAN_FRAME_CTRL.ACTIVE : Field := ⟨0x40100, 0x0, 1, 2, 0⟩
/-- ABORT_MODE [3] RO, reset 0: 1 = current frame runs in abort mode -/
def PLAN_FRAME_CTRL.ABORT_MODE : Field := ⟨0x40100, 0x0, 3, 1, 0⟩
/-- RERUN_LIMIT [7:4] RW, reset 1: Reruns permitted under R60, 0 to 15; frames stop at the (RERUN_LIMIT + 1)-th consecutive abort -/
def PLAN_FRAME_CTRL.RERUN_LIMIT : Field := ⟨0x40100, 0x0, 4, 4, 1⟩

/-! PLAN_FRAME_SEQ: offset 0x0004_0108, 64 bits. spec/03_plans_and_scheduled_execution.md -/
/-- SEQ [63:0] RO, reset 0: Frames started since reset -/
def PLAN_FRAME_SEQ.SEQ : Field := ⟨0x40108, 0x0, 0, 64, 0⟩

/-! PLAN_STEP: offset 0x0004_0110, 64 bits. spec/03_plans_and_scheduled_execution.md -/
/-- STEP [63:0] RO, reset 0: Frames committed since reset -/
def PLAN_STEP.STEP : Field := ⟨0x40110, 0x0, 0, 64, 0⟩

/-! PLAN_NEXT_START: offset 0x0004_0118, 64 bits. spec/03_plans_and_scheduled_execution.md -/
/-- TICK [63:0] RO, reset All ones: Groundsheet tick of the next frame start; all ones when none -/
def PLAN_NEXT_START.TICK : Field := ⟨0x40118, 0x0, 0, 64, 18446744073709551615⟩

/-! PLAN_CONFIG: offset 0x0004_0120, 64 bits. spec/03_plans_and_scheduled_execution.md -/
/-- LIVE [31:0] RO, reset 0: Configuration number of the live configuration -/
def PLAN_CONFIG.LIVE : Field := ⟨0x40120, 0x0, 0, 32, 0⟩
/-- STAGED [63:32] RO, reset 0: Configuration number of the closed set; 0 = none -/
def PLAN_CONFIG.STAGED : Field := ⟨0x40120, 0x0, 32, 32, 0⟩

/-! PLAN_PATCH_STATE: offset 0x0004_0128, 32 bits. spec/03_plans_and_scheduled_execution.md -/
/-- OPEN_ENTRIES [16:0] RO, reset 0: Entries in the open set -/
def PLAN_PATCH_STATE.OPEN_ENTRIES : Field := ⟨0x40128, 0x0, 0, 17, 0⟩
/-- CLOSED [17] RO, reset 0: 1 = a set is closed -/
def PLAN_PATCH_STATE.CLOSED : Field := ⟨0x40128, 0x0, 17, 1, 0⟩
/-- PHASE [19:18] RO, reset 0: 0 none, 1 awaiting apply tick, 2 phase 1 table writes running, 3 awaiting phase 2 -/
def PLAN_PATCH_STATE.PHASE : Field := ⟨0x40128, 0x0, 18, 2, 0⟩
/-- RESULT [22:20] RO, reset 0: Last set: 0 none, 1 applied, 2 discarded for epoch, 3 refused under R68 -/
def PLAN_PATCH_STATE.RESULT : Field := ⟨0x40128, 0x0, 20, 3, 0⟩
/-- DROPPED [31:23] RO, reset 0: Entries dropped under R58 at the last apply; saturates at 511 -/
def PLAN_PATCH_STATE.DROPPED : Field := ⟨0x40128, 0x0, 23, 9, 0⟩

/-! PLAN_SNAP_GEN: offset 0x0004_0200, 32 bits. spec/03_plans_and_scheduled_execution.md -/
/-- GEN [31:0] RO, reset 0: Snapshot generation under R73; wraps at 2³² -/
def PLAN_SNAP_GEN.GEN : Field := ⟨0x40200, 0x0, 0, 32, 0⟩

/-! PLAN_SNAP_FRAME: offset 0x0004_0208, 64 bits. spec/03_plans_and_scheduled_execution.md -/
/-- SEQ [63:0] RO, reset 0: PLAN_FRAME_SEQ of the frame the snapshot describes -/
def PLAN_SNAP_FRAME.SEQ : Field := ⟨0x40208, 0x0, 0, 64, 0⟩

/-! PLAN_SNAP_INFO: offset 0x0004_0210, 64 bits. spec/03_plans_and_scheduled_execution.md -/
/-- VERDICT [1:0] RO, reset 0: 0 committed, 1 aborted locally, 2 aborted on another device, 3 stopped -/
def PLAN_SNAP_INFO.VERDICT : Field := ⟨0x40210, 0x0, 0, 2, 0⟩
/-- CAUSE [15:8] RO, reset 0: Cause of the first fault; 0 if none -/
def PLAN_SNAP_INFO.CAUSE : Field := ⟨0x40210, 0x0, 8, 8, 0⟩
/-- FAULTS [31:16] RO, reset 0: Schedule faults in the frame; saturates at 65,535 -/
def PLAN_SNAP_INFO.FAULTS : Field := ⟨0x40210, 0x0, 16, 16, 0⟩
/-- CONFIG [63:32] RO, reset 0: PLAN_CONFIG.LIVE during the frame -/
def PLAN_SNAP_INFO.CONFIG : Field := ⟨0x40210, 0x0, 32, 32, 0⟩

/-! PLAN_FAULT_HEAD: offset 0x0004_0300, 32 bits. spec/03_plans_and_scheduled_execution.md -/
/-- HEAD [5:0] RO, reset 0: Next log entry to be written -/
def PLAN_FAULT_HEAD.HEAD : Field := ⟨0x40300, 0x0, 0, 6, 0⟩
/-- TAIL [13:8] RW, reset 0: First unread entry under R72 -/
def PLAN_FAULT_HEAD.TAIL : Field := ⟨0x40300, 0x0, 8, 6, 0⟩
/-- UNREAD [22:16] RO, reset 0: Unread records, 0 to 64 -/
def PLAN_FAULT_HEAD.UNREAD : Field := ⟨0x40300, 0x0, 16, 7, 0⟩
/-- OVF [31] RW1C, reset 0: An unread record was overwritten -/
def PLAN_FAULT_HEAD.OVF : Field := ⟨0x40300, 0x0, 31, 1, 0⟩

/-! PLAN_PWR_SNAP[r]: offset 0x0004_4000 + 4 × r, r = 144 × d + i, 32 bits. spec/03_plans_and_scheduled_execution.md -/
/-- PEAK [15:0] RO, reset 0: Greatest interval average in the last frame, 1/16 PU -/
def PLAN_PWR_SNAP.PEAK : Field := ⟨0x44000, 0x4, 0, 16, 0⟩
/-- HEADROOM [31:16] RO, reset 0xFFFF: Least of limit minus average over the last frame's intervals, 1/16 PU; 0 if any interval's average exceeded its limit (R76) -/
def PLAN_PWR_SNAP.HEADROOM : Field := ⟨0x44000, 0x4, 16, 16, 65535⟩

/-! MEM_LAYOUT: offset 0x0020_0000, 64 bits. spec/08_memory_system_and_dma.md -/
/-- DIE_BYTES [39:0] RO, reset 0x43_0E23_4000: Bytes per die under R154 -/
def MEM_LAYOUT.DIE_BYTES : Field := ⟨0x200000, 0x0, 0, 40, 288000000000⟩
/-- RSV_GIB [47:40] RO, reset 4: Reserved area per die, GiB -/
def MEM_LAYOUT.RSV_GIB : Field := ⟨0x200000, 0x0, 40, 8, 4⟩
/-- GRAN_LOG2 [52:48] RO, reset 14: log2 of the translation granule -/
def MEM_LAYOUT.GRAN_LOG2 : Field := ⟨0x200000, 0x0, 48, 5, 14⟩

/-! MEM_TIMING: offset 0x0020_0008, 64 bits. spec/08_memory_system_and_dma.md -/
/-- REQ_NEAR [9:0] RO, reset 160: Ticks -/
def MEM_TIMING.REQ_NEAR : Field := ⟨0x200008, 0x0, 0, 10, 160⟩
/-- REQ_FAR [19:10] RO, reset 192: Ticks -/
def MEM_TIMING.REQ_FAR : Field := ⟨0x200008, 0x0, 10, 10, 192⟩
/-- RD_NEAR [29:20] RO, reset 480: Ticks -/
def MEM_TIMING.RD_NEAR : Field := ⟨0x200008, 0x0, 20, 10, 480⟩
/-- RD_FAR [39:30] RO, reset 544: Ticks -/
def MEM_TIMING.RD_FAR : Field := ⟨0x200008, 0x0, 30, 10, 544⟩
/-- WR_NEAR [49:40] RO, reset 320: Ticks -/
def MEM_TIMING.WR_NEAR : Field := ⟨0x200008, 0x0, 40, 10, 320⟩
/-- WR_FAR [59:50] RO, reset 384: Ticks -/
def MEM_TIMING.WR_FAR : Field := ⟨0x200008, 0x0, 50, 10, 384⟩

/-! MEM_TIMING2: offset 0x0020_0010, 32 bits. spec/08_memory_system_and_dma.md -/
/-- WALK [9:0] RO, reset 128: Ticks -/
def MEM_TIMING2.WALK : Field := ⟨0x200010, 0x0, 0, 10, 128⟩
/-- HOP_NEAR [19:10] RO, reset 24: Ticks -/
def MEM_TIMING2.HOP_NEAR : Field := ⟨0x200010, 0x0, 10, 10, 24⟩
/-- HOP_FAR [29:20] RO, reset 56: Ticks -/
def MEM_TIMING2.HOP_FAR : Field := ⟨0x200010, 0x0, 20, 10, 56⟩

/-! MEM_BUDGET: offset 0x0020_0018, 32 bits. spec/08_memory_system_and_dma.md -/
/-- STACK16 [8:0] RO, reset 283: Bursts per stack per 16 ticks -/
def MEM_BUDGET.STACK16 : Field := ⟨0x200018, 0x0, 0, 9, 283⟩
/-- PC64 [14:9] RO, reset 18: Bursts per pseudo-channel per 64 ticks -/
def MEM_BUDGET.PC64 : Field := ⟨0x200018, 0x0, 9, 6, 18⟩
/-- BRIDGE16 [28:15] RO, reset 8192: Bridge bytes per direction per 16 ticks -/
def MEM_BUDGET.BRIDGE16 : Field := ⟨0x200018, 0x0, 15, 14, 8192⟩

/-! MEM_STATUS: offset 0x0020_0020, 32 bits. spec/08_memory_system_and_dma.md -/
/-- TRAINED [11:0] RO, reset 0: Bit s = stack s trained -/
def MEM_STATUS.TRAINED : Field := ⟨0x200020, 0x0, 0, 12, 0⟩
/-- FULL_RATE [12] RO, reset 0: 1 = 7.8125 Gb/s under R152 -/
def MEM_STATUS.FULL_RATE : Field := ⟨0x200020, 0x0, 12, 1, 0⟩
/-- SCRUB_PASSES [31:16] RO, reset 0: Scrub passes completed since reset -/
def MEM_STATUS.SCRUB_PASSES : Field := ⟨0x200020, 0x0, 16, 16, 0⟩

/-! MEM_CRYPT: offset 0x0020_0028, 32 bits. spec/08_memory_system_and_dma.md -/
/-- ENABLED [0] RGO, reset 1: Encryption in force -/
def MEM_CRYPT.ENABLED : Field := ⟨0x200028, 0x0, 0, 1, 1⟩
/-- KEY_EPOCH [31:8] RGO, reset HW: Key generations since manufacture -/
def MEM_CRYPT.KEY_EPOCH : Field := ⟨0x200028, 0x0, 8, 24, 0⟩

/-! MEM_ECC_SNAP[s]: offset 0x0020_0100 + 8 × s for stack s = 0 to 11, 64 bits. spec/08_memory_system_and_dma.md -/
/-- CE [31:0] RO, reset 0: Corrected bursts in the last frame -/
def MEM_ECC_SNAP.CE : Field := ⟨0x200100, 0x8, 0, 32, 0⟩
/-- UE [47:32] RO, reset 0: Uncorrectable bursts in the last frame -/
def MEM_ECC_SNAP.UE : Field := ⟨0x200100, 0x8, 32, 16, 0⟩
/-- HOT [48] RO, reset 0: Stack above 85 °C during the last frame -/
def MEM_ECC_SNAP.HOT : Field := ⟨0x200100, 0x8, 48, 1, 0⟩

/-! MEM_ECC_LAST: offset 0x0020_0200, 64 bits. spec/08_memory_system_and_dma.md -/
/-- BURST [41:0] RO, reset 0: Physical offset bits [47:6] -/
def MEM_ECC_LAST.BURST : Field := ⟨0x200200, 0x0, 0, 42, 0⟩
/-- UE [42] RO, reset 0: 1 = uncorrectable; 0 = granule at the corrected-error limit -/
def MEM_ECC_LAST.UE : Field := ⟨0x200200, 0x0, 42, 1, 0⟩
/-- SCHED [43] RO, reset 0: 1 = found on a scheduled access -/
def MEM_ECC_LAST.SCHED : Field := ⟨0x200200, 0x0, 43, 1, 0⟩
/-- STACK [47:44] RO, reset 0: Stack -/
def MEM_ECC_LAST.STACK : Field := ⟨0x200200, 0x0, 44, 4, 0⟩
/-- VALID [63] RW1C, reset 0: Entry holds a new record; a later record overwrites it -/
def MEM_ECC_LAST.VALID : Field := ⟨0x200200, 0x0, 63, 1, 0⟩

/-! MEM_PF_CFG: offset 0x0020_0300, 32 bits. spec/08_memory_system_and_dma.md -/
/-- ENABLE [0] RW, reset 1: Prefetch enabled -/
def MEM_PF_CFG.ENABLE : Field := ⟨0x200300, 0x0, 0, 1, 1⟩
/-- MAX_DEPTH [7:1] RW, reset 32: Greatest depth, 4 to 64 bursts; other values are ignored on write -/
def MEM_PF_CFG.MAX_DEPTH : Field := ⟨0x200300, 0x0, 1, 7, 32⟩
/-- IDLE_LOG2 [12:8] RW, reset 16: Tracker idle limit, 2^n ticks, 10 to 20 -/
def MEM_PF_CFG.IDLE_LOG2 : Field := ⟨0x200300, 0x0, 8, 5, 16⟩

/-! SRV_SEL_STATE[u]: offset 0x0040_0000 + 8 × u for u = 0 to 15, 64 bits. spec/09_serving_functions.md -/
/-- BUSY [0] RO, reset 0: 1 = a job is running -/
def SRV_SEL_STATE.BUSY : Field := ⟨0x400000, 0x8, 0, 1, 0⟩
/-- JOB [15:8] RO, reset 0: Index of the current or last job -/
def SRV_SEL_STATE.JOB : Field := ⟨0x400000, 0x8, 8, 8, 0⟩
/-- JOBS [23:16] RO, reset 0: Jobs in the copied table -/
def SRV_SEL_STATE.JOBS : Field := ⟨0x400000, 0x8, 16, 8, 0⟩
/-- TABLE_LINE [47:32] RO, reset 0: First line of the table, from p58 -/
def SRV_SEL_STATE.TABLE_LINE : Field := ⟨0x400000, 0x8, 32, 16, 0⟩

/-! SRV_SEL_SNAP[u]: offset 0x0040_0100 + 8 × u, 64 bits. spec/09_serving_functions.md -/
/-- JOBS [7:0] RO, reset 0: Jobs run in the last frame -/
def SRV_SEL_SNAP.JOBS : Field := ⟨0x400100, 0x8, 0, 8, 0⟩
/-- BUBBLES [15:8] RO, reset 0: Of which bubbles -/
def SRV_SEL_SNAP.BUBBLES : Field := ⟨0x400100, 0x8, 8, 8, 0⟩
/-- PROPOSED [31:16] RO, reset 0: Proposals examined -/
def SRV_SEL_SNAP.PROPOSED : Field := ⟨0x400100, 0x8, 16, 16, 0⟩
/-- ACCEPTED [47:32] RO, reset 0: Proposals accepted -/
def SRV_SEL_SNAP.ACCEPTED : Field := ⟨0x400100, 0x8, 32, 16, 0⟩
/-- COMMITTED [63:48] RO, reset 0: Tokens in the commit list -/
def SRV_SEL_SNAP.COMMITTED : Field := ⟨0x400100, 0x8, 48, 16, 0⟩

/-! SRV_SEL_SNAP2[u]: offset 0x0040_0180 + 8 × u, 32 bits. spec/09_serving_functions.md -/
/-- NAN [15:0] RO, reset 0: NaN logits met; saturates at 65,535 -/
def SRV_SEL_SNAP2.NAN : Field := ⟨0x400180, 0x8, 0, 16, 0⟩
/-- EMPTY [23:16] RO, reset 0: Distributions with EMPTY set; saturates at 255 -/
def SRV_SEL_SNAP2.EMPTY : Field := ⟨0x400180, 0x8, 16, 8, 0⟩
/-- DROPPED [31:24] RO, reset 0: COUNT entries not inserted under R201; saturates at 255 -/
def SRV_SEL_SNAP2.DROPPED : Field := ⟨0x400180, 0x8, 24, 8, 0⟩

/-! SRV_CTX_SEL: offset 0x0040_1000, 32 bits. spec/09_serving_functions.md -/
/-- ID [15:0] RW, reset 0: Descriptor to show; a write latches a consistent copy, waiting until A if written between D and A -/
def SRV_CTX_SEL.ID : Field := ⟨0x401000, 0x0, 0, 16, 0⟩
/-- VALID [31] RO, reset 0: 1 = the latched descriptor is not free -/
def SRV_CTX_SEL.VALID : Field := ⟨0x401000, 0x0, 31, 1, 0⟩

/-! SRV_CTX_DATA[k]: offset 0x0040_1008 + 8 × k for k = 0 to 15, 64 bits. spec/09_serving_functions.md -/
/-- DATA [63:0] RO, reset 0: Bytes 8k to 8k + 7 of the latched descriptor -/
def SRV_CTX_DATA.DATA : Field := ⟨0x401008, 0x8, 0, 64, 0⟩

/-! SRV_CTX_USED: offset 0x0040_1100, 32 bits. spec/09_serving_functions.md -/
/-- COUNT [16:0] RO, reset 0: Descriptors not free -/
def SRV_CTX_USED.COUNT : Field := ⟨0x401100, 0x0, 0, 17, 0⟩

/-! KL_PORT_STATUS: offset 0x000, 64 bits. spec/10_klonak_link_layer.md -/
/-- STATE [3:0] RO, reset 0: Bring-up state, from the state table -/
def KL_PORT_STATUS.STATE : Field := ⟨0x300000, 0x1000, 0, 4, 0⟩
/-- WIDTH [6:4] RO, reset 0: Lanes in use: 0, 1, 2 or 4 -/
def KL_PORT_STATUS.WIDTH : Field := ⟨0x300000, 0x1000, 4, 3, 0⟩
/-- RATE [7] RO, reset 0: 0 full, 1 half -/
def KL_PORT_STATUS.RATE : Field := ⟨0x300000, 0x1000, 7, 1, 0⟩
/-- ENC [8] RO, reset 0: 1 = encrypted -/
def KL_PORT_STATUS.ENC : Field := ⟨0x300000, 0x1000, 8, 1, 0⟩
/-- SCHED [9] RO, reset 0: 1 = usable by the scheduled plane under R204 -/
def KL_PORT_STATUS.SCHED : Field := ⟨0x300000, 0x1000, 9, 1, 0⟩
/-- SPILLING [10] RO, reset 0: 1 = spilling under R221 -/
def KL_PORT_STATUS.SPILLING : Field := ⟨0x300000, 0x1000, 10, 1, 0⟩
/-- LANE_MAP [23:16] RO, reset 0: Bits [2k + 1:2k] = physical lane carrying logical lane k -/
def KL_PORT_STATUS.LANE_MAP : Field := ⟨0x300000, 0x1000, 16, 8, 0⟩
/-- POLARITY [27:24] RO, reset 0: Bit l = physical lane l inverted -/
def KL_PORT_STATUS.POLARITY : Field := ⟨0x300000, 0x1000, 24, 4, 0⟩
/-- DOWN_CAUSE [31:28] RO, reset 0: Last cause under R224; 8 = bring-up failed -/
def KL_PORT_STATUS.DOWN_CAUSE : Field := ⟨0x300000, 0x1000, 28, 4, 0⟩
/-- PEER_ID [45:32] RO, reset 0: Peer device ID from TS2 -/
def KL_PORT_STATUS.PEER_ID : Field := ⟨0x300000, 0x1000, 32, 14, 0⟩
/-- PEER_PORT [50:46] RO, reset 31: Peer port; 31 = unknown -/
def KL_PORT_STATUS.PEER_PORT : Field := ⟨0x300000, 0x1000, 46, 5, 31⟩
/-- PEER_VALID [63] RO, reset 0: 1 = PEER_ID and PEER_PORT valid -/
def KL_PORT_STATUS.PEER_VALID : Field := ⟨0x300000, 0x1000, 63, 1, 0⟩

/-! KL_PORT_CTRL: offset 0x008, 32 bits; WIDTH_REQ, RATE_REQ, ENC_REQ and LOOP take effect at the next bring-up. spec/10_klonak_link_layer.md -/
/-- ENABLE [0] RW, reset 1: 0 = DISABLED -/
def KL_PORT_CTRL.ENABLE : Field := ⟨0x300008, 0x1000, 0, 1, 1⟩
/-- SPILL [1] RW, reset 0: Spill permitted under R221 -/
def KL_PORT_CTRL.SPILL : Field := ⟨0x300008, 0x1000, 1, 1, 0⟩
/-- ENC_REQ [2] RW, reset 0: Request encryption -/
def KL_PORT_CTRL.ENC_REQ : Field := ⟨0x300008, 0x1000, 2, 1, 0⟩
/-- WIDTH_REQ [4:3] RW, reset 0: 0 widest, 1 at most 2 lanes, 2 one lane; a write of 3 is ignored -/
def KL_PORT_CTRL.WIDTH_REQ : Field := ⟨0x300008, 0x1000, 3, 2, 0⟩
/-- RATE_REQ [5] RW, reset 0: 0 full, 1 half -/
def KL_PORT_CTRL.RATE_REQ : Field := ⟨0x300008, 0x1000, 5, 1, 0⟩
/-- LOOP [6] RW, reset 0: 1 = near-end serial loopback for test; SCHED reads 0 -/
def KL_PORT_CTRL.LOOP : Field := ⟨0x300008, 0x1000, 6, 1, 0⟩

/-! KL_PORT_DELAY: offset 0x010, 64 bits. spec/10_klonak_link_layer.md -/
/-- RTT [11:0] RO, reset 0: Measured round trip, ticks at 1.50 GHz -/
def KL_PORT_DELAY.RTT : Field := ⟨0x300010, 0x1000, 0, 12, 0⟩
/-- FIXED [21:12] RO, reset 0: ceil(RTT / 2) -/
def KL_PORT_DELAY.FIXED : Field := ⟨0x300010, 0x1000, 12, 10, 0⟩
/-- ALLOW [35:24] RO, reset 0: Replay allowance under R222 -/
def KL_PORT_DELAY.ALLOW : Field := ⟨0x300010, 0x1000, 24, 12, 0⟩
/-- HOP [47:36] RO, reset 0: FIXED + ALLOW -/
def KL_PORT_DELAY.HOP : Field := ⟨0x300010, 0x1000, 36, 12, 0⟩
/-- DELAY16 [61:48] RO, reset 0: One-way delay, 1/16 tick -/
def KL_PORT_DELAY.DELAY16 : Field := ⟨0x300010, 0x1000, 48, 14, 0⟩

/-! KL_GRACE: offset 0x018, 32 bits. spec/10_klonak_link_layer.md -/
/-- GRACE [8:0] RW, reset 20: Grace in units of 100 µs, 1 to 500; other values are ignored on write -/
def KL_GRACE.GRACE : Field := ⟨0x300018, 0x1000, 0, 9, 20⟩

/-! KL_SEQ: offset 0x020, 64 bits. spec/10_klonak_link_layer.md -/
/-- TX_NEXT [15:0] RO, reset 0: Next SEQ to assign -/
def KL_SEQ.TX_NEXT : Field := ⟨0x300020, 0x1000, 0, 16, 0⟩
/-- TX_ACKED [31:16] RO, reset 0: Latest ACK received -/
def KL_SEQ.TX_ACKED : Field := ⟨0x300020, 0x1000, 16, 16, 0⟩
/-- RX_NEXT [47:32] RO, reset 0: Lowest SEQ not yet received -/
def KL_SEQ.RX_NEXT : Field := ⟨0x300020, 0x1000, 32, 16, 0⟩
/-- OCC [63:48] RO, reset 0: Replay entries held on chip -/
def KL_SEQ.OCC : Field := ⟨0x300020, 0x1000, 48, 16, 0⟩

/-! KL_EVENT: offset 0x028, 32 bits. spec/10_klonak_link_layer.md -/
/-- LINK_DOWN [0] RW1C, reset 0: Left UP -/
def KL_EVENT.LINK_DOWN : Field := ⟨0x300028, 0x1000, 0, 1, 0⟩
/-- LINK_UP [1] RW1C, reset 0: Reached UP -/
def KL_EVENT.LINK_UP : Field := ⟨0x300028, 0x1000, 1, 1, 0⟩
/-- FLUSH [2] RW1C, reset 0: Held traffic flushed under R226 -/
def KL_EVENT.FLUSH : Field := ⟨0x300028, 0x1000, 2, 1, 0⟩
/-- RELOCKED [3] RW1C, reset 0: Returned to UP within grace -/
def KL_EVENT.RELOCKED : Field := ⟨0x300028, 0x1000, 3, 1, 0⟩
/-- AUTH_FAIL [4] RW1C, reset 0: Tag failure under R229 -/
def KL_EVENT.AUTH_FAIL : Field := ⟨0x300028, 0x1000, 4, 1, 0⟩
/-- SPILL_START [5] RW1C, reset 0: Spilling began -/
def KL_EVENT.SPILL_START : Field := ⟨0x300028, 0x1000, 5, 1, 0⟩

/-! KL_CNT_SNAP[k]: offset 0x100 + 8 × k for k = 0 to 7, 64 bits. spec/10_klonak_link_layer.md -/
/-- VALUE [63:0] RO, reset 0: Count in the last frame: k = 0 corrected codewords, 1 uncorrectable codewords, 2 CRC-failed flits, 3 retransmissions, 4 SEQ requests sent, 5 discarded duplicates, 6 tag failures, 7 greatest replay occupancy -/
def KL_CNT_SNAP.VALUE : Field := ⟨0x300100, 0x8, 0, 64, 0⟩

/-! GL_STATUS: offset 0x0034_0000, 64 bits. spec/10_klonak_link_layer.md -/
/-- LOCK [0] RO, reset 0: Receiver lock under R231 -/
def GL_STATUS.LOCK : Field := ⟨0x340000, 0x0, 0, 1, 0⟩
/-- BYPASS [1] RO, reset 1: 1 = bypass closed -/
def GL_STATUS.BYPASS : Field := ⟨0x340000, 0x0, 1, 1, 1⟩
/-- RING_OK [2] RO, reset 0: 1 = own discovery message returned within 1 ms -/
def GL_STATUS.RING_OK : Field := ⟨0x340000, 0x0, 2, 1, 0⟩
/-- POSITION [8:3] RO, reset 0: Position on the ring under R233 -/
def GL_STATUS.POSITION : Field := ⟨0x340000, 0x0, 3, 6, 0⟩
/-- SIZE [15:9] RO, reset 0: Active nodes, 1 to 64 -/
def GL_STATUS.SIZE : Field := ⟨0x340000, 0x0, 9, 7, 0⟩
/-- RTT [31:16] RO, reset 0: Ring round trip, ticks -/
def GL_STATUS.RTT : Field := ⟨0x340000, 0x0, 16, 16, 0⟩
/-- SEG_DELAY [47:32] RO, reset 0: Per-segment delay, 1/16 tick -/
def GL_STATUS.SEG_DELAY : Field := ⟨0x340000, 0x0, 32, 16, 0⟩
/-- MARK_OFF [63:48] RO, reset 0: Last frame-marker difference, signed ticks -/
def GL_STATUS.MARK_OFF : Field := ⟨0x340000, 0x0, 48, 16, 0⟩

/-! GL_CTRL: offset 0x0034_0008, 32 bits. spec/10_klonak_link_layer.md -/
/-- ENABLE [0] RW, reset 1: 0 = keep the bypass closed -/
def GL_CTRL.ENABLE : Field := ⟨0x340008, 0x0, 0, 1, 1⟩
/-- CORR_MS [8:1] RW, reset 1: Time-correction interval, 1 to 255 ms; a write of 0 is ignored -/
def GL_CTRL.CORR_MS : Field := ⟨0x340008, 0x0, 1, 8, 1⟩

/-! GL_CNT_SNAP: offset 0x0034_0010, 64 bits. spec/10_klonak_link_layer.md -/
/-- CODE_ERR [15:0] RO, reset 0: Invalid code groups in the last frame -/
def GL_CNT_SNAP.CODE_ERR : Field := ⟨0x340010, 0x0, 0, 16, 0⟩
/-- CRC_ERR [31:16] RO, reset 0: Messages discarded for CRC or TYPE -/
def GL_CNT_SNAP.CRC_ERR : Field := ⟨0x340010, 0x0, 16, 16, 0⟩
/-- RELOCKS [39:32] RO, reset 0: Lock regained -/
def GL_CNT_SNAP.RELOCKS : Field := ⟨0x340010, 0x0, 32, 8, 0⟩
/-- MARKERS [47:40] RO, reset 0: Frame markers received -/
def GL_CNT_SNAP.MARKERS : Field := ⟨0x340010, 0x0, 40, 8, 0⟩
/-- DROPPED [63:48] RO, reset 0: Messages dropped at a full insertion buffer -/
def GL_CNT_SNAP.DROPPED : Field := ⟨0x340010, 0x0, 48, 16, 0⟩

/-! GL_EVENT: offset 0x0034_0018, 32 bits. spec/10_klonak_link_layer.md -/
/-- LOCK_LOST [0] RW1C, reset 0: Receiver lost lock -/
def GL_EVENT.LOCK_LOST : Field := ⟨0x340018, 0x0, 0, 1, 0⟩
/-- RING_BREAK [1] RW1C, reset 0: RING_OK fell to 0 -/
def GL_EVENT.RING_BREAK : Field := ⟨0x340018, 0x0, 1, 1, 0⟩
/-- BYPASS_CHANGE [2] RW1C, reset 0: Bypass opened or closed -/
def GL_EVENT.BYPASS_CHANGE : Field := ⟨0x340018, 0x0, 2, 1, 0⟩

/-! FAB_ID: offset 0x0038_0000, 32 bits. spec/11_fabric_and_routing.md -/
/-- ID [13:0] RW, reset 0: Device ID to assign under R239 -/
def FAB_ID.ID : Field := ⟨0x380000, 0x0, 0, 14, 0⟩
/-- RESULT [30:29] RO, reset 0: 0 none, 1 assigned, 2 refused while frames run -/
def FAB_ID.RESULT : Field := ⟨0x380000, 0x0, 29, 2, 0⟩
/-- GO [31] WO, reset —: 1 = assign -/
def FAB_ID.GO : Field := ⟨0x380000, 0x0, 31, 1, 0⟩

/-! FAB_DIMS: offset 0x0038_0008, 32 bits; applied at the next assignment. spec/11_fabric_and_routing.md -/
/-- XS [4:0] RW, reset 1: Size in x, 1 to 16; other values are ignored on write -/
def FAB_DIMS.XS : Field := ⟨0x380008, 0x0, 0, 5, 1⟩
/-- YS [10:5] RW, reset 1: Size in y, 1 to 32; other values are ignored on write -/
def FAB_DIMS.YS : Field := ⟨0x380008, 0x0, 5, 6, 1⟩
/-- ZS [16:11] RW, reset 1: Size in z, 1 to 32; other values are ignored on write -/
def FAB_DIMS.ZS : Field := ⟨0x380008, 0x0, 11, 6, 1⟩

/-! FAB_STATUS: offset 0x0038_0010, 32 bits. spec/11_fabric_and_routing.md -/
/-- MISCABLED [17:0] RO, reset 0: Bit n = port Kn miscabled under R240 -/
def FAB_STATUS.MISCABLED : Field := ⟨0x380010, 0x0, 0, 18, 0⟩

/-! FAB_SAMPLE_CFG: offset 0x0038_0018, 32 bits. spec/11_fabric_and_routing.md -/
/-- ENABLE [0] RW, reset 0: Sampling on -/
def FAB_SAMPLE_CFG.ENABLE : Field := ⟨0x380018, 0x0, 0, 1, 0⟩
/-- RATE_LOG2 [5:1] RW, reset 16: One packet in 2^n, 4 to 24; other values are ignored on write -/
def FAB_SAMPLE_CFG.RATE_LOG2 : Field := ⟨0x380018, 0x0, 1, 5, 16⟩

/-! FAB_SAMPLE_HEAD: offset 0x0038_0020, 32 bits. spec/11_fabric_and_routing.md -/
/-- HEAD [14:0] RO, reset 0: Next record to be written -/
def FAB_SAMPLE_HEAD.HEAD : Field := ⟨0x380020, 0x0, 0, 15, 0⟩
/-- WRAP [31] RW1C, reset 0: The ring has wrapped -/
def FAB_SAMPLE_HEAD.WRAP : Field := ⟨0x380020, 0x0, 31, 1, 0⟩

/-! FAB_TREE[t]: offset 0x0038_0100 + 8 × t for t = 0 to 15, 64 bits. spec/11_fabric_and_routing.md -/
/-- ENABLE [0] RW, reset 0: Member of tree t -/
def FAB_TREE.ENABLE : Field := ⟨0x380100, 0x8, 0, 1, 0⟩
/-- PARENT [5:1] RW, reset 31: Parent port; 31 = root -/
def FAB_TREE.PARENT : Field := ⟨0x380100, 0x8, 1, 5, 31⟩
/-- CHILDREN [25:8] RW, reset 0: Bit n = port Kn leads to a child -/
def FAB_TREE.CHILDREN : Field := ⟨0x380100, 0x8, 8, 18, 0⟩
/-- ROOT [45:32] RW, reset 0: Root device ID -/
def FAB_TREE.ROOT : Field := ⟨0x380100, 0x8, 32, 14, 0⟩

/-! FAB_CNT_SNAP[k]: offset 0x0038_0200 + 8 × k for k = 0 to 7, 64 bits. spec/11_fabric_and_routing.md -/
/-- VALUE [63:0] RO, reset 0: Count in the last frame: k = 0 packets originated, 1 sunk, 2 forwarded, 3 escape entries, 4 ASLEEP answers, 5 FLUSHED answers, 6 sample records dropped, 7 packets discarded under R244 or R250 -/
def FAB_CNT_SNAP.VALUE : Field := ⟨0x380200, 0x8, 0, 64, 0⟩

/-! FAB_GATE[r]: offset 0x0038_1000 + 4 × r, r = 144 × d + i, 32 bits. spec/11_fabric_and_routing.md -/
/-- STATE [1:0] RO, reset 0: 0 open, 1 closing, 2 closed, 3 waking -/
def FAB_GATE.STATE : Field := ⟨0x381000, 0x4, 0, 2, 0⟩
/-- WAKE [2] RW, reset 0: Wake on arrival under R254 -/
def FAB_GATE.WAKE : Field := ⟨0x381000, 0x4, 2, 1, 0⟩
/-- DRAIN [15:4] RO, reset 0: Drain count -/
def FAB_GATE.DRAIN : Field := ⟨0x381000, 0x4, 4, 12, 0⟩
/-- HELD [20:16] RO, reset 0: Accesses in the porch, 0 to 16 -/
def FAB_GATE.HELD : Field := ⟨0x381000, 0x4, 16, 5, 0⟩

/-! TEL_CTRL: offset 0x0090_0000, 32 bits. spec/11_fabric_and_routing.md -/
/-- ENABLE [0] RW, reset 1: 1 = counting on; 0 = counts stay at 0 -/
def TEL_CTRL.ENABLE : Field := ⟨0x900000, 0x0, 0, 1, 1⟩

/-! TEL_MARK: offset 0x0090_0008, 64 bits. spec/11_fabric_and_routing.md -/
/-- MARK [63:0] RW, reset 0: Collector's marker, copied into each push -/
def TEL_MARK.MARK : Field := ⟨0x900008, 0x0, 0, 64, 0⟩

/-! TEL_PUSH: offset 0x0090_0010, 32 bits. spec/11_fabric_and_routing.md -/
/-- GO [0] WO, reset —: 1 = arm a push under R258; 0 = disarm -/
def TEL_PUSH.GO : Field := ⟨0x900010, 0x0, 0, 1, 0⟩
/-- EVERY [1] RW, reset 0: 1 = push at every decision tick while armed -/
def TEL_PUSH.EVERY : Field := ⟨0x900010, 0x0, 1, 1, 0⟩

/-! TEL_PUSH_ADDR: offset 0x0090_0018, 64 bits. spec/11_fabric_and_routing.md -/
/-- ADDR [63:0] RW, reset 0: Afruak address that receives the push -/
def TEL_PUSH_ADDR.ADDR : Field := ⟨0x900018, 0x0, 0, 64, 0⟩

/-! TEL_STATUS: offset 0x0090_0020, 32 bits. spec/11_fabric_and_routing.md -/
/-- ARMED [0] RO, reset 0: 1 = a push is armed -/
def TEL_STATUS.ARMED : Field := ⟨0x900020, 0x0, 0, 1, 0⟩
/-- PUSHES [23:8] RO, reset 0: Pushes sent; wraps at 2¹⁶ -/
def TEL_STATUS.PUSHES : Field := ⟨0x900020, 0x0, 8, 16, 0⟩
/-- PUSH_FAIL [31:24] RO, reset 0: Pushes refused at the target; saturates at 255 -/
def TEL_STATUS.PUSH_FAIL : Field := ⟨0x900020, 0x0, 24, 8, 0⟩

/-! TEL_CNT_SNAP[k]: offset 0x0090_0100 + 8 × k for k = 0 to 11, 64 bits. spec/11_fabric_and_routing.md -/
/-- VALUE [63:0] RO, reset 0: Count k of the per-frame telemetry table in the last frame -/
def TEL_CNT_SNAP.VALUE : Field := ⟨0x900100, 0x8, 0, 64, 0⟩

/-! AUD_HEAD: offset 0x0080_0000, 32 bits. spec/12_determinism_and_audit.md -/
/-- HEAD [15:0] RO, reset 0: Next ring entry to be written -/
def AUD_HEAD.HEAD : Field := ⟨0x800000, 0x0, 0, 16, 0⟩
/-- PENDING [30:16] RO, reset 0: Tokens of published commit lists whose records are not yet complete -/
def AUD_HEAD.PENDING : Field := ⟨0x800000, 0x0, 16, 15, 0⟩
/-- WRAP [31] RW1C, reset 0: An entry has been overwritten -/
def AUD_HEAD.WRAP : Field := ⟨0x800000, 0x0, 31, 1, 0⟩

/-! AUD_ENTRY_SEL: offset 0x0080_0008, 32 bits. spec/12_determinism_and_audit.md -/
/-- INDEX [15:0] RW, reset 0: Ring entry shown in AUD_ENTRY_DATA -/
def AUD_ENTRY_SEL.INDEX : Field := ⟨0x800008, 0x0, 0, 16, 0⟩

/-! AUD_TRAIL_SEL: offset 0x0080_0100, 32 bits. spec/12_determinism_and_audit.md -/
/-- ID [15:0] RW, reset 0: Context whose trail to latch; the latch waits under R267 -/
def AUD_TRAIL_SEL.ID : Field := ⟨0x800100, 0x0, 0, 16, 0⟩
/-- VALID [31] RO, reset 0: 1 = the latched trail belongs to a context that is not free -/
def AUD_TRAIL_SEL.VALID : Field := ⟨0x800100, 0x0, 31, 1, 0⟩

/-! AUD_TRAIL[k]: offset 0x0080_0108 + 8 × k for k = 0 to 3, 64 bits. spec/12_determinism_and_audit.md -/
/-- DATA [63:0] RO, reset 0: Bytes 8k to 8k + 7 of the latched trail -/
def AUD_TRAIL.DATA : Field := ⟨0x800108, 0x8, 0, 64, 0⟩

/-! AUD_SNAP: offset 0x0080_0200, 64 bits. spec/12_determinism_and_audit.md -/
/-- RECORDS [15:0] RO, reset 0: Records completed in the last frame -/
def AUD_SNAP.RECORDS : Field := ⟨0x800200, 0x0, 0, 16, 0⟩
/-- LAST_DONE [39:16] RO, reset 0: Ticks after the decision tick at which the frame's last record completed -/
def AUD_SNAP.LAST_DONE : Field := ⟨0x800200, 0x0, 16, 24, 0⟩

/-! ROLL_STATUS: offset 0x0060_0000, 32 bits. spec/13_roll_call_fault_tolerance.md -/
/-- STATE [1:0] RO, reset 3: 0 member, 1 joining, 2 fail-safe or Bivouac, 3 outside -/
def ROLL_STATUS.STATE : Field := ⟨0x600000, 0x0, 0, 2, 3⟩
/-- AGREEING [2] RO, reset 0: 1 = a proposal is accepted and not yet committed or dropped -/
def ROLL_STATUS.AGREEING : Field := ⟨0x600000, 0x0, 2, 1, 0⟩
/-- COORD [3] RO, reset 0: 1 = this device is coordinator -/
def ROLL_STATUS.COORD : Field := ⟨0x600000, 0x0, 3, 1, 0⟩
/-- CHOICE [6:4] RO, reset 7: Variant chosen under R281; 7 = none -/
def ROLL_STATUS.CHOICE : Field := ⟨0x600000, 0x0, 4, 3, 7⟩
/-- ROUND [15:8] RO, reset 0: Round of the last proposal accepted -/
def ROLL_STATUS.ROUND : Field := ⟨0x600000, 0x0, 8, 8, 0⟩
/-- MEMBERS [30:16] RO, reset 0: Members in the current epoch -/
def ROLL_STATUS.MEMBERS : Field := ⟨0x600000, 0x0, 16, 15, 0⟩

/-! ROLL_EPOCH: offset 0x0060_0008, 64 bits. spec/13_roll_call_fault_tolerance.md -/
/-- EPOCH [63:0] RO, reset 0: Current epoch -/
def ROLL_EPOCH.EPOCH : Field := ⟨0x600008, 0x0, 0, 64, 0⟩

/-! ROLL_DIGEST: offset 0x0060_0010, 64 bits. spec/13_roll_call_fault_tolerance.md -/
/-- DIGEST [63:0] RO, reset 0: Membership digest under R270 -/
def ROLL_DIGEST.DIGEST : Field := ⟨0x600010, 0x0, 0, 64, 0⟩

/-! ROLL_CFG: offset 0x0060_0018, 32 bits; a write that breaks a range, or sets LOSS_US below 4 × HB_US, is ignored. spec/13_roll_call_fault_tolerance.md -/
/-- HB_US [4:0] RW, reset 8: Heartbeat interval, 4 to 16 µs -/
def ROLL_CFG.HB_US : Field := ⟨0x600018, 0x0, 0, 5, 8⟩
/-- LOSS_US [11:5] RW, reset 64: Silence before loss, 16 to 127 µs -/
def ROLL_CFG.LOSS_US : Field := ⟨0x600018, 0x0, 5, 7, 64⟩
/-- COLLECT_US [19:12] RW, reset 128: Collection window, 16 to 255 µs -/
def ROLL_CFG.COLLECT_US : Field := ⟨0x600018, 0x0, 12, 8, 128⟩
/-- ACK_US [31:20] RW, reset 400: Wait for ACCEPTs, 100 to 4,095 µs -/
def ROLL_CFG.ACK_US : Field := ⟨0x600018, 0x0, 20, 12, 400⟩

/-! ROLL_REQ: offset 0x0060_0020, 32 bits. spec/13_roll_call_fault_tolerance.md -/
/-- KIND [1:0] WO, reset —: 0 exclude device, 1 exclude link, 2 join this device; 3 is ignored -/
def ROLL_REQ.KIND : Field := ⟨0x600020, 0x0, 0, 2, 0⟩
/-- DEV [15:2] WO, reset —: Device to exclude, or the link's device -/
def ROLL_REQ.DEV : Field := ⟨0x600020, 0x0, 2, 14, 0⟩
/-- PORT [20:16] WO, reset —: Link's port -/
def ROLL_REQ.PORT : Field := ⟨0x600020, 0x0, 16, 5, 0⟩
/-- GO [31] WO, reset —: 1 = submit under R288 -/
def ROLL_REQ.GO : Field := ⟨0x600020, 0x0, 31, 1, 0⟩

/-! ROLL_EVENT: offset 0x0060_0028, 32 bits. spec/13_roll_call_fault_tolerance.md -/
/-- NEW_EPOCH [0] RW1C, reset 0: A COMMIT was applied -/
def ROLL_EVENT.NEW_EPOCH : Field := ⟨0x600028, 0x0, 0, 1, 0⟩
/-- SWITCHED [1] RW1C, reset 0: A Roll Call switch took effect -/
def ROLL_EVENT.SWITCHED : Field := ⟨0x600028, 0x0, 1, 1, 0⟩
/-- NO_ALT [2] RW1C, reset 0: Frames stopped for want of an alternate -/
def ROLL_EVENT.NO_ALT : Field := ⟨0x600028, 0x0, 2, 1, 0⟩
/-- OUTSIDE [3] RW1C, reset 0: This device was excluded -/
def ROLL_EVENT.OUTSIDE : Field := ⟨0x600028, 0x0, 3, 1, 0⟩
/-- LOST_PAGES [4] RW1C, reset 0: A lost-page record was written -/
def ROLL_EVENT.LOST_PAGES : Field := ⟨0x600028, 0x0, 4, 1, 0⟩
/-- REVOKED [5] RW1C, reset 0: A lease held here was revoked -/
def ROLL_EVENT.REVOKED : Field := ⟨0x600028, 0x0, 5, 1, 0⟩
/-- RESTART [6] RW1C, reset 0: A round was refused or restarted -/
def ROLL_EVENT.RESTART : Field := ⟨0x600028, 0x0, 6, 1, 0⟩

/-! ROLL_LEASES: offset 0x0060_0030, 32 bits. spec/13_roll_call_fault_tolerance.md -/
/-- HELD [11:0] RO, reset 0: Leases this device holds as owner -/
def ROLL_LEASES.HELD : Field := ⟨0x600030, 0x0, 0, 12, 0⟩
/-- GRANTED [23:12] RO, reset 0: Leases this device serves -/
def ROLL_LEASES.GRANTED : Field := ⟨0x600030, 0x0, 12, 12, 0⟩
/-- REVOKED [31:24] RO, reset 0: Revocations in the current epoch; saturates at 255 -/
def ROLL_LEASES.REVOKED : Field := ⟨0x600030, 0x0, 24, 8, 0⟩

/-! ROLL_ALT[v]: offset 0x0060_0040 + 8 × v for v = 0 to 3, 32 bits. spec/13_roll_call_fault_tolerance.md -/
/-- VALID [0] RW, reset 0: Entry in use -/
def ROLL_ALT.VALID : Field := ⟨0x600040, 0x8, 0, 1, 0⟩
/-- KIND [1] RW, reset 0: 0 device group, 1 link -/
def ROLL_ALT.KIND : Field := ⟨0x600040, 0x8, 1, 1, 0⟩
/-- SPAN_LOG2 [5:2] RW, reset 0: Group of 2^n devices, 0 to 14; a write of 15 is ignored -/
def ROLL_ALT.SPAN_LOG2 : Field := ⟨0x600040, 0x8, 2, 4, 0⟩
/-- PORT [10:6] RW, reset 0: Link's port, 0 to 17 -/
def ROLL_ALT.PORT : Field := ⟨0x600040, 0x8, 6, 5, 0⟩
/-- DEV [29:16] RW, reset 0: Group base, aligned to 2^SPAN_LOG2, or the link's device -/
def ROLL_ALT.DEV : Field := ⟨0x600040, 0x8, 16, 14, 0⟩

/-! ROLL_CHANGE: offset 0x0060_0100, 64 bits. spec/13_roll_call_fault_tolerance.md -/
/-- EPOCH_LO [31:0] RO, reset 0: Low 32 bits of the epoch the last change created -/
def ROLL_CHANGE.EPOCH_LO : Field := ⟨0x600100, 0x0, 0, 32, 0⟩
/-- DEV [45:32] RO, reset 0: First entry's device -/
def ROLL_CHANGE.DEV : Field := ⟨0x600100, 0x0, 32, 14, 0⟩
/-- PORT [50:46] RO, reset 0: First entry's port -/
def ROLL_CHANGE.PORT : Field := ⟨0x600100, 0x0, 46, 5, 0⟩
/-- LINK [51] RO, reset 0: First entry is a link -/
def ROLL_CHANGE.LINK : Field := ⟨0x600100, 0x0, 51, 1, 0⟩
/-- CAUSE [55:52] RO, reset 0: First entry's cause; 6 = absent from the Guyline roster only -/
def ROLL_CHANGE.CAUSE : Field := ⟨0x600100, 0x0, 52, 4, 0⟩
/-- COUNT [63:56] RO, reset 0: Entries in the change; saturates at 255 -/
def ROLL_CHANGE.COUNT : Field := ⟨0x600100, 0x0, 56, 8, 0⟩

/-! HOST_Q[j]: offset 0x0050_0000 + 8 × j (global j for PF0, local j for a VF), 64 bits. spec/14_host_interface_and_virtualisation.md -/
/-- ENABLE [0] RW, reset 0: 1 = queue running -/
def HOST_Q.ENABLE : Field := ⟨0x500000, 0x8, 0, 1, 0⟩
/-- CLASS [2:1] RW, reset 1: 0 Expedite, 1 Standard, 2 Bulk, 3 Background -/
def HOST_Q.CLASS : Field := ⟨0x500000, 0x8, 1, 2, 1⟩
/-- LOG2 [7:3] RW, reset 4: Ring entries 2^n, 4 to 16 -/
def HOST_Q.LOG2 : Field := ⟨0x500000, 0x8, 3, 5, 4⟩
/-- VECTOR [18:8] RW, reset 0: MSI-X vector of the owning function -/
def HOST_Q.VECTOR : Field := ⟨0x500000, 0x8, 8, 11, 0⟩
/-- BASE [63:19] RW, reset 0: Host address bits [56:12] of the submission ring -/
def HOST_Q.BASE : Field := ⟨0x500000, 0x8, 19, 45, 0⟩

/-! HOST_STATUS: offset 0x0058_0000, 32 bits. spec/14_host_interface_and_virtualisation.md -/
/-- GEN [2:0] RO, reset 0: Link speed: 1 to 6 = Gen 1 to Gen 6 -/
def HOST_STATUS.GEN : Field := ⟨0x580000, 0x0, 0, 3, 0⟩
/-- WIDTH [7:3] RO, reset 0: Lanes in use -/
def HOST_STATUS.WIDTH : Field := ⟨0x580000, 0x0, 3, 5, 0⟩
/-- FLIT [8] RO, reset 0: 1 = FLIT mode -/
def HOST_STATUS.FLIT : Field := ⟨0x580000, 0x0, 8, 1, 0⟩
/-- FULL [9] RO, reset 0: 1 = x16, 64 GT/s, FLIT mode (R291) -/
def HOST_STATUS.FULL : Field := ⟨0x580000, 0x0, 9, 1, 0⟩
/-- VFS [23:16] RO, reset 0: NumVFs enabled -/
def HOST_STATUS.VFS : Field := ⟨0x580000, 0x0, 16, 8, 0⟩

/-! HOST_INFLIGHT: offset 0x0058_0008, 32 bits. spec/14_host_interface_and_virtualisation.md -/
/-- COUNT [12:0] RO, reset 0: Commands in flight device-wide, 0 to 4,096 -/
def HOST_INFLIGHT.COUNT : Field := ⟨0x580008, 0x0, 0, 13, 0⟩

/-! HOST_EVENT: offset 0x0058_0010, 32 bits. spec/14_host_interface_and_virtualisation.md -/
/-- QUEUE_ERR [0] RW1C, reset 0: A queue entered the error state -/
def HOST_EVENT.QUEUE_ERR : Field := ⟨0x580010, 0x0, 0, 1, 0⟩
/-- VF_RESET [1] RW1C, reset 0: A VF reset began -/
def HOST_EVENT.VF_RESET : Field := ⟨0x580010, 0x0, 1, 1, 0⟩
/-- UNBIND_DONE [2] RW1C, reset 0: A VF reset's unbind was applied -/
def HOST_EVENT.UNBIND_DONE : Field := ⟨0x580010, 0x0, 2, 1, 0⟩
/-- MAP_REJECT [3] RW1C, reset 0: A HOST_VF_QMAP write was refused -/
def HOST_EVENT.MAP_REJECT : Field := ⟨0x580010, 0x0, 3, 1, 0⟩
/-- VF [15:8] RO, reset 0: VF of the most recent VF_RESET -/
def HOST_EVENT.VF : Field := ⟨0x580010, 0x0, 8, 8, 0⟩

/-! HOST_VF_QMAP[f]: offset 0x0058_0100 + 8 × f for VF f = 1 to 255, 64 bits. spec/14_host_interface_and_virtualisation.md -/
/-- BASE [15:0] RW, reset 0: First global queue -/
def HOST_VF_QMAP.BASE : Field := ⟨0x580100, 0x8, 0, 16, 0⟩
/-- COUNT [26:16] RW, reset 0: Queues, 0 to 1,024 -/
def HOST_VF_QMAP.COUNT : Field := ⟨0x580100, 0x8, 16, 11, 0⟩
/-- MINCLASS [33:32] RW, reset 1: Most urgent class the VF may set -/
def HOST_VF_QMAP.MINCLASS : Field := ⟨0x580100, 0x8, 32, 2, 1⟩

/-! PWR_STATE: offset 0x0002_0000, 32 bits. spec/15_power_ladder_and_budget.md -/
/-- DSTATE [2:0] RO, reset 0: Current device state, 0 to 4 -/
def PWR_STATE.DSTATE : Field := ⟨0x20000, 0x0, 0, 3, 0⟩
/-- TARGET [5:3] RO, reset 0: Target of the transition in progress -/
def PWR_STATE.TARGET : Field := ⟨0x20000, 0x0, 3, 3, 0⟩
/-- MOVING [6] RO, reset 0: 1 = an entry or exit is in progress -/
def PWR_STATE.MOVING : Field := ⟨0x20000, 0x0, 6, 1, 0⟩

/-! PWR_WAKE: offset 0x0002_0008, 32 bits. spec/15_power_ladder_and_budget.md -/
/-- CAUSES [5:0] RW1C, reset 0: Causes of the last wake sequence, bits as in the wake-cause table -/
def PWR_WAKE.CAUSES : Field := ⟨0x20008, 0x0, 0, 6, 0⟩
/-- PEND [8] RO, reset 0: A remote wake is pending under R315 -/
def PWR_WAKE.PEND : Field := ⟨0x20008, 0x0, 8, 1, 0⟩
/-- FROM [14:12] RO, reset 0: State from which the last wake sequence exited -/
def PWR_WAKE.FROM : Field := ⟨0x20008, 0x0, 12, 3, 0⟩

/-! PWR_WAKE_CFG: offset 0x0002_0010, 32 bits. spec/15_power_ladder_and_budget.md -/
/-- REMOTE_EN [0] RW, reset 1: Accept Guyline WAKE messages -/
def PWR_WAKE_CFG.REMOTE_EN : Field := ⟨0x20010, 0x0, 0, 1, 1⟩
/-- HOLD_MS [8:1] RW, reset 2: Pending-wake hold, 0 to 255 ms -/
def PWR_WAKE_CFG.HOLD_MS : Field := ⟨0x20010, 0x0, 1, 8, 2⟩
/-- TIMER_S [31:16] RW, reset 0: Timer wake after entry, seconds; 0 = off -/
def PWR_WAKE_CFG.TIMER_S : Field := ⟨0x20010, 0x0, 16, 16, 0⟩

/-! PWR_WAKE_SEND: offset 0x0002_0014, 32 bits. spec/15_power_ladder_and_budget.md -/
/-- TARGET [15:0] WO, reset —: Device ID, or 0xFFFF for every node on the ring -/
def PWR_WAKE_SEND.TARGET : Field := ⟨0x20014, 0x0, 0, 16, 0⟩
/-- GO [31] WO, reset —: 1 = send a WAKE message under R315 -/
def PWR_WAKE_SEND.GO : Field := ⟨0x20014, 0x0, 31, 1, 0⟩

/-! PWR_ALLOW: offset 0x0002_0018, 32 bits. spec/15_power_ladder_and_budget.md -/
/-- ALLOW_W [10:0] RGO, reset 1600: Package allowance, W -/
def PWR_ALLOW.ALLOW_W : Field := ⟨0x20018, 0x0, 0, 11, 1600⟩
/-- HARD_W [18:11] RGO, reset 80: Margin above the allowance before over-power, W -/
def PWR_ALLOW.HARD_W : Field := ⟨0x20018, 0x0, 11, 8, 80⟩

/-! PWR_MEASURE: offset 0x0002_0020, 64 bits. spec/15_power_ladder_and_budget.md -/
/-- MEAS_W [10:0] RO, reset 0: Average over the last 100 µs window, W -/
def PWR_MEASURE.MEAS_W : Field := ⟨0x20020, 0x0, 0, 11, 0⟩
/-- PEAK_W [21:11] RO, reset 0: Greatest window average in the last frame, W -/
def PWR_MEASURE.PEAK_W : Field := ⟨0x20020, 0x0, 11, 11, 0⟩
/-- PCLAMP_MHZ [42:32] RO, reset 2047: Power clamp; 2047 = no clamp -/
def PWR_MEASURE.PCLAMP_MHZ : Field := ⟨0x20020, 0x0, 32, 11, 2047⟩

/-! PWR_THERM: offset 0x0002_0028, 64 bits. spec/15_power_ladder_and_budget.md -/
/-- HOT_C [7:0] RGO, reset 100: Thermal clamp threshold, °C -/
def PWR_THERM.HOT_C : Field := ⟨0x20028, 0x0, 0, 8, 100⟩
/-- CRIT_C [15:8] RGO, reset 115: Over-temperature threshold, °C -/
def PWR_THERM.CRIT_C : Field := ⟨0x20028, 0x0, 8, 8, 115⟩
/-- MAX_C [23:16] RO, reset 0: Hottest region now, °C -/
def PWR_THERM.MAX_C : Field := ⟨0x20028, 0x0, 16, 8, 0⟩
/-- MAX_REGION [40:32] RO, reset 0: Index r of the hottest region -/
def PWR_THERM.MAX_REGION : Field := ⟨0x20028, 0x0, 32, 9, 0⟩

/-! PWR_EVENT: offset 0x0002_0030, 32 bits. spec/15_power_ladder_and_budget.md -/
/-- CLAMP_ON [0] RW1C, reset 0: The power clamp engaged -/
def PWR_EVENT.CLAMP_ON : Field := ⟨0x20030, 0x0, 0, 1, 0⟩
/-- CLAMP_FLOOR [1] RW1C, reset 0: The power clamp reached its floor -/
def PWR_EVENT.CLAMP_FLOOR : Field := ⟨0x20030, 0x0, 1, 1, 0⟩
/-- THERM_HOT [2] RW1C, reset 0: A region reached HOT_C -/
def PWR_EVENT.THERM_HOT : Field := ⟨0x20030, 0x0, 2, 1, 0⟩
/-- OVER_PROFILE [3] RW1C, reset 0: The active profile exceeds the allowance under R322 -/
def PWR_EVENT.OVER_PROFILE : Field := ⟨0x20030, 0x0, 3, 1, 0⟩
/-- ENTRY_ABORTED [4] RW1C, reset 0: An entry was abandoned -/
def PWR_EVENT.ENTRY_ABORTED : Field := ⟨0x20030, 0x0, 4, 1, 0⟩
/-- WAKE [5] RW1C, reset 0: A wake sequence completed -/
def PWR_EVENT.WAKE : Field := ⟨0x20030, 0x0, 5, 1, 0⟩
/-- SLEEP_SHORT [6] RW1C, reset 0: A scheduled sleep stayed at P1 under R320 -/
def PWR_EVENT.SLEEP_SHORT : Field := ⟨0x20030, 0x0, 6, 1, 0⟩

/-! PWR_REGION[r]: offset 0x0002_1000 + 4 × r, r = 144 × d + i, 32 bits. spec/15_power_ladder_and_budget.md -/
/-- PSTATE [2:0] RO, reset 0: Current region state, 0 to 5 -/
def PWR_REGION.PSTATE : Field := ⟨0x21000, 0x4, 0, 3, 0⟩
/-- SCHED [3] RO, reset 0: 1 = the state comes from the active profile -/
def PWR_REGION.SCHED : Field := ⟨0x21000, 0x4, 3, 1, 0⟩
/-- TEMP_C [11:4] RO, reset 0: Region temperature, °C -/
def PWR_REGION.TEMP_C : Field := ⟨0x21000, 0x4, 4, 8, 0⟩

/-! RGR_STATUS: offset 0x0070_0000, 32 bits. spec/16_ranger_and_management.md -/
/-- MODE [1:0] RGO, reset 0: 0 normal, 1 fail-safe, 2 Bivouac mode -/
def RGR_STATUS.MODE : Field := ⟨0x700000, 0x0, 0, 2, 0⟩
/-- FW_SLOT [2] RGO, reset HW: Active Ranger firmware slot: 0 A, 1 B -/
def RGR_STATUS.FW_SLOT : Field := ⟨0x700000, 0x0, 2, 1, 0⟩
/-- SESSIONS [4:3] RGO, reset 0: Open management sessions, 0 to 2 -/
def RGR_STATUS.SESSIONS : Field := ⟨0x700000, 0x0, 3, 2, 0⟩
/-- FAULT_N [5] RGO, reset 1: Level driven on FAULT_N -/
def RGR_STATUS.FAULT_N : Field := ⟨0x700000, 0x0, 5, 1, 1⟩
/-- PWR_REQ [6] RGO, reset 0: Level driven on PWR_REQ -/
def RGR_STATUS.PWR_REQ : Field := ⟨0x700000, 0x0, 6, 1, 0⟩
/-- FW_VER [31:16] RGO, reset HW: Ranger firmware version -/
def RGR_STATUS.FW_VER : Field := ⟨0x700000, 0x0, 16, 16, 0⟩

/-! RGR_FS: offset 0x0070_0008, 32 bits. spec/16_ranger_and_management.md -/
/-- CAUSE [7:0] RGO, reset HW: First cause under R332; 0 = none -/
def RGR_FS.CAUSE : Field := ⟨0x700008, 0x0, 0, 8, 0⟩
/-- REGION [16:8] RGO, reset HW: Region index r of the cause; 511 = none -/
def RGR_FS.REGION : Field := ⟨0x700008, 0x0, 8, 9, 0⟩
/-- MORE [31:24] RGO, reset HW: Later causes; saturates at 255 -/
def RGR_FS.MORE : Field := ⟨0x700008, 0x0, 24, 8, 0⟩

/-! RGR_FS_GST: offset 0x0070_0010, 64 bits. spec/16_ranger_and_management.md -/
/-- GST [63:0] RGO, reset HW: CLK_GST at entry -/
def RGR_FS_GST.GST : Field := ⟨0x700010, 0x0, 0, 64, 0⟩

/-! RGR_RESET: offset 0x0070_0018, 32 bits. spec/16_ranger_and_management.md -/
/-- CAUSE [3:0] RGO, reset HW: Reset cause under R346 -/
def RGR_RESET.CAUSE : Field := ⟨0x700018, 0x0, 0, 4, 0⟩
/-- FS_BEFORE [4] RGO, reset HW: 1 = reset taken in the fail-safe state -/
def RGR_RESET.FS_BEFORE : Field := ⟨0x700018, 0x0, 4, 1, 0⟩
/-- FAILED [7:5] RGO, reset HW: Consecutive failed starts -/
def RGR_RESET.FAILED : Field := ⟨0x700018, 0x0, 5, 3, 0⟩
/-- BIVOUAC_N [10:8] RGO, reset 3: Failed-start limit, 2 to 7 -/
def RGR_RESET.BIVOUAC_N : Field := ⟨0x700018, 0x0, 8, 3, 3⟩

/-! RGR_BOOTS: offset 0x0070_0020, 32 bits. spec/16_ranger_and_management.md -/
/-- COUNT [31:0] RGO, reset HW: Resets since manufacture; saturates -/
def RGR_BOOTS.COUNT : Field := ⟨0x700020, 0x0, 0, 32, 0⟩

/-! RGR_AVS[k]: offset 0x0070_0030 + 8 × k for rail k = 0 to 2, 64 bits. spec/16_ranger_and_management.md -/
/-- TARGET_MV [11:0] RGO, reset 0: Requested voltage, mV -/
def RGR_AVS.TARGET_MV : Field := ⟨0x700030, 0x8, 0, 12, 0⟩
/-- READ_MV [23:12] RGO, reset 0: Last readback, mV -/
def RGR_AVS.READ_MV : Field := ⟨0x700030, 0x8, 12, 12, 0⟩
/-- READ_A [39:24] RGO, reset 0: Last current readback, A -/
def RGR_AVS.READ_A : Field := ⟨0x700030, 0x8, 24, 16, 0⟩
/-- ERR [40] RGO, reset 0: 1 = last transaction failed -/
def RGR_AVS.ERR : Field := ⟨0x700030, 0x8, 40, 1, 0⟩

/-! RGR_MGMT: offset 0x0070_0048, 32 bits. spec/16_ranger_and_management.md -/
/-- EID [7:0] RGO, reset 0: MCTP endpoint ID -/
def RGR_MGMT.EID : Field := ⟨0x700048, 0x0, 0, 8, 0⟩
/-- I3C_DA [14:8] RGO, reset 0: I3C dynamic address; 0 = none -/
def RGR_MGMT.I3C_DA : Field := ⟨0x700048, 0x0, 8, 7, 0⟩
/-- I3C_SA [21:15] RGO, reset HW: I3C static address -/
def RGR_MGMT.I3C_SA : Field := ⟨0x700048, 0x0, 15, 7, 72⟩
/-- MGT_UP [22] RGO, reset 0: 1 = MGT link up -/
def RGR_MGMT.MGT_UP : Field := ⟨0x700048, 0x0, 22, 1, 0⟩
/-- LINK_KEY [23] RGO, reset HW: 1 = link master key installed -/
def RGR_MGMT.LINK_KEY : Field := ⟨0x700048, 0x0, 23, 1, 0⟩

/-! RGR_ROOT[k]: offset 0x0070_0200 + 8 × k for k = 0 to 5, 64 bits. spec/16_ranger_and_management.md -/
/-- DIGEST [63:0] RGO, reset HW: Bytes 8k to 8k + 7 of the operator root digest -/
def RGR_ROOT.DIGEST : Field := ⟨0x700200, 0x8, 0, 64, 0⟩

/-! RGR_REJ_HEAD: offset 0x0070_0100, 32 bits. spec/16_ranger_and_management.md -/
/-- HEAD [5:0] RGO, reset 0: Next log entry to be written -/
def RGR_REJ_HEAD.HEAD : Field := ⟨0x700100, 0x0, 0, 6, 0⟩
/-- COUNT [31:16] RGO, reset 0: Rejected writes since LOG_CLEAR; saturates at 65,535 -/
def RGR_REJ_HEAD.COUNT : Field := ⟨0x700100, 0x0, 16, 16, 0⟩

/-! CLK_RECAL: offset 0x0001_0060, 32 bits; this extends the CLK registers of Logical Time and Clocking. spec/17_boot_update_and_live_service.md -/
/-- REGION [8:0] RW, reset 0: Region index r to recalibrate -/
def CLK_RECAL.REGION : Field := ⟨0x10060, 0x0, 0, 9, 0⟩
/-- GO [9] WO, reset —: 1 = request under R361 -/
def CLK_RECAL.GO : Field := ⟨0x10060, 0x0, 9, 1, 0⟩
/-- STATE [11:10] RO, reset 0: 0 idle, 1 waiting for a boundary, 2 running -/
def CLK_RECAL.STATE : Field := ⟨0x10060, 0x0, 10, 2, 0⟩
/-- RESULT [14:12] RO, reset 0: 0 none, 1 every LAT unchanged, 2 new LAT accepted, 3 MAX − MIN above 3, 4 beyond the assumptions, 5 refused -/
def CLK_RECAL.RESULT : Field := ⟨0x10060, 0x0, 12, 3, 0⟩

/-! RGR_UPD[k]: offset 0x0070_0400 + 8 × k for kind k = 0 to 3, 64 bits. spec/17_boot_update_and_live_service.md -/
/-- ACTIVE [0] RGO, reset HW: Active slot: 0 A, 1 B -/
def RGR_UPD.ACTIVE : Field := ⟨0x700400, 0x8, 0, 1, 0⟩
/-- OTHER [3:1] RGO, reset HW: Other slot: 0 empty, 1 downloading, 2 downloaded, 3 verified, 4 rejected -/
def RGR_UPD.OTHER : Field := ⟨0x700400, 0x8, 1, 3, 0⟩
/-- TRIAL [4] RGO, reset HW: 1 = active slot in trial -/
def RGR_UPD.TRIAL : Field := ⟨0x700400, 0x8, 4, 1, 0⟩
/-- TRIALS [7:5] RGO, reset HW: Trial starts begun -/
def RGR_UPD.TRIALS : Field := ⟨0x700400, 0x8, 5, 3, 0⟩
/-- TRIAL_MAX [10:8] RGO, reset 3: Trial limit, 1 to 7 -/
def RGR_UPD.TRIAL_MAX : Field := ⟨0x700400, 0x8, 8, 3, 3⟩
/-- ROLLED [11] RGO, reset HW: 1 = the last activation was rolled back -/
def RGR_UPD.ROLLED : Field := ⟨0x700400, 0x8, 11, 1, 0⟩
/-- VER_ACTIVE [31:16] RGO, reset HW: VERSION of the active slot -/
def RGR_UPD.VER_ACTIVE : Field := ⟨0x700400, 0x8, 16, 16, 0⟩
/-- VER_OTHER [47:32] RGO, reset HW: VERSION of the other slot; 0 if empty -/
def RGR_UPD.VER_OTHER : Field := ⟨0x700400, 0x8, 32, 16, 0⟩
/-- SVN_MIN [55:48] RGO, reset HW: Fused minimum security version -/
def RGR_UPD.SVN_MIN : Field := ⟨0x700400, 0x8, 48, 8, 0⟩

/-! RGR_BOOT: offset 0x0070_0440, 64 bits. spec/17_boot_update_and_live_service.md -/
/-- PHASE [3:0] RGO, reset 0: Last phase reached, 0 to 5 for B0 to B5 -/
def RGR_BOOT.PHASE : Field := ⟨0x700440, 0x0, 0, 4, 0⟩
/-- REASON [11:4] RGO, reset HW: Reason of the last failed start; 0 = none -/
def RGR_BOOT.REASON : Field := ⟨0x700440, 0x0, 4, 8, 0⟩
/-- BIV_REASON [19:12] RGO, reset HW: Reason for the current Bivouac mode; 0 = none -/
def RGR_BOOT.BIV_REASON : Field := ⟨0x700440, 0x0, 12, 8, 0⟩
/-- SETTLED [20] RGO, reset 0: 1 = this start passed its settle point -/
def RGR_BOOT.SETTLED : Field := ⟨0x700440, 0x0, 20, 1, 0⟩
/-- READY_MS [47:32] RGO, reset 0: Milliseconds from start to READY -/
def RGR_BOOT.READY_MS : Field := ⟨0x700440, 0x0, 32, 16, 0⟩

/-! RGR_NVREC: offset 0x0070_0448, 64 bits. spec/17_boot_update_and_live_service.md -/
/-- SEQ [47:0] RGO, reset HW: SEQ of the copy in use -/
def RGR_NVREC.SEQ : Field := ⟨0x700448, 0x0, 0, 48, 0⟩
/-- COPY [48] RGO, reset HW: Copy in use -/
def RGR_NVREC.COPY : Field := ⟨0x700448, 0x0, 48, 1, 0⟩
/-- BAD [49] RGO, reset HW: 1 = the other copy failed its digest at this start -/
def RGR_NVREC.BAD : Field := ⟨0x700448, 0x0, 49, 1, 0⟩

/-! RGR_LMC_PORTS: offset 0x0070_0450, 32 bits. spec/17_boot_update_and_live_service.md -/
/-- PORTS [17:0] RGO, reset 0: Bit n = port Kn runs the active slot's link microcode -/
def RGR_LMC_PORTS.PORTS : Field := ⟨0x700450, 0x0, 0, 18, 0⟩

/-! RGR_RETIRE: offset 0x0070_0458, 32 bits. spec/17_boot_update_and_live_service.md -/
/-- PENDING [0] RGO, reset 0: 1 = a retirement awaits its apply tick -/
def RGR_RETIRE.PENDING : Field := ⟨0x700458, 0x0, 0, 1, 0⟩
/-- PCORE [8:1] RGO, reset 0: Index of the core being retired -/
def RGR_RETIRE.PCORE : Field := ⟨0x700458, 0x0, 1, 8, 0⟩
/-- PDIE [9] RGO, reset 0: Its die -/
def RGR_RETIRE.PDIE : Field := ⟨0x700458, 0x0, 9, 1, 0⟩
/-- SPARE [17:10] RGO, reset 0: Index of the replacing spare -/
def RGR_RETIRE.SPARE : Field := ⟨0x700458, 0x0, 10, 8, 0⟩
/-- RESULT [19:18] RGO, reset 0: 0 none, 1 applied, 2 no spare left, 3 every spare failed recalibration -/
def RGR_RETIRE.RESULT : Field := ⟨0x700458, 0x0, 18, 2, 0⟩

/-- The registers of spec/01_device_organisation.md. -/
def regRows01 : List RegRow := [
  ⟨0x0, 0x0, 1, 0, 0, 4, 0, [(IDENT_DEVICE.PART, .ro), (IDENT_DEVICE.STEP_MINOR, .ro), (IDENT_DEVICE.STEP_MAJOR, .ro), (IDENT_DEVICE.GRADE, .ro)]⟩,
  ⟨0x8, 0x0, 1, 0, 0, 8, 0, [(IDENT_COUNTS.LCORES, .ro), (IDENT_COUNTS.PCORES, .ro), (IDENT_COUNTS.ENGINES, .ro), (IDENT_COUNTS.DIES, .ro), (IDENT_COUNTS.PORTS, .ro), (IDENT_COUNTS.STACKS, .ro), (IDENT_COUNTS.CMDPROC, .ro), (IDENT_COUNTS.SELUNITS, .ro)]⟩,
  ⟨0x10, 0x0, 1, 0, 0, 8, 0, [(IDENT_SIZES.SPAD_KIB, .ro), (IDENT_SIZES.SPAD_BANKS, .ro), (IDENT_SIZES.HUB_MIB, .ro), (IDENT_SIZES.STACK_GB, .ro), (IDENT_SIZES.ARRAY_DIM, .ro), (IDENT_SIZES.VLANES, .ro), (IDENT_SIZES.VSTAGES, .ro), (IDENT_SIZES.VARIANTS, .ro)]⟩,
  ⟨0x18, 0x0, 1, 0, 0, 4, 0, [(IDENT_HOST.MAX_VFS, .ro), (IDENT_HOST.QP_LOG2, .ro), (IDENT_HOST.CTX_LOG2, .ro), (IDENT_HOST.MSIX_VEC, .ro)]⟩,
  ⟨0x20, 0x0, 1, 0, 0, 4, 0, [(IDENT_TICK_RATES.RATES, .ro), (IDENT_TICK_RATES.NOMINAL, .ro)]⟩,
  ⟨0x28, 0x0, 1, 0, 0, 4, 0, [(IDENT_FORMATS.FP4, .ro), (IDENT_FORMATS.MXFP4, .ro), (IDENT_FORMATS.INT4, .ro), (IDENT_FORMATS.E4M3, .ro), (IDENT_FORMATS.E5M2, .ro), (IDENT_FORMATS.E2M3, .ro), (IDENT_FORMATS.E3M2, .ro), (IDENT_FORMATS.MXFP8, .ro), (IDENT_FORMATS.MXFP6, .ro), (IDENT_FORMATS.MXINT8, .ro), (IDENT_FORMATS.INT8, .ro), (IDENT_FORMATS.BF16, .ro), (IDENT_FORMATS.FP16, .ro), (IDENT_FORMATS.FP32, .ro)]⟩,
  ⟨0x30, 0x0, 1, 0, 0, 4, 0, [(IDENT_DOMAIN.MAX_LOG2, .ro), (IDENT_DOMAIN.DEVICE_ID, .ro), (IDENT_DOMAIN.ID_VALID, .ro)]⟩,
  ⟨0x38, 0x0, 1, 0, 0, 4, 0, [(IDENT_MAP_GEN.GEN, .ro)]⟩]

/-- The registers of spec/02_logical_time_and_clocking.md. -/
def regRows02 : List RegRow := [
  ⟨0x10000, 0x0, 1, 0, 0, 4, 0, [(CLK_STATUS.RATE_IDX, .ro), (CLK_STATUS.SOURCE, .ro), (CLK_STATUS.LOCKED, .ro), (CLK_STATUS.KEEPER, .ro), (CLK_STATUS.HOLD_FRAMES, .ro)]⟩,
  ⟨0x10010, 0x0, 1, 0, 0, 8, 0, [(CLK_SYNC.PARENT_PORT, .ro), (CLK_SYNC.HOPS, .ro), (CLK_SYNC.OFFSET, .ro), (CLK_SYNC.STEER_PPB, .ro)]⟩,
  ⟨0x10018, 0x0, 1, 0, 0, 4, 0, [(CLK_STEER_CFG.INTERVAL_LOG2, .rw), (CLK_STEER_CFG.KP, .rw), (CLK_STEER_CFG.KI, .rw)]⟩,
  ⟨0x10020, 0x0, 1, 0, 0, 4, 0, [(CLK_RATE_REQ.RATE_IDX, .wo), (CLK_RATE_REQ.GO, .wo)]⟩,
  ⟨0x10024, 0x0, 1, 0, 0, 4, 0, [(CLK_RATE_STATE.PENDING, .ro), (CLK_RATE_STATE.TARGET_IDX, .ro), (CLK_RATE_STATE.RESULT, .ro)]⟩,
  ⟨0x10028, 0x0, 1, 0, 0, 8, 0, [(CLK_RATE_AT.BOUNDARY, .ro)]⟩,
  ⟨0x10030, 0x0, 1, 0, 0, 4, 0, [(CLK_HOLDOVER.FRAMES, .rw), (CLK_HOLDOVER.IDLE_MS, .rw)]⟩,
  ⟨0x10038, 0x0, 1, 0, 0, 4, 0, [(CLK_EVENT.REF_LOST, .rw1c), (CLK_EVENT.REF_BACK, .rw1c), (CLK_EVENT.SLACK_EXH, .rw1c), (CLK_EVENT.DEBT_HIGH, .rw1c), (CLK_EVENT.OSC_FLOOR, .rw1c), (CLK_EVENT.CLAMP_PINNED, .rw1c), (CLK_EVENT.STEER_PINNED, .rw1c), (CLK_EVENT.CEIL_REJECT, .rw1c), (CLK_EVENT.CEIL_PENDING, .rw1c), (CLK_EVENT.RATE_CANCEL, .rw1c), (CLK_EVENT.LOCK_LOST, .rw1c), (CLK_EVENT.GL_MISMATCH, .rw1c)]⟩,
  ⟨0x1003C, 0x0, 1, 0, 0, 4, 0, [(CLK_EVENT_REGION.REGION, .ro), (CLK_EVENT_REGION.VALID, .rw1c)]⟩,
  ⟨0x10040, 0x0, 1, 0, 0, 4, 0, [(CLK_PIN_CFG.WINDOW_US, .rw), (CLK_PIN_CFG.DEBT_THRESH, .rw)]⟩,
  ⟨0x10048, 0x0, 1, 0, 0, 4, 0, [(CLK_XING_COUNT.COUNT, .ro)]⟩,
  ⟨0x10050, 0x0, 1, 0, 0, 4, 0, [(CLK_XING_SEL.INDEX, .rw)]⟩,
  ⟨0x11000, 0x4, 288, 0, 0, 4, 0, [(CLK_REGION_CEIL.CEIL_MHZ, .rw)]⟩,
  ⟨0x12000, 0x8, 288, 0, 0, 8, 0, [(CLK_REGION_DEBT.DEBT, .ro), (CLK_REGION_DEBT.MAX_LIVE, .ro), (CLK_REGION_DEBT.MAX_LAST, .ro), (CLK_REGION_DEBT.PEND, .ro), (CLK_REGION_DEBT.OSC_MHZ, .ro), (CLK_REGION_DEBT.CLAMP_MHZ, .ro)]⟩]

/-- The registers of spec/03_plans_and_scheduled_execution.md. -/
def regRows03 : List RegRow := [
  ⟨0x40000, 0x20, 4, 0, 0, 8, 0, [(PLAN_VAR_STATE.STATE, .ro), (PLAN_VAR_STATE.ROLE, .ro), (PLAN_VAR_STATE.FOURCHIP, .ro), (PLAN_VAR_STATE.PARAM, .ro), (PLAN_VAR_STATE.MULTI, .ro), (PLAN_VAR_STATE.REASON, .ro), (PLAN_VAR_STATE.SLOTS, .ro), (PLAN_VAR_STATE.FRAME_LEN, .ro)]⟩,
  ⟨0x40008, 0x20, 4, 0, 0, 8, 0, [(PLAN_VAR_ID.PLAN_ID, .ro)]⟩,
  ⟨0x40010, 0x20, 4, 0, 0, 4, 0, [(PLAN_VAR_VTICKS.VERDICT_TICKS, .ro)]⟩,
  ⟨0x40080, 0x8, 16, 0, 0, 8, 0, [(PLAN_VAR_DIGEST.DIGEST, .ro)]⟩,
  ⟨0x40100, 0x0, 1, 0, 0, 4, 0, [(PLAN_FRAME_CTRL.RUN, .ro), (PLAN_FRAME_CTRL.ACTIVE, .ro), (PLAN_FRAME_CTRL.ABORT_MODE, .ro), (PLAN_FRAME_CTRL.RERUN_LIMIT, .rw)]⟩,
  ⟨0x40108, 0x0, 1, 0, 0, 8, 0, [(PLAN_FRAME_SEQ.SEQ, .ro)]⟩,
  ⟨0x40110, 0x0, 1, 0, 0, 8, 0, [(PLAN_STEP.STEP, .ro)]⟩,
  ⟨0x40118, 0x0, 1, 0, 0, 8, 0, [(PLAN_NEXT_START.TICK, .ro)]⟩,
  ⟨0x40120, 0x0, 1, 0, 0, 8, 0, [(PLAN_CONFIG.LIVE, .ro), (PLAN_CONFIG.STAGED, .ro)]⟩,
  ⟨0x40128, 0x0, 1, 0, 0, 4, 0, [(PLAN_PATCH_STATE.OPEN_ENTRIES, .ro), (PLAN_PATCH_STATE.CLOSED, .ro), (PLAN_PATCH_STATE.PHASE, .ro), (PLAN_PATCH_STATE.RESULT, .ro), (PLAN_PATCH_STATE.DROPPED, .ro)]⟩,
  ⟨0x40200, 0x0, 1, 0, 0, 4, 0, [(PLAN_SNAP_GEN.GEN, .ro)]⟩,
  ⟨0x40208, 0x0, 1, 0, 0, 8, 0, [(PLAN_SNAP_FRAME.SEQ, .ro)]⟩,
  ⟨0x40210, 0x0, 1, 0, 0, 8, 0, [(PLAN_SNAP_INFO.VERDICT, .ro), (PLAN_SNAP_INFO.CAUSE, .ro), (PLAN_SNAP_INFO.FAULTS, .ro), (PLAN_SNAP_INFO.CONFIG, .ro)]⟩,
  ⟨0x40300, 0x0, 1, 0, 0, 4, 0, [(PLAN_FAULT_HEAD.HEAD, .ro), (PLAN_FAULT_HEAD.TAIL, .rw), (PLAN_FAULT_HEAD.UNREAD, .ro), (PLAN_FAULT_HEAD.OVF, .rw1c)]⟩,
  ⟨0x44000, 0x4, 288, 0, 0, 4, 0, [(PLAN_PWR_SNAP.PEAK, .ro), (PLAN_PWR_SNAP.HEADROOM, .ro)]⟩]

/-- The registers of spec/08_memory_system_and_dma.md. -/
def regRows08 : List RegRow := [
  ⟨0x200000, 0x0, 1, 0, 0, 8, 0, [(MEM_LAYOUT.DIE_BYTES, .ro), (MEM_LAYOUT.RSV_GIB, .ro), (MEM_LAYOUT.GRAN_LOG2, .ro)]⟩,
  ⟨0x200008, 0x0, 1, 0, 0, 8, 0, [(MEM_TIMING.REQ_NEAR, .ro), (MEM_TIMING.REQ_FAR, .ro), (MEM_TIMING.RD_NEAR, .ro), (MEM_TIMING.RD_FAR, .ro), (MEM_TIMING.WR_NEAR, .ro), (MEM_TIMING.WR_FAR, .ro)]⟩,
  ⟨0x200010, 0x0, 1, 0, 0, 4, 0, [(MEM_TIMING2.WALK, .ro), (MEM_TIMING2.HOP_NEAR, .ro), (MEM_TIMING2.HOP_FAR, .ro)]⟩,
  ⟨0x200018, 0x0, 1, 0, 0, 4, 0, [(MEM_BUDGET.STACK16, .ro), (MEM_BUDGET.PC64, .ro), (MEM_BUDGET.BRIDGE16, .ro)]⟩,
  ⟨0x200020, 0x0, 1, 0, 0, 4, 0, [(MEM_STATUS.TRAINED, .ro), (MEM_STATUS.FULL_RATE, .ro), (MEM_STATUS.SCRUB_PASSES, .ro)]⟩,
  ⟨0x200028, 0x0, 1, 0, 0, 4, 0, [(MEM_CRYPT.ENABLED, .rgo), (MEM_CRYPT.KEY_EPOCH, .rgo)]⟩,
  ⟨0x200100, 0x8, 12, 0, 0, 8, 0, [(MEM_ECC_SNAP.CE, .ro), (MEM_ECC_SNAP.UE, .ro), (MEM_ECC_SNAP.HOT, .ro)]⟩,
  ⟨0x200200, 0x0, 1, 0, 0, 8, 0, [(MEM_ECC_LAST.BURST, .ro), (MEM_ECC_LAST.UE, .ro), (MEM_ECC_LAST.SCHED, .ro), (MEM_ECC_LAST.STACK, .ro), (MEM_ECC_LAST.VALID, .rw1c)]⟩,
  ⟨0x200300, 0x0, 1, 0, 0, 4, 0, [(MEM_PF_CFG.ENABLE, .rw), (MEM_PF_CFG.MAX_DEPTH, .rw), (MEM_PF_CFG.IDLE_LOG2, .rw)]⟩]

/-- The registers of spec/09_serving_functions.md. -/
def regRows09 : List RegRow := [
  ⟨0x400000, 0x8, 16, 0, 0, 8, 0, [(SRV_SEL_STATE.BUSY, .ro), (SRV_SEL_STATE.JOB, .ro), (SRV_SEL_STATE.JOBS, .ro), (SRV_SEL_STATE.TABLE_LINE, .ro)]⟩,
  ⟨0x400100, 0x8, 16, 0, 0, 8, 0, [(SRV_SEL_SNAP.JOBS, .ro), (SRV_SEL_SNAP.BUBBLES, .ro), (SRV_SEL_SNAP.PROPOSED, .ro), (SRV_SEL_SNAP.ACCEPTED, .ro), (SRV_SEL_SNAP.COMMITTED, .ro)]⟩,
  ⟨0x400180, 0x8, 16, 0, 0, 4, 0, [(SRV_SEL_SNAP2.NAN, .ro), (SRV_SEL_SNAP2.EMPTY, .ro), (SRV_SEL_SNAP2.DROPPED, .ro)]⟩,
  ⟨0x401000, 0x0, 1, 0, 0, 4, 0, [(SRV_CTX_SEL.ID, .rw), (SRV_CTX_SEL.VALID, .ro)]⟩,
  ⟨0x401008, 0x8, 16, 0, 0, 8, 0, [(SRV_CTX_DATA.DATA, .ro)]⟩,
  ⟨0x401100, 0x0, 1, 0, 0, 4, 0, [(SRV_CTX_USED.COUNT, .ro)]⟩]

/-- The registers of spec/10_klonak_link_layer.md. -/
def regRows10 : List RegRow := [
  ⟨0x300000, 0x1000, 18, 0, 0, 8, 0, [(KL_PORT_STATUS.STATE, .ro), (KL_PORT_STATUS.WIDTH, .ro), (KL_PORT_STATUS.RATE, .ro), (KL_PORT_STATUS.ENC, .ro), (KL_PORT_STATUS.SCHED, .ro), (KL_PORT_STATUS.SPILLING, .ro), (KL_PORT_STATUS.LANE_MAP, .ro), (KL_PORT_STATUS.POLARITY, .ro), (KL_PORT_STATUS.DOWN_CAUSE, .ro), (KL_PORT_STATUS.PEER_ID, .ro), (KL_PORT_STATUS.PEER_PORT, .ro), (KL_PORT_STATUS.PEER_VALID, .ro)]⟩,
  ⟨0x300008, 0x1000, 18, 0, 0, 4, 0, [(KL_PORT_CTRL.ENABLE, .rw), (KL_PORT_CTRL.SPILL, .rw), (KL_PORT_CTRL.ENC_REQ, .rw), (KL_PORT_CTRL.WIDTH_REQ, .rw), (KL_PORT_CTRL.RATE_REQ, .rw), (KL_PORT_CTRL.LOOP, .rw)]⟩,
  ⟨0x300010, 0x1000, 18, 0, 0, 8, 0, [(KL_PORT_DELAY.RTT, .ro), (KL_PORT_DELAY.FIXED, .ro), (KL_PORT_DELAY.ALLOW, .ro), (KL_PORT_DELAY.HOP, .ro), (KL_PORT_DELAY.DELAY16, .ro)]⟩,
  ⟨0x300018, 0x1000, 18, 0, 0, 4, 0, [(KL_GRACE.GRACE, .rw)]⟩,
  ⟨0x300020, 0x1000, 18, 0, 0, 8, 0, [(KL_SEQ.TX_NEXT, .ro), (KL_SEQ.TX_ACKED, .ro), (KL_SEQ.RX_NEXT, .ro), (KL_SEQ.OCC, .ro)]⟩,
  ⟨0x300028, 0x1000, 18, 0, 0, 4, 0, [(KL_EVENT.LINK_DOWN, .rw1c), (KL_EVENT.LINK_UP, .rw1c), (KL_EVENT.FLUSH, .rw1c), (KL_EVENT.RELOCKED, .rw1c), (KL_EVENT.AUTH_FAIL, .rw1c), (KL_EVENT.SPILL_START, .rw1c)]⟩,
  ⟨0x300100, 0x8, 9216, 512, 8, 8, 0, [(KL_CNT_SNAP.VALUE, .ro)]⟩,
  ⟨0x340000, 0x0, 1, 0, 0, 8, 0, [(GL_STATUS.LOCK, .ro), (GL_STATUS.BYPASS, .ro), (GL_STATUS.RING_OK, .ro), (GL_STATUS.POSITION, .ro), (GL_STATUS.SIZE, .ro), (GL_STATUS.RTT, .ro), (GL_STATUS.SEG_DELAY, .ro), (GL_STATUS.MARK_OFF, .ro)]⟩,
  ⟨0x340008, 0x0, 1, 0, 0, 4, 0, [(GL_CTRL.ENABLE, .rw), (GL_CTRL.CORR_MS, .rw)]⟩,
  ⟨0x340010, 0x0, 1, 0, 0, 8, 0, [(GL_CNT_SNAP.CODE_ERR, .ro), (GL_CNT_SNAP.CRC_ERR, .ro), (GL_CNT_SNAP.RELOCKS, .ro), (GL_CNT_SNAP.MARKERS, .ro), (GL_CNT_SNAP.DROPPED, .ro)]⟩,
  ⟨0x340018, 0x0, 1, 0, 0, 4, 0, [(GL_EVENT.LOCK_LOST, .rw1c), (GL_EVENT.RING_BREAK, .rw1c), (GL_EVENT.BYPASS_CHANGE, .rw1c)]⟩]

/-- The registers of spec/11_fabric_and_routing.md. -/
def regRows11 : List RegRow := [
  ⟨0x380000, 0x0, 1, 0, 0, 4, 0, [(FAB_ID.ID, .rw), (FAB_ID.RESULT, .ro), (FAB_ID.GO, .wo)]⟩,
  ⟨0x380008, 0x0, 1, 0, 0, 4, 0, [(FAB_DIMS.XS, .rw), (FAB_DIMS.YS, .rw), (FAB_DIMS.ZS, .rw)]⟩,
  ⟨0x380010, 0x0, 1, 0, 0, 4, 0, [(FAB_STATUS.MISCABLED, .ro)]⟩,
  ⟨0x380018, 0x0, 1, 0, 0, 4, 0, [(FAB_SAMPLE_CFG.ENABLE, .rw), (FAB_SAMPLE_CFG.RATE_LOG2, .rw)]⟩,
  ⟨0x380020, 0x0, 1, 0, 0, 4, 0, [(FAB_SAMPLE_HEAD.HEAD, .ro), (FAB_SAMPLE_HEAD.WRAP, .rw1c)]⟩,
  ⟨0x380100, 0x8, 16, 0, 0, 8, 0, [(FAB_TREE.ENABLE, .rw), (FAB_TREE.PARENT, .rw), (FAB_TREE.CHILDREN, .rw), (FAB_TREE.ROOT, .rw)]⟩,
  ⟨0x380200, 0x8, 8, 0, 0, 8, 0, [(FAB_CNT_SNAP.VALUE, .ro)]⟩,
  ⟨0x381000, 0x4, 288, 0, 0, 4, 0, [(FAB_GATE.STATE, .ro), (FAB_GATE.WAKE, .rw), (FAB_GATE.DRAIN, .ro), (FAB_GATE.HELD, .ro)]⟩,
  ⟨0x900000, 0x0, 1, 0, 0, 4, 0, [(TEL_CTRL.ENABLE, .rw)]⟩,
  ⟨0x900008, 0x0, 1, 0, 0, 8, 0, [(TEL_MARK.MARK, .rw)]⟩,
  ⟨0x900010, 0x0, 1, 0, 0, 4, 0, [(TEL_PUSH.GO, .wo), (TEL_PUSH.EVERY, .rw)]⟩,
  ⟨0x900018, 0x0, 1, 0, 0, 8, 0, [(TEL_PUSH_ADDR.ADDR, .rw)]⟩,
  ⟨0x900020, 0x0, 1, 0, 0, 4, 0, [(TEL_STATUS.ARMED, .ro), (TEL_STATUS.PUSHES, .ro), (TEL_STATUS.PUSH_FAIL, .ro)]⟩,
  ⟨0x900100, 0x8, 12, 0, 0, 8, 0, [(TEL_CNT_SNAP.VALUE, .ro)]⟩]

/-- The registers of spec/12_determinism_and_audit.md. -/
def regRows12 : List RegRow := [
  ⟨0x800000, 0x0, 1, 0, 0, 4, 0, [(AUD_HEAD.HEAD, .ro), (AUD_HEAD.PENDING, .ro), (AUD_HEAD.WRAP, .rw1c)]⟩,
  ⟨0x800008, 0x0, 1, 0, 0, 4, 0, [(AUD_ENTRY_SEL.INDEX, .rw)]⟩,
  ⟨0x800100, 0x0, 1, 0, 0, 4, 0, [(AUD_TRAIL_SEL.ID, .rw), (AUD_TRAIL_SEL.VALID, .ro)]⟩,
  ⟨0x800108, 0x8, 4, 0, 0, 8, 0, [(AUD_TRAIL.DATA, .ro)]⟩,
  ⟨0x800200, 0x0, 1, 0, 0, 8, 0, [(AUD_SNAP.RECORDS, .ro), (AUD_SNAP.LAST_DONE, .ro)]⟩]

/-- The registers of spec/13_roll_call_fault_tolerance.md. -/
def regRows13 : List RegRow := [
  ⟨0x600000, 0x0, 1, 0, 0, 4, 0, [(ROLL_STATUS.STATE, .ro), (ROLL_STATUS.AGREEING, .ro), (ROLL_STATUS.COORD, .ro), (ROLL_STATUS.CHOICE, .ro), (ROLL_STATUS.ROUND, .ro), (ROLL_STATUS.MEMBERS, .ro)]⟩,
  ⟨0x600008, 0x0, 1, 0, 0, 8, 0, [(ROLL_EPOCH.EPOCH, .ro)]⟩,
  ⟨0x600010, 0x0, 1, 0, 0, 8, 0, [(ROLL_DIGEST.DIGEST, .ro)]⟩,
  ⟨0x600018, 0x0, 1, 0, 0, 4, 0, [(ROLL_CFG.HB_US, .rw), (ROLL_CFG.LOSS_US, .rw), (ROLL_CFG.COLLECT_US, .rw), (ROLL_CFG.ACK_US, .rw)]⟩,
  ⟨0x600020, 0x0, 1, 0, 0, 4, 0, [(ROLL_REQ.KIND, .wo), (ROLL_REQ.DEV, .wo), (ROLL_REQ.PORT, .wo), (ROLL_REQ.GO, .wo)]⟩,
  ⟨0x600028, 0x0, 1, 0, 0, 4, 0, [(ROLL_EVENT.NEW_EPOCH, .rw1c), (ROLL_EVENT.SWITCHED, .rw1c), (ROLL_EVENT.NO_ALT, .rw1c), (ROLL_EVENT.OUTSIDE, .rw1c), (ROLL_EVENT.LOST_PAGES, .rw1c), (ROLL_EVENT.REVOKED, .rw1c), (ROLL_EVENT.RESTART, .rw1c)]⟩,
  ⟨0x600030, 0x0, 1, 0, 0, 4, 0, [(ROLL_LEASES.HELD, .ro), (ROLL_LEASES.GRANTED, .ro), (ROLL_LEASES.REVOKED, .ro)]⟩,
  ⟨0x600040, 0x8, 4, 0, 0, 4, 0, [(ROLL_ALT.VALID, .rw), (ROLL_ALT.KIND, .rw), (ROLL_ALT.SPAN_LOG2, .rw), (ROLL_ALT.PORT, .rw), (ROLL_ALT.DEV, .rw)]⟩,
  ⟨0x600100, 0x0, 1, 0, 0, 8, 0, [(ROLL_CHANGE.EPOCH_LO, .ro), (ROLL_CHANGE.DEV, .ro), (ROLL_CHANGE.PORT, .ro), (ROLL_CHANGE.LINK, .ro), (ROLL_CHANGE.CAUSE, .ro), (ROLL_CHANGE.COUNT, .ro)]⟩]

/-- The registers of spec/14_host_interface_and_virtualisation.md. -/
def regRows14 : List RegRow := [
  ⟨0x500000, 0x8, 65536, 0, 0, 8, 0, [(HOST_Q.ENABLE, .rw), (HOST_Q.CLASS, .rw), (HOST_Q.LOG2, .rw), (HOST_Q.VECTOR, .rw), (HOST_Q.BASE, .rw)]⟩,
  ⟨0x580000, 0x0, 1, 0, 0, 4, 0, [(HOST_STATUS.GEN, .ro), (HOST_STATUS.WIDTH, .ro), (HOST_STATUS.FLIT, .ro), (HOST_STATUS.FULL, .ro), (HOST_STATUS.VFS, .ro)]⟩,
  ⟨0x580008, 0x0, 1, 0, 0, 4, 0, [(HOST_INFLIGHT.COUNT, .ro)]⟩,
  ⟨0x580010, 0x0, 1, 0, 0, 4, 0, [(HOST_EVENT.QUEUE_ERR, .rw1c), (HOST_EVENT.VF_RESET, .rw1c), (HOST_EVENT.UNBIND_DONE, .rw1c), (HOST_EVENT.MAP_REJECT, .rw1c), (HOST_EVENT.VF, .ro)]⟩,
  ⟨0x580100, 0x8, 256, 0, 0, 8, 1, [(HOST_VF_QMAP.BASE, .rw), (HOST_VF_QMAP.COUNT, .rw), (HOST_VF_QMAP.MINCLASS, .rw)]⟩]

/-- The registers of spec/15_power_ladder_and_budget.md. -/
def regRows15 : List RegRow := [
  ⟨0x20000, 0x0, 1, 0, 0, 4, 0, [(PWR_STATE.DSTATE, .ro), (PWR_STATE.TARGET, .ro), (PWR_STATE.MOVING, .ro)]⟩,
  ⟨0x20008, 0x0, 1, 0, 0, 4, 0, [(PWR_WAKE.CAUSES, .rw1c), (PWR_WAKE.PEND, .ro), (PWR_WAKE.FROM, .ro)]⟩,
  ⟨0x20010, 0x0, 1, 0, 0, 4, 0, [(PWR_WAKE_CFG.REMOTE_EN, .rw), (PWR_WAKE_CFG.HOLD_MS, .rw), (PWR_WAKE_CFG.TIMER_S, .rw)]⟩,
  ⟨0x20014, 0x0, 1, 0, 0, 4, 0, [(PWR_WAKE_SEND.TARGET, .wo), (PWR_WAKE_SEND.GO, .wo)]⟩,
  ⟨0x20018, 0x0, 1, 0, 0, 4, 0, [(PWR_ALLOW.ALLOW_W, .rgo), (PWR_ALLOW.HARD_W, .rgo)]⟩,
  ⟨0x20020, 0x0, 1, 0, 0, 8, 0, [(PWR_MEASURE.MEAS_W, .ro), (PWR_MEASURE.PEAK_W, .ro), (PWR_MEASURE.PCLAMP_MHZ, .ro)]⟩,
  ⟨0x20028, 0x0, 1, 0, 0, 8, 0, [(PWR_THERM.HOT_C, .rgo), (PWR_THERM.CRIT_C, .rgo), (PWR_THERM.MAX_C, .ro), (PWR_THERM.MAX_REGION, .ro)]⟩,
  ⟨0x20030, 0x0, 1, 0, 0, 4, 0, [(PWR_EVENT.CLAMP_ON, .rw1c), (PWR_EVENT.CLAMP_FLOOR, .rw1c), (PWR_EVENT.THERM_HOT, .rw1c), (PWR_EVENT.OVER_PROFILE, .rw1c), (PWR_EVENT.ENTRY_ABORTED, .rw1c), (PWR_EVENT.WAKE, .rw1c), (PWR_EVENT.SLEEP_SHORT, .rw1c)]⟩,
  ⟨0x21000, 0x4, 288, 0, 0, 4, 0, [(PWR_REGION.PSTATE, .ro), (PWR_REGION.SCHED, .ro), (PWR_REGION.TEMP_C, .ro)]⟩]

/-- The registers of spec/16_ranger_and_management.md. -/
def regRows16 : List RegRow := [
  ⟨0x700000, 0x0, 1, 0, 0, 4, 0, [(RGR_STATUS.MODE, .rgo), (RGR_STATUS.FW_SLOT, .rgo), (RGR_STATUS.SESSIONS, .rgo), (RGR_STATUS.FAULT_N, .rgo), (RGR_STATUS.PWR_REQ, .rgo), (RGR_STATUS.FW_VER, .rgo)]⟩,
  ⟨0x700008, 0x0, 1, 0, 0, 4, 0, [(RGR_FS.CAUSE, .rgo), (RGR_FS.REGION, .rgo), (RGR_FS.MORE, .rgo)]⟩,
  ⟨0x700010, 0x0, 1, 0, 0, 8, 0, [(RGR_FS_GST.GST, .rgo)]⟩,
  ⟨0x700018, 0x0, 1, 0, 0, 4, 0, [(RGR_RESET.CAUSE, .rgo), (RGR_RESET.FS_BEFORE, .rgo), (RGR_RESET.FAILED, .rgo), (RGR_RESET.BIVOUAC_N, .rgo)]⟩,
  ⟨0x700020, 0x0, 1, 0, 0, 4, 0, [(RGR_BOOTS.COUNT, .rgo)]⟩,
  ⟨0x700030, 0x8, 3, 0, 0, 8, 0, [(RGR_AVS.TARGET_MV, .rgo), (RGR_AVS.READ_MV, .rgo), (RGR_AVS.READ_A, .rgo), (RGR_AVS.ERR, .rgo)]⟩,
  ⟨0x700048, 0x0, 1, 0, 0, 4, 0, [(RGR_MGMT.EID, .rgo), (RGR_MGMT.I3C_DA, .rgo), (RGR_MGMT.I3C_SA, .rgo), (RGR_MGMT.MGT_UP, .rgo), (RGR_MGMT.LINK_KEY, .rgo)]⟩,
  ⟨0x700200, 0x8, 6, 0, 0, 8, 0, [(RGR_ROOT.DIGEST, .rgo)]⟩,
  ⟨0x700100, 0x0, 1, 0, 0, 4, 0, [(RGR_REJ_HEAD.HEAD, .rgo), (RGR_REJ_HEAD.COUNT, .rgo)]⟩]

/-- The registers of spec/17_boot_update_and_live_service.md. -/
def regRows17 : List RegRow := [
  ⟨0x10060, 0x0, 1, 0, 0, 4, 0, [(CLK_RECAL.REGION, .rw), (CLK_RECAL.GO, .wo), (CLK_RECAL.STATE, .ro), (CLK_RECAL.RESULT, .ro)]⟩,
  ⟨0x700400, 0x8, 4, 0, 0, 8, 0, [(RGR_UPD.ACTIVE, .rgo), (RGR_UPD.OTHER, .rgo), (RGR_UPD.TRIAL, .rgo), (RGR_UPD.TRIALS, .rgo), (RGR_UPD.TRIAL_MAX, .rgo), (RGR_UPD.ROLLED, .rgo), (RGR_UPD.VER_ACTIVE, .rgo), (RGR_UPD.VER_OTHER, .rgo), (RGR_UPD.SVN_MIN, .rgo)]⟩,
  ⟨0x700440, 0x0, 1, 0, 0, 8, 0, [(RGR_BOOT.PHASE, .rgo), (RGR_BOOT.REASON, .rgo), (RGR_BOOT.BIV_REASON, .rgo), (RGR_BOOT.SETTLED, .rgo), (RGR_BOOT.READY_MS, .rgo)]⟩,
  ⟨0x700448, 0x0, 1, 0, 0, 8, 0, [(RGR_NVREC.SEQ, .rgo), (RGR_NVREC.COPY, .rgo), (RGR_NVREC.BAD, .rgo)]⟩,
  ⟨0x700450, 0x0, 1, 0, 0, 4, 0, [(RGR_LMC_PORTS.PORTS, .rgo)]⟩,
  ⟨0x700458, 0x0, 1, 0, 0, 4, 0, [(RGR_RETIRE.PENDING, .rgo), (RGR_RETIRE.PCORE, .rgo), (RGR_RETIRE.PDIE, .rgo), (RGR_RETIRE.SPARE, .rgo), (RGR_RETIRE.RESULT, .rgo)]⟩]

/-- Every register that the register file holds. -/
def regTable : List RegRow :=
  regRows01 ++ regRows02 ++ regRows03 ++ regRows08 ++ regRows09 ++ regRows10 ++ regRows11 ++ regRows12 ++ regRows13 ++ regRows14 ++ regRows15 ++ regRows16 ++ regRows17

/-- The register number that an offset names in a row, if it names one. -/
def RegRow.index (w : RegRow) (off : Nat) : Option Nat :=
  if off < w.off then none
  else if w.stride = 0 then (if off = w.off then some 0 else none)
  else
    let i := (off - w.off) / w.stride
    if (off - w.off) % w.stride = 0 ∧ w.first ≤ i ∧ i < w.count ∧ (w.modulus = 0 ∨ i % w.modulus < w.limit) then some i
    else none

/-- The register at an offset: its row and its number in the row. -/
def regAt (off : Nat) : Option (RegRow × Nat) :=
  regTable.findSome? fun w => (w.index off).map fun i => (w, i)

end Sys2Proof.Machine
end

