-- ==== Sys2Proof/Machine/State.lean ====
section
/-! DEFINITION. The state of the SZ960 as plain data, its faults and refusals, and the state at reset. -/
namespace Sys2Proof.Machine

/-- What the part sends out: to the host, on its links, on its ring, on its management paths. -/
inductive Output
  /-- A register read's value (R9). -/
  | regValue (agent : Agent) (off value : Nat)
  /-- Bytes written to a function's host memory. -/
  | hostWrite (func addr : Nat) (bytes : List Byte)
  /-- An MSI-X message (R303). -/
  | msix (func vector : Nat)
  /-- An ordered set on a port (R214): its control block and its data blocks. -/
  | orderedSet (p : Nat) (raw : List Byte)
  /-- A flit on a port (R216). -/
  | flit (p : Nat) (raw : List Byte)
  /-- A verdict sent up or down a verdict tree in the scheduled slots of a port (R56). -/
  | verdict (p : Nat) (v : Verdict)
  /-- A Guyline message (R232): its bytes. -/
  | guyline (raw : List Byte)
  /-- A service packet handed to the fabric (R244). -/
  | packet (outPort : Nat) (pkt : Packet)
  /-- An answer on a management path (R336 to R341): its path, code, status and payload. -/
  | mgmt (path : MgmtPath) (code status : Nat) (payload : List Byte)
  /-- An I3C in-band interrupt (R339). -/
  | ibi (byte : Nat)
  /-- A voltage request on an AVSBus rail (R344). -/
  | avs (rail mv : Nat)
  /-- An answer on the MGT port (R338). -/
  | mgt (code ident : Nat)
  deriving DecidableEq, Repr

/-- An end-of-tick effect of a core (R85, R89, R118, R150): nothing of it stands before the tick ends. -/
inductive Effect
  /-- Queue `q` writes scalar register `r`. -/
  | sreg (q r v : Nat)
  /-- A signal of `n` to token `id`, by queue `q`'s instruction at `pc`. -/
  | tokenAdd (q pc id n : Nat)
  /-- WAIT of queue `q` at `pc` asks for `n` of token `id`. -/
  | tokenWait (q pc id n : Nat)
  /-- BAR of queue `q` at `pc` asks for one of each token of a mask. -/
  | tokenBar (q pc mask : Nat)
  /-- Credits arrive at a pool. -/
  | creditAdd (pool n : Nat)
  /-- A SEND of queue `q` at `pc` asks for a credit of a pool. -/
  | creditTake (q pc pool : Nat)
  /-- A JOIN of queue `q` at `pc` found its branch unbalanced: the measured ticks and signals (R92). -/
  | unbalanced (q pc ticks sigs : Nat)
  /-- A CGIVE adds to its route's pending credits of a pool. -/
  | pendCredit (route pool n : Nat)
  /-- A VCFG writes a slot's configuration word. -/
  | cslot (slot word : Nat)
  /-- Numeric flags of an engine's array or chain. -/
  | flags (eng : Nat) (chain : Bool) (bits : Nat)
  deriving DecidableEq, Repr

/-- One scratchpad bank access of a tick (R169): its place in the order of precedence (class, issue tick
of its instruction, core and unit, kind), its line, the VRUN whose same-line rule covers it, and the PC of its
instruction in its queue's stream (R71). -/
structure BankAccess where
  cls : Nat
  issued : Nat
  unit : Nat
  kind : Nat
  line : Nat
  share : Option Nat := none
  pc : Nat := 0xFFFFFFFF
  deriving DecidableEq, Repr

/-- One open level of a LOOP (R91). -/
structure LoopSt where
  first : Nat
  stop : Nat
  left : Nat
  deriving DecidableEq, Repr

/-- One open balanced branch (R92). -/
structure BranchSt where
  joinPc : Nat
  armEnd : Option Nat
  tBrb : Nat
  sigs0 : Nat
  deriving DecidableEq, Repr

/-- One issue queue (R79, R91, R92). -/
structure QueueSt where
  pc : Nat := 0
  last : Option Nat := none
  done : Bool := false
  loops : List LoopSt := []
  branches : List BranchSt := []
  sigs : Nat := 0
  deriving DecidableEq, Repr

/-- One matrix pass in flight (R94, R103 to R115): what it was issued with, its operands' lines as they
were read, and its cells' sums so far (row by row, 32 a row; none listed means all zero). -/
structure Pass where
  issue : Nat
  kt : Nat
  split : Bool
  bank : Bool
  acc : Bool
  fmtA : Nat
  fmtB : Nat
  lineA : Nat
  lineB : Nat
  mask : Nat
  bubble : Bool
  dataA : Assoc Nat := []
  dataB : Assoc Nat := []
  cells : List Nat := []
  pc : Nat := 0xFFFFFFFF
  deriving DecidableEq, Repr

/-- One VRUN in flight on one engine (R95, R117 to R129): what it was issued with, its operands as they
were read, the rows in the stages and the reduction so far. -/
structure VRun where
  issue : Nat
  len : Nat
  word : Nat
  src : Nat
  inFmt : Nat
  lineSrc : Nat
  lineDst : Option Nat
  lineRed : Option Nat
  rowLine : Nat
  scaleLine : Nat
  rmode : Nat
  seed : Nat
  bubble : Bool
  rowOps : Assoc Nat := []
  laneOps : Assoc Nat := []
  rows : Assoc (List Nat) := []
  outs : Assoc (List Nat) := []
  scales : Assoc Nat := []
  redBytes : List Byte := []
  total : Option Nat := none
  best : List (Nat × Nat) := []
  lastVal : Nat := 0
  lastIdx : Nat := 0
  pc : Nat := 0xFFFFFFFF
  deriving DecidableEq, Repr

/-- One engine (R109 to R116, R130, R133). -/
structure Engine where
  bank0 : List Nat := []
  bank1 : List Nat := []
  tag0 : Bool := false
  tag1 : Bool := false
  passes : List Pass := []
  inputUntil : Nat := 0
  done0 : Nat := 0
  done1 : Nat := 0
  split : Bool := false
  fmtA : Nat := 0
  fmtB : Nat := 0
  vruns : List VRun := []
  vBusyUntil : Nat := 0
  vSlot : Nat := 0
  vSrc : Nat := 0
  vMode : Nat := 0
  vDone : Nat := 0
  resVal : Nat := 0
  resIdx : Nat := 0
  deriving DecidableEq, Repr

/-- A scratchpad write that waits for the end of its tick: nothing to write for a Hold flit or a bubble,
which only make the access (R169, R243). -/
structure PendWrite where
  tick : Nat
  acc : BankAccess
  addr : Nat
  bytes : List Byte
  deriving DecidableEq, Repr

/-- A DMA piece's scratchpad read that waits for the end of its tick (R173): the piece is `index` of
channel `ch` of core `owner`. -/
structure PieceRead where
  tick : Nat
  acc : BankAccess
  addr : Nat
  len : Nat
  owner : Nat
  ch : Nat
  index : Nat
  deriving DecidableEq, Repr

/-- One side of a descriptor, as it stands at the issue tick (R171): its base with the register added. -/
structure DmaSide where
  base : Nat := 0
  space : Nat := 0
  remote : Bool := false
  dev : Nat := 0
  xlate : Bool := false
  rsv : Nat := 0
  len : Nat := 1
  count : Nat := 1
  stride : Nat := 0
  pt : Nat := 0
  prio : Nat := 0
  deriving DecidableEq, Repr

/-- One DMA channel of a core (R172, R173, R177). -/
structure DmaCh where
  src : DmaSide := {}
  dst : DmaSide := {}
  prio : Nat := 0
  bubble : Bool := false
  pc : Nat := 0
  issued : Nat := 0
  total : Nat := 0
  next : Nat := 0
  landed : Nat := 0
  size : Nat := 1
  done : Nat := 0
  lastLand : Nat := 0
  kept : Option (Nat × Nat × Nat) := none
  part : List Byte := []
  deriving DecidableEq, Repr

/-- One piece on its way (R173): its channel and number, its issue tick, its context-virtual offset and
page-table register if it has one, its physical place once known, its ticks and its bytes. -/
structure Piece where
  ch : Nat
  index : Nat
  issue : Nat
  len : Nat
  pc : Nat
  toMem : Bool := false
  mem : Bool := false
  virt : Option (Nat × Nat) := none
  phys : Option Nat := none
  tag : Nat := 0
  walkAt : Option Nat := none
  arriveAt : Option Nat := none
  landAt : Nat := 0
  dstCore : Option Nat := none
  dstAddr : Nat := 0
  data : List Byte := []
  dead : Bool := false
  performed : Bool := false
  deriving DecidableEq, Repr

/-- One SEND in progress (R90, R243): `slot` is the Groundsheet tick of the next flit's slot, `last` that of
the last flit's, `lines` the lines read for flits that are still to go. `fixed` is the payload of a remote
read's request (R175), which no scratchpad line feeds. -/
structure SendSt where
  issue : Nat
  line : Nat
  count : Nat
  sent : Nat
  done : Nat
  hold : Bool
  slot : Nat
  last : Nat
  lines : Assoc Nat := []
  fixed : Option (List Byte) := none
  cap : Nat := 240
  pc : Nat := 0xFFFFFFFF
  deriving DecidableEq, Repr

/-- One armed RECV (R90, R243, R286): `busyUntil` is set when its last flit's last line has a tick. -/
structure RecvSt where
  issue : Nat
  line : Nat
  count : Nat
  done : Nat
  bubble : Bool
  twin : Bool := false
  cap : Nat := 240
  next : Nat := 0
  nextTwin : Nat := 0
  got : List Nat := []
  bad : List (Nat × Nat) := []
  busyUntil : Option Nat := none
  pc : Nat := 0xFFFFFFFF
  deriving DecidableEq, Repr

/-- One service call (R97 to R101). -/
structure SvcCall where
  code : List Word := []
  state : Nat := 0
  status : Nat := 0
  index : Nat := 0
  base : Nat := 0
  count : Nat := 0
  results : List Nat := []
  waitingCall : Option Nat := none
  cmd : Option HostCmd := none
  deriving DecidableEq, Repr

/-- One logical core (spec/04 to spec/08). The shadow bank of its p registers is the live one with the
writes of the closed and the open patch set over it (R63 to R65). -/
structure Core where
  sregs : Assoc Nat := []
  pLive : Assoc Nat := []
  tokens : Assoc Nat := []
  credits : Assoc Nat := []
  pendCredits : Assoc Nat := []
  cslots : Assoc Nat := []
  queues : Assoc QueueSt := []
  engines : Assoc Engine := []
  agenda : List (Nat × Effect) := []
  accesses : List BankAccess := []
  reads : List PieceRead := []
  writes : List PendWrite := []
  spad : List Host.Cell := []
  badWords : List Nat := []
  flags : Nat := 0
  flagsSnap : Nat := 0
  dma : Assoc DmaCh := []
  dmaLast : Assoc Nat := []
  dmaTick : Nat := 0
  pieces : List Piece := []
  sends : Assoc (Option SendSt) := []
  recvs : Assoc (Option RecvSt) := []
  svc : SvcCall := {}
  deriving DecidableEq, Repr

/-- One clock region (R24 to R27, R41, R76, R254, R320, R324): `sleep` is the profile's entry that the region
follows (start, end, state), `target` the state that its closing gate leads to, `thermalPend` and `ceilPend` the
higher limits that wait for voltage. `stop` counts the REFCLK edges for which a ceiling change still stops the region. -/
structure Region where
  tick : Nat := 0
  ceilPend : Option Nat := none
  ceilSince : Nat := 0
  ceilReady : Bool := true
  stop : Nat := 0
  thermal : Nat := 2047
  thermalPend : Option Nat := none
  target : Nat := 0
  charges : Assoc Nat := []
  porch : List (Nat × Nat × Packet) := []
  sleep : Option (Nat × Nat × Nat) := none
  critMs : Nat := 0
  deriving DecidableEq, Repr

/-- One crossing (R26, R28, R29): its calibration, and its FIFO, which holds one entry for each tick of the
sender: `wrote` is the stamp of the next entry that the sender writes, `took` that of the next one that the receiver
takes. -/
structure Xing where
  min : Nat := 0
  max : Nat := 0
  lat : Nat := 2
  ok : Bool := true
  wrote : Nat := 0
  took : Nat := 0
  deriving DecidableEq, Repr

/-- Time and clocking (spec/02): `wall` counts the REFCLK edges, 6.4 ns each, by which wall-time limits are measured; `held`
is for how many of them in a row a loop has stood at its bound (4 r + loop, R45), or the device in holdover without a plan
(1152, R43). `steerAt` is the tick of the last steering interval's end, `stopEdges` the REFCLK edges
since E0 of a stop window, and `retuned` says that its E16 has come. `hiLatch` has the latched high halves by agent and
register (R9). -/
structure Clk where
  gst : Nat := 0
  acc : Nat := 0
  frac : Nat := 0
  regions : Assoc Region := []
  integ : Int := 0
  offSum : Int := 0
  offCount : Nat := 0
  offOver : Bool := true
  goodRun : Nat := 0
  stamps : Assoc (Option (Nat × Nat × Int)) := []
  ratePend : Option (Nat × Nat) := none
  rateAcks : List Nat := []
  stopWindow : Bool := false
  stopEdges : Nat := 0
  retuned : Bool := false
  steerAt : Nat := 0
  substitutions : Nat := 0
  wall : Nat := 0
  held : Assoc Nat := []
  xings : Assoc Xing := []
  hiLatch : List ((Agent × Nat) × Nat) := []
  rate : Nat := 240
  deriving DecidableEq, Repr

/-- One schedule-fault record (R71). -/
structure FaultRec where
  gst : Nat := 0
  ftick : Nat := 0xFFFFFFFF
  pc : Nat := 0xFFFFFFFF
  cause : Nat := 0
  queue : Nat := 7
  region : Nat := 0
  lcore : Nat := 0xFFFF
  variant : Nat := 0
  flags : Nat := 0
  origin : Nat := 0
  unit : Nat := 0xFFFF
  detail : Nat := 0
  deriving DecidableEq, Repr

/-- One variant slot (R48, R50, R63, R77): its resident image, the valid logical cores at its load with their regions, and
its live slot table (slot to context ID, 0 for UNBOUND). Its shadow slot table is the live one with the binds of the closed
and the open set over it. -/
structure Variant where
  image : List Byte := []
  cores : List (Nat × Nat) := []
  slots : Assoc Nat := []
  deriving DecidableEq, Repr

/-- Where a frame stands (spec/03, frames and boundaries). -/
inductive Phase
  | idle
  | waiting
  | inFrame
  | ended
  | decided
  | applied
  deriving DecidableEq, Repr

/-- One entry of the frame's commit list (R200). -/
inductive CommitEntry
  | advance (ctx n : Nat) (last : Option Nat) (cand : Option (List Nat))
  | count (ctx token : Nat)
  | output (ctx token pos unit : Nat)
  deriving DecidableEq, Repr

/-- One table write of a patch set (R64, R67, R68) in a context's name: `kind` 0 writes `value` to the
page-table entry at physical `addr`, 1 to the locator at context-virtual `addr`, 2 moves the granule of the
entry at `addr` to physical granule `value` (R162). -/
structure TableWrite where
  ctx : Nat
  kind : Nat
  addr : Nat
  value : Nat
  deriving DecidableEq, Repr

/-- A patch set (R64 to R68): its shadow writes by core and register (64 core + register) and by variant and
slot (4,096 variant + slot), and its table writes in their order. -/
structure PatchSet where
  config : Nat := 0
  variant : Nat := 0
  epoch : Nat := 0
  params : Assoc (Option Nat) := []
  binds : Assoc (Option Nat) := []
  writes : List TableWrite := []
  deriving DecidableEq, Repr

/-- A host command whose reply waits for a decision tick (R296, R298): `set` is 1 while its change is in the
open set and 2 while it is in the closed one; `seq` is the frame whose decision tick answers it, once known. -/
structure WaitCmd where
  cmd : HostCmd
  opcode : Nat
  set : Nat := 0
  seq : Option Nat := none
  isFrameWait : Bool := false
  r0 : Nat := 0
  r1 : Nat := 0
  deriving DecidableEq, Repr

/-- The frame engine (R55 to R62, R381). `t0` is the next frame's first tick; `len` and `vt` are L and V of the
frame in progress; `now` is the frame tick that the cores have come to; `index` counts frames started since
FRAME_RUN; `verdict` is the frame's verdict code; `activates` holds (apply tick, slot, command);
`children` holds the children's verdicts with their ports and the ticks at which they came, `verdicts` those that wait for a
slot of a port; `commits` holds entries under 256 unit + job, of which `published` are published; `tableWrites` holds writes
with their ticks; `lastApply` is the last multiple of 65,536 that was an apply tick or passed while frames ran. -/
structure Frame where
  phase : Phase := .idle
  t0 : Nat := 0
  n : Nat := 0
  gap : Nat := 0
  index : Nat := 0
  start : Nat := 0
  len : Nat := 0
  vt : Nat := 0
  now : Nat := 0
  abortTick : Option Nat := none
  fromStart : Bool := false
  first : Option FaultRec := none
  faults : Nat := 0
  children : List (Nat × Nat × Verdict) := []
  verdicts : List (Nat × Verdict) := []
  sentUp : Bool := false
  bcast : Option Verdict := none
  bad : Bool := false
  stopped : Bool := false
  verdict : Nat := 0
  committed : Bool := false
  aborts : Nat := 0
  holdFrames : Nat := 0
  stopAt : Option Nat := none
  stops : List HostCmd := []
  activates : List (Nat × Nat × HostCmd) := []
  commits : List (Nat × CommitEntry) := []
  published : Nat := 0
  updated : List Nat := []
  openSet : PatchSet := {}
  closedSet : Option PatchSet := none
  tableWrites : List (Nat × TableWrite) := []
  waits : List WaitCmd := []
  deferred : List Instr := []
  holdAfterStop : Bool := false
  lastApply : Nat := 0
  deriving DecidableEq, Repr

/-- Plans (spec/03): `loads` are the loads (slot, command) that wait for a region leaving P5 (R321). -/
structure Plan where
  variants : Assoc Variant := []
  loads : List (Nat × HostCmd) := []
  active : Option Nat := none
  frame : Frame := {}
  log : Assoc FaultRec := []
  deriving DecidableEq, Repr

/-- A stream tracker of a memory region (R167). -/
structure Tracker where
  requester : Nat := 0
  tweak : Nat := 0
  last : Nat := 0
  stride : Int := 0
  depth : Nat := 4
  ahead : List Nat := []
  lastHit : Nat := 0
  busy : Bool := false
  deriving DecidableEq, Repr

/-- An access to one burst that takes effect in the tick in progress (R159): its offset and tweak, the bytes of a write or the
length of a read, and its place in the order of the tick: logical core, DMA channel and piece. `svc` marks a service write,
which comes after every scheduled access. -/
structure SchedAcc where
  off : Nat
  tweak : Nat
  bytes : List Byte := []
  read : Option Nat := none
  core : Nat := 0
  ch : Nat := 0
  index : Nat := 0
  pc : Nat := 0xFFFFFFFF
  svc : Bool := false
  deriving DecidableEq, Repr

/-- A remote read that this device serves (R175, R243): its source side, the bytes asked for, the requester,
and how far it has come. -/
structure ServeSt where
  side : DmaSide
  total : Nat
  sent : Nat := 0
  slot : Nat
  refused : Bool := false
  origin : Nat := 0
  deriving DecidableEq, Repr

/-- A service DMA at work (R174, R300): for a command, or for a remote requester's packet that waits for a service
window. `pt` translates its context-virtual sides; `moved` holds the bytes that it has moved; `got` holds the parts of a remote source
that have come, by their places in the stream; `waiting` the packets that are out, as (tag, place, length); `writing` says that they are writes;
`gates` the regions whose gates count it. -/
structure SvcDma where
  busy : Bool := false
  cmd : HostCmd := {}
  requester : Option Nat := none
  pkt : Option (Nat × Packet) := none
  prio : Nat := 1
  src : DmaSide := {}
  dst : DmaSide := {}
  srcHost : Bool := false
  dstHost : Bool := false
  pt : Nat := 0
  data : List Byte := []
  moved : List Byte := []
  got : List (Nat × List Byte) := []
  waiting : List (Nat × Nat × Nat) := []
  writing : Bool := false
  status : Nat := 0
  gates : List Nat := []
  deriving DecidableEq, Repr

/-- Device memory (spec/08). -/
structure Mem where
  cells : List Host.Cell := []
  tweaks : Assoc Nat := []
  badBursts : List Nat := []
  corrected : Assoc Nat := []
  ceLive : Assoc Nat := []
  ueLive : Assoc Nat := []
  hot : List Nat := []
  scrubbed : Nat := 0
  hub : Assoc (List (Nat × Nat)) := []
  trackers : Assoc Tracker := []
  misses : Assoc (Nat × Int) := []
  arrivals : List (Nat × Nat × Nat) := []
  sched : List SchedAcc := []
  serves : Assoc (Option ServeSt) := []
  svcDma : Assoc SvcDma := []
  deriving DecidableEq, Repr

/-- A context: its descriptor's sixteen words and its trail (R178, R179, R262). -/
structure Ctx where
  words : Assoc Nat := []
  trail : Nat := 0
  deriving DecidableEq, Repr

/-- A selection job that runs (R192, R193): its table entry, its eight parameters, and the lines it has read,
by what they are. -/
structure SelRun where
  entry : Nat
  params : List Nat
  bubble : Bool
  lines : Assoc Nat := []
  deriving DecidableEq, Repr

/-- A selection unit (R190 to R202). -/
structure Sel where
  table : List Nat := []
  next : Nat := 0
  run : Option SelRun := none
  jobs : Nat := 0
  bubbles : Nat := 0
  proposed : Nat := 0
  accepted : Nat := 0
  committed : Nat := 0
  nan : Nat := 0
  empty : Nat := 0
  dropped : Nat := 0
  deriving DecidableEq, Repr

/-- A committed token whose Cairn record is not complete (R262, R265). -/
structure CairnTok where
  lane : Nat
  order : Nat
  ctx : Nat
  token : Nat
  pos : Nat
  steps : Nat
  seed : Nat
  frame : Nat
  config : Nat
  variant : Nat
  digest : Nat
  weights : Nat
  decided : Nat
  deriving DecidableEq, Repr

/-- Serving and audit (spec/09, spec/12). -/
structure Srv where
  ctxs : Assoc Ctx := []
  sel : Assoc Sel := []
  cairn : List CairnTok := []
  ring : Assoc Nat := []
  records : Nat := 0
  lastDone : Nat := 0
  ctxSelWait : Bool := false
  trailSelWait : Bool := false
  deriving DecidableEq, Repr

/-- A flit held by a receiving port for its due tick (R222). -/
structure HeldFlit where
  route : Nat
  hold : Bool
  sendTick : Nat
  due : Nat
  cpool : Nat
  cn : Nat
  payload : List Byte
  deriving DecidableEq, Repr

/-- A service packet waiting for a port (R245, R247, R248): the port that it must leave on, where one is named, since when
it waits, and since which wall time it is the first of its buffer. -/
structure QPkt where
  pkt : Packet
  escape : Bool
  inPort : Nat
  since : Nat
  via : Option Nat := none
  head : Nat := 0
  deriving DecidableEq, Repr

/-- A SEQ that a receiver misses (R219): the tick from which its next request may go, if one is due, the tick
of its last request, and how many requests there have been. -/
structure NakSt where
  seq : Nat
  due : Option Nat
  last : Nat := 0
  count : Nat := 1
  deriving DecidableEq, Repr

/-- A Klonak port (spec/10): the settings of its last bring-up and its lanes (R211 to R213), the sender's side
(R218 to R221, R228), the receiver's side, and the service packets that pass through it (R245). `markAt` has each physical
lane's marker arrival in ps; `rttUp`, `delayUp` and `echoesUp` are the greatest round trip in ticks and the sum of the one-way
delays in ps that brought the port UP; `spilled` tells of each spilled SEQ whether it is a service flit; `unacked` has each
service packet under its last SEQ; `asm` is the packet in assembly with its first flit's header bits and its buffer; `downAt`
is the wall time at which the port last left UP; `stampAt` is when its next TIMESTAMP set is due; `ringTick` is the next slot of a
four-chip image's ring positions under this OUT_PORT (R366). -/
structure Port where
  ctrl : Nat := 0
  locked : Nat := 0
  inverted : Nat := 0
  logical : Assoc Nat := []
  markAt : Assoc Nat := []
  dropped : Nat := 0
  lanes : Nat := 15
  block : Bool := false
  relock : Bool := false
  txPreset : Nat := 0
  txCoeff : Nat := 0
  eyePeer : Bool := false
  ts2 : Option Ts2 := none
  ts2Count : Nat := 0
  echoes : Nat := 0
  rttMax : Nat := 0
  delaySum : Nat := 0
  rttUp : Nat := 0
  delayUp : Nat := 0
  echoesUp : Nat := 0
  downAt : Nat := 0
  stampAt : Nat := 0
  linkCmd : Option HostCmd := none
  slotTick : Nat := 0
  ringTick : Nat := 0
  replay : Assoc (List Byte) := []
  spilled : List (Nat × Bool) := []
  resend : List (Nat × Nat) := []
  unacked : List (Nat × Packet) := []
  sending : Option (Packet × Nat) := none
  queue : List QPkt := []
  forwards : List (Nat × HeldFlit) := []
  seen : List Nat := []
  naks : List NakSt := []
  held : List HeldFlit := []
  svcHeld : Assoc (List Byte × Bool) := []
  asm : Option (Nat × List Byte × Bool) := none
  inbuf : List QPkt := []
  key : Option Nat := none
  keyId : Nat := 0
  txGen : Nat := 0
  txGenNext : Nat := 1
  txCount : Nat := 0
  rxKeyId : Nat := 0
  rxGen : Nat := 0
  rxGenNext : Nat := 1
  rxExt : Nat := 0
  rxBase : Nat := 0
  rxBaseOld : Nat := 0
  tagFails : Assoc Nat := []
  live : Assoc Nat := []
  sampleTick : Option Nat := none
  deriving DecidableEq, Repr

/-- A message of this node's own that waits for the Guyline's transmitter (R233): its priority, its type, when it was made,
its STAMP (none: the time at which it leaves), and what else its body holds. -/
structure GlOwn where
  prio : Nat
  code : Nat
  asked : Nat := 0
  stamp : Option Nat := none
  acc : Nat := 0
  val : Nat := 0
  extra : List Byte := []
  deriving DecidableEq, Repr

/-- The Guyline (R230 to R235, R273): `freeAt` is the tick at which the transmitter is free, `insertion` the messages of the
insertion buffer (the tick at which each has left, its bytes), `own` the messages of this node's own that wait; `sent` says
that an own discovery message is on the ring; `ring` and `ringNow` are the nodes (device, HOPS on arrival) whose discovery
messages came between the last two returns of the own one and since the last; `corrSeen` and `markSeen` are a time correction
and a frame marker from a lower ID; `rosterMiss` counts the rosters in a row that lack a position; `corrAt` is the wall time from which the next time correction
may start. -/
structure Gl where
  freeAt : Nat := 0
  insertion : List (Nat × Nat) := []
  own : List GlOwn := []
  sent : Bool := false
  ring : Assoc Nat := []
  ringNow : Assoc Nat := []
  corrSeen : Bool := false
  markSeen : Bool := false
  codeErr : Nat := 0
  crcErr : Nat := 0
  relocks : Nat := 0
  markers : Nat := 0
  dropped : Nat := 0
  everLocked : Bool := false
  rosterMiss : Assoc Nat := []
  corrAt : Nat := 0
  deriving DecidableEq, Repr

/-- A broadcast write that waits for its children (R251). -/
structure TreeWait where
  tag : Nat
  tree : Nat
  parent : Nat
  waiting : List Nat
  status : Nat
  deriving DecidableEq, Repr

/-- The service plane and telemetry (spec/11): `dims` are the domain's sizes as last applied (R239), `requests` the
purposes of this device's own requests, by tag, `hostStage` the channel-0 packets that wait to be written to the host (address
and data), and `handler` the channel-1 packets in the handlers' buffers (R246). -/
structure Fab where
  dims : Nat × Nat × Nat := (1, 1, 1)
  requests : Assoc Nat := []
  trees : List TreeWait := []
  live : Assoc Nat := []
  samples : Assoc Nat := []
  originated : Nat := 0
  nextTag : Nat := 0
  staging : List QPkt := []
  hostStage : List (Nat × List Byte) := []
  handler : Nat := 0
  tel : Assoc Nat := []
  telMilli : Nat := 0
  deriving DecidableEq, Repr

/-- A proposal of the coordinator (R276 to R278): who has accepted it, with which PLAN_ID, and who has refused it. -/
structure Proposal where
  round : Nat
  epoch : Nat
  entries : List RcEntry
  members : Nat
  digest : Nat
  accepts : List (Nat × Nat) := []
  refused : List Nat := []
  deriving DecidableEq, Repr

/-- A lease (spec/13, leases): its kind (0 REMOTE_PAGES, 1 SERVICE_DMA, 2 TREE_WAIT, 3 CP_WORK), its
owner, its server and what it covers. -/
structure Lease where
  kind : Nat
  owner : Nat
  server : Nat
  item : Nat
  deriving DecidableEq, Repr

/-- Roll Call (spec/13): `members` is the bitmap, `suspects` what this device holds as coordinator, `parts` the parts of a
PROPOSE, `flooded` the keys forwarded, `switch` the switch's tick and PLAN_ID, `lost` the lost set L, `heard` the
wall time of each member's last heartbeat, `gone` what this device suspects, `unbinds` the contexts that lose
their pages, with their tick; `heartAt` is the wall time of the next heartbeat, `epochAt`, `collectAt` and `proposedAt` those of the
epoch's start, of the collection window's first suspicion and of the last PROPOSE. -/
structure Roll where
  members : Nat := 0
  exclLinks : List (Nat × Nat) := []
  suspects : List (Nat × RcEntry) := []
  collecting : Bool := false
  proposal : Option Proposal := none
  parts : List RcMsg := []
  accepted : Option Proposal := none
  acceptedCoord : Nat := 0
  flooded : List (Nat × Nat × Nat × Nat) := []
  switch : Option (Nat × Nat) := none
  lost : List RcEntry := []
  heard : Assoc Nat := []
  gone : List RcEntry := []
  leases : List Lease := []
  lostPages : Assoc Nat := []
  lostHead : Nat := 0
  unbinds : List (Nat × Nat) := []
  heartAt : Nat := 0
  epochAt : Nat := 0
  collectAt : Nat := 0
  proposedAt : Nat := 0
  deriving DecidableEq, Repr

/-- A command fetched and not completed (R301, R302): `pick` is its number in the fetch unit's order. -/
structure InFlight where
  opcode : Nat
  cmd : HostCmd
  started : Bool
  pick : Nat := 0
  deriving DecidableEq, Repr

/-- A reply waiting for a completion slot (R294). -/
structure Reply where
  cmdId : Nat
  status : Nat
  opcode : Nat
  detail : Nat
  r0 : Nat
  r1 : Nat
  irqNow : Bool
  deriving DecidableEq, Repr

/-- A queue pair behind its HOST_Q entry (R293, R294, R303): `pendAt` is the wall time of the oldest reply written since the last
interrupt. -/
structure HQueue where
  tail : Nat := 0
  sqHead : Nat := 0
  cqTail : Nat := 0
  cqHead : Nat := 0
  inflight : List InFlight := []
  replies : List Reply := []
  unsignalled : Nat := 0
  pendAt : Nat := 0
  err : Nat := 0
  phase : Bool := true
  state : Nat := 0
  modCount : Nat := 1
  modTime : Nat := 0
  deriving DecidableEq, Repr

/-- The host port (spec/14): `unmasked` are the MSI-X vectors (function, vector) whose mask bit is clear, `msix` the
words 0 to 2 of each table entry under 4 (2,048 function + vector) + word, `held` are the commands that wait for a power
transition to end (R312), `paused` those that wait for their function's Bus Master Enable (R307), `picked` the number of commands
fetched, `dropped` the commands (queue, CMD_ID) whose replies are discarded (R293, R304), `cpWork` the
commands in progress on each command processor, `cpExpired` the processors whose lease ran out while the Ranger's
firmware was down (R326). -/
structure HostPort where
  queues : Assoc HQueue := []
  bme : Assoc Bool := []
  vfOn : Bool := false
  unbind : List Nat := []
  flr : List Nat := []
  dropped : List (Nat × Nat) := []
  unmasked : List (Nat × Nat) := []
  msix : Assoc Nat := []
  pba : List (Nat × Nat) := []
  cpExpired : List Nat := []
  cpWork : Assoc (List HostCmd) := []
  held : List Instr := []
  paused : List Instr := []
  picked : Nat := 0
  deriving DecidableEq, Repr

/-- Device power (spec/15): `step` is the state that the step in progress leads to; `waking` says that a wake cause
waits for a committed step to end; `sumW` is the window's sum in mW; `pendAt` is the wall time at which
the pending remote wake came (R315). -/
structure Pwr where
  step : Nat := 0
  exiting : Bool := false
  committed : Bool := false
  abandoned : Bool := false
  entryCmd : Option HostCmd := none
  waiters : List HostCmd := []
  sumW : Nat := 0
  samples : Nat := 0
  overMs100 : Nat := 0
  clk32k : Bool := true
  waking : Bool := false
  clampPend : Option Nat := none
  pendAt : Nat := 0
  peak : Nat := 0
  deriving DecidableEq, Repr

/-- A management session (R335): whether FINISH has authenticated it, whether PF0 holds it over PCIe (R354), how
many times its keys have been updated (R341), and the sequence number from which a message is new. -/
structure Session where
  id : Nat
  authed : Bool
  pf0 : Bool
  keyGen : Nat := 0
  seq : Nat := 0
  deriving DecidableEq, Repr

/-- One entry of the rejected-write log (R328). -/
structure RejEntry where
  gst : Nat := 0
  kind : Nat := 0
  source : Nat := 0
  off : Nat := 0
  deriving DecidableEq, Repr

/-- A firmware slot (R353 to R355). -/
structure FwSlot where
  image : List Byte := []
  deriving DecidableEq, Repr

/-- The Ranger, the boot and the pins (spec/16 to spec/18). The record's marks: `startOpen`, `bivouacFlag`. A start:
`startDue` says that one may begin, `nextPhase` is the phase to run, `lastFailed` that the last one failed, `trialsRun`
the kinds whose trial start it began, `trialBad` those whose last trial start failed. `cpRestart` is the command processor
to restart next, with the command that waits; `libPend` says that the library's new routines wait; `libTrial` that the next
service window is their trial start. `recalW` is W of the recalibration of region `recal`; `retireTry` the core that waits
for a spare's recalibration, `retire` the map change that waits (the old region and the spare's, 288 for none). `sysRst`
says that SYS_RST_N is asserted, `rstCause` which reset its release ends. `numbered` says that the first boot has numbered
the logical cores (R12). -/
structure Rgr where
  sessions : List Session := []
  nextSession : Nat := 1
  rej : Assoc RejEntry := []
  linkKey : Option Nat := none
  running : Bool := true
  avsMiss : Assoc Nat := []
  avsLow : Assoc Nat := []
  powerOff : Bool := false
  supplyLoss : Bool := false
  pldmState : Nat := 0
  pldmKind : Nat := 0
  pldmSize : Nat := 0
  pldmMax : Nat := 1024
  pldmData : List Byte := []
  algosOk : Bool := false
  tid : Nat := 0
  mgtIps : List Nat := []
  startOpen : Bool := false
  bivouacFlag : Bool := false
  startDue : Bool := true
  starting : Bool := false
  ready : Bool := false
  nextPhase : Nat := 0
  retryAt : Bool := false
  lastFailed : Bool := false
  trialsRun : List Nat := []
  trialBad : List Nat := []
  fw : Assoc FwSlot := []
  cpRestart : Option (Nat × Option HostCmd) := none
  libPend : Bool := false
  libTrial : Bool := false
  recal : Option Nat := none
  recalW : Nat := 0
  leaving : List (Nat × Nat) := []
  retireTry : Option Nat := none
  retire : Option (Nat × Nat) := none
  retired : List (Nat × Nat) := []
  cpResets : Assoc Nat := []
  sysRst : Bool := true
  rstCause : Nat := 0
  jtag : Nat := 0
  numbered : Bool := false
  mgtSgmii : Bool := false
  authNotices : List Nat := []
  testEn : Bool := false
  deriving DecidableEq, Repr

/-- The whole part: the queue of commands that wait, and everything the manual gives the device. `raised` has, for each
RW1C field, the update cycle in which the hardware last set bits of it and those bits (R6). -/
structure State where
  pending : List Instr := []
  freeCount : Nat := 0
  out : List Output := []
  regs : Assoc Nat := []
  raised : Assoc (Nat × Nat) := []
  coreMap : Assoc (Option Nat) := []
  pcores : Assoc Nat := []
  clk : Clk := {}
  plan : Plan := {}
  cores : Assoc Core := []
  mem : Mem := {}
  srv : Srv := {}
  ports : Assoc Port := []
  gl : Gl := {}
  fab : Fab := {}
  roll : Roll := {}
  host : HostPort := {}
  pwr : Pwr := {}
  rgr : Rgr := {}
  deriving DecidableEq, Repr

/-- Why a command stops. -/
inductive Fault
  /-- The command names a unit that the device does not have. Raised by no command: the spec names no condition on which
  the block stops, and such a command changes nothing (log 48). Safe. -/
  | noSuchUnit (kind : String) (index : Nat)
  deriving DecidableEq, Repr

/-- Why a command is refused. -/
inductive Refusal
  /-- The command has no meaning in this model. Raised by no command (every row has its meaning). Safe. -/
  | notModelled (mnemonic : String)
  deriving DecidableEq, Repr

/-- The outcome of a step. -/
abbrev Result := Host.Outcome State Fault Refusal

/-- The state right after reset (R8): every register at its reset value, nothing listed in any memory. -/
def State.reset : State := {}

end Sys2Proof.Machine
end

