-- ==== Sys2Proof/Machine/Ops.lean ====
section
/-! DEFINITION. The operations that the commands share: registers, units, free values, outputs, schedule
faults (R71), the fail-safe state (R329 to R332) and the replies of host commands (R294 to R297). -/
namespace Sys2Proof.Machine

/-! ### Units and registers -/

/-- A command that names a unit of the device has its effect; one that names none changes nothing, since nothing of
that number can act, and an access to its reserved registers completes without effect (R20; log 48). -/
def onUnit (s : State) (ok : Bool) (next : State) : Result := .next (if ok then next else s)

/-- The value of a register field. -/
def State.rget (s : State) (f : Field) (i : Nat := 0) : Nat := Regs.get s.regs f i

/-- The state with a register field's value changed. -/
def State.rset (s : State) (f : Field) (i v : Nat) : State := { s with regs := Regs.set s.regs f i v }

/-- The state with a field of a single register changed. -/
def State.rset0 (s : State) (f : Field) (v : Nat) : State := s.rset f 0 v

/-- A field of a single register, set to 1. -/
def State.rbit (s : State) (f : Field) (i : Nat := 0) : State := s.rset f i 1

/-- The hardware sets bits of an RW1C field (R6): the update cycle in which it did is kept, so that a write of 1 in the
same cycle leaves them set. -/
def State.event (s : State) (f : Field) (i : Nat := 0) (bits : Nat := 1) : State :=
  let old := Assoc.get (0, 0) s.raised (f.key i)
  { s.rset f i (s.rget f i ||| bits) with
    raised := Assoc.put (0, 0) s.raised (f.key i) (s.clk.gst, if old.1 = s.clk.gst then old.2 ||| bits else bits) }

/-- A write of 1 to bits of an RW1C field clears those that the hardware has not set in this update cycle (R6, log 49). -/
def State.clearBits (s : State) (f : Field) (i bits : Nat) : State :=
  let now := Assoc.get (0, 0) s.raised (f.key i)
  let bits := if now.1 = s.clk.gst then bits - (bits &&& now.2) else bits
  s.rset f i (s.rget f i - (s.rget f i &&& bits))

/-- A counter field goes up by `n` and stays at its greatest value (saturates). -/
def State.rsat (s : State) (f : Field) (i n : Nat) : State :=
  s.rset f i (Nat.min (s.rget f i + n) (2 ^ f.width - 1))

/-- A counter field goes up by `n` and wraps. -/
def State.rinc (s : State) (f : Field) (i : Nat) (n : Nat := 1) : State := s.rset f i (s.rget f i + n)

/-- Groundsheet time (R25). -/
def State.gst (s : State) : Nat := s.clk.gst

/-- Logical core `c`. -/
def State.core (s : State) (c : Nat) : Core := Assoc.get {} s.cores c

/-- The state with logical core `c` replaced. -/
def State.setCore (s : State) (c : Nat) (k : Core) : State := { s with cores := Assoc.put {} s.cores c k }

/-- The state with every listed core changed. -/
def State.mapCores (s : State) (f : Core → Core) : State := { s with cores := s.cores.map fun e => (e.1, f e.2) }

/-- Klonak port `p`. -/
def State.port (s : State) (p : Nat) : Port := Assoc.get {} s.ports p

/-- The state with port `p` replaced. -/
def State.setPort (s : State) (p : Nat) (k : Port) : State := { s with ports := Assoc.put {} s.ports p k }

/-- Clock region `r` = 144 d + i (R46). -/
def State.region (s : State) (r : Nat) : Region := Assoc.get {} s.clk.regions r

/-- The state with region `r` replaced. -/
def State.setRegion (s : State) (r : Nat) (k : Region) : State :=
  { s with clk := { s.clk with regions := Assoc.put {} s.clk.regions r k } }

/-- The state with every listed region changed. -/
def State.mapRegions (s : State) (f : Region → Region) : State :=
  { s with clk := { s.clk with regions := s.clk.regions.map fun e => (e.1, f e.2) } }

/-- Host queue `q` (global number). -/
def State.hq (s : State) (q : Nat) : HQueue := Assoc.get {} s.host.queues q

/-- The state with host queue `q` replaced. -/
def State.setHq (s : State) (q : Nat) (k : HQueue) : State :=
  { s with host := { s.host with queues := Assoc.put {} s.host.queues q k } }

/-- Variant slot `v`. -/
def State.variant (s : State) (v : Nat) : Variant := Assoc.get {} s.plan.variants v

/-- The state with variant slot `v` replaced. -/
def State.setVariant (s : State) (v : Nat) (k : Variant) : State :=
  { s with plan := { s.plan with variants := Assoc.put {} s.plan.variants v k } }

/-- The state with the frame engine replaced. -/
def State.setFrame (s : State) (f : Frame) : State := { s with plan := { s.plan with frame := f } }

/-- The frame engine. -/
def State.frame (s : State) : Frame := s.plan.frame

/-- The state with one more output. -/
def State.emit (s : State) (o : Output) : State := { s with out := s.out ++ [o] }

/-- The next free value (log 2): its number, and the state in which it is drawn. -/
def State.draw (s : State) : Nat × State := (s.freeCount, { s with freeCount := s.freeCount + 1 })

/-- The logical cores of each die: 128 on an SZ960-LC, 112 on an SZ960-LB (R12). -/
def State.lcoresPerDie (s : State) : Nat := if s.rget IDENT_DEVICE.GRADE = 1 then 112 else 128

/-- The state of physical core `144 d + i`: 0 enabled, 1 spare, 2 defective, 3 retired. What is not listed is as the fuses
of log 3 have it. -/
def State.pcoreState (s : State) (r : Nat) : Nat :=
  match Assoc.find s.pcores r with
  | some v => v
  | none => if r % 144 < s.lcoresPerDie then 0 else 1

/-- The place of logical core `c` on a device whose first cores of each die are the enabled ones (R12, log 3). -/
def State.plainPlace (s : State) (c : Nat) : Option Nat :=
  if c < s.lcoresPerDie then some c else if c < 2 * s.lcoresPerDie then some (144 + (c - s.lcoresPerDie)) else none

/-- The physical core behind logical core `c` as region index `144 d + i`, if the map entry is valid (R12, R13). -/
def State.physOf (s : State) (c : Nat) : Option Nat :=
  match Assoc.find s.coreMap c with
  | some v => v
  | none => s.plainPlace c

/-- The enabled physical cores of a die, in ascending index. -/
def State.enabledOn (s : State) (d : Nat) : List Nat :=
  ((List.range 136).map fun i => 144 * d + i).filter fun r => decide (s.pcoreState r = 0)

/-- The place that the fuses' marks give logical core `c` (R12): die 0 first, then die 1, in ascending index. -/
def State.fusedPlace (s : State) (c : Nat) : Option Nat :=
  if c < 2 * s.lcoresPerDie then (s.enabledOn (c / s.lcoresPerDie))[c % s.lcoresPerDie]? else none

/-- Whether logical core `c` has a valid map entry (IDENT_CORE_MAP.VALID). -/
def State.coreValid (s : State) (c : Nat) : Bool := (s.physOf c).isSome

/-- The first boot after manufacture assigns the logical numbers (R12): an entry is listed where it differs from the
plain place. -/
def State.assignCores (s : State) : State :=
  let m : Assoc (Option Nat) := (List.range 256).foldl (fun m c =>
    if s.fusedPlace c = s.plainPlace c then m else Assoc.insert m c (s.fusedPlace c)) []
  let s := { s with coreMap := m }
  s.rset0 IDENT_COUNTS.LCORES ((List.range 256).filter fun c => s.coreValid c).length

/-- The region that logical core `c` runs in; 0 stands for a core without a map entry. -/
def State.regionOfCore (s : State) (c : Nat) : Nat := (s.physOf c).getD 0

/-- The logical core of region `r`, if it has one. -/
def State.coreOfRegion (s : State) (r : Nat) : Option Nat :=
  (List.range 256).find? fun c => s.physOf c = some r

/-- The die of a region index. -/
def dieOf (r : Nat) : Nat := r / 144

/-- Whether a region index is a compute (core) region of the device. -/
def isCoreRegion (r : Nat) : Bool := decide (r < 288) && decide (r % 144 < 136)

/-- Every compute region of the device. -/
def coreRegions : List Nat := (List.range 288).filter isCoreRegion

/-- The region of Klonak port `p` (R10). -/
def regionOfPort (p : Nat) : Nat := 144 * (p / 9) + 139 + (p % 9) / 3

/-- The region of memory stack `k` (R10). -/
def regionOfStack (k : Nat) : Nat := 144 * (k / 6) + 136 + (k % 6) / 2

/-- The ticks in 25 REFCLK periods at a tick-rate index (R24's table). -/
def rateN (idx : Nat) : Nat := 240 - 24 * idx

/-- Wall time as REFCLK edges of 6.4 ns: 156.25 to the microsecond (R23), a part of one counted whole. -/
def usEdges (us : Nat) : Nat := ceilDiv (625 * us) 4

/-- The tick rate of an index in MHz (IDENT_TICK_RATES). -/
def rateMHz (idx : Nat) : Nat := 1500 - 150 * idx

/-- The default oscillator ceiling of a tick-rate index in MHz (R24's table). -/
def defaultCeil (idx : Nat) : Nat := 1620 - 162 * idx

/-- 1.02 times the tick rate, rounded up to whole MHz (R40, R323). -/
def ceilFloor (idx : Nat) : Nat := ceilDiv (rateMHz idx * 102) 100

/-- Region `r` recalibrates now: on request, or since it has left P5 (R27, R360). -/
def State.recalibrating (s : State) (r : Nat) : Bool :=
  (decide (s.rgr.recal = some r) && decide (s.rget CLK_RECAL.STATE = 2)) || s.rgr.leaving.any fun e => decide (e.1 = r)

/-- The end of a crossing as CLK_XING_RESULT shows it: a region, or 511 for a PHY domain (R29). -/
def xingEnd (v : Nat) : Nat := if v < 288 then v else 511

/-- The region that sends over crossing `i`. -/
def xingFrom (i : Nat) : Nat := xingEnd (Config.xingSrc i)

/-- The region that receives over crossing `i`. -/
def xingTo (i : Nat) : Nat := xingEnd (Config.xingDst i)

/-! ### Frames (R55) -/

/-- L of the frame in progress. -/
def State.frameLen (s : State) : Nat := s.frame.len

/-- V of the frame in progress. -/
def State.verdictTicks (s : State) : Nat := s.frame.vt

/-- E: the frame's last tick (R55). -/
def State.endTick (s : State) : Nat := s.frame.start + s.frameLen - 1

/-- D: the decision tick (R55). -/
def State.decideTick (s : State) : Nat := s.endTick + s.verdictTicks + 1

/-- A: the apply tick of the boundary (R55). -/
def State.applyAt (s : State) : Nat := s.decideTick + 2048

/-- F': the next frame's first tick, G + 1 after the frame's last (R55). -/
def State.nextFrame (s : State) : Nat := s.endTick + s.frame.gap + 1

/-- Frames run (PLAN_FRAME_CTRL.RUN). -/
def State.running (s : State) : Bool := decide (s.rget PLAN_FRAME_CTRL.RUN = 1)

/-- The device is in the fail-safe state (RGR_STATUS.MODE = 1). -/
def State.failSafe (s : State) : Bool := decide (s.rget RGR_STATUS.MODE = 1)

/-- Whether frames end at the boundary's apply tick: a stop that has come, the count of frames, or the fail-safe
state (R55, R60, R62, R331). -/
def State.framesEnd (s : State) (tick : Nat) : Bool :=
  (match s.frame.stopAt with
   | some t => decide (t ≤ tick)
   | none => false) || (decide (s.frame.n ≠ 0) && decide (s.frame.index ≥ s.frame.n)) || s.failSafe

/-- The device is in Bivouac mode (RGR_STATUS.MODE = 2). -/
def State.bivouac (s : State) : Bool := decide (s.rget RGR_STATUS.MODE = 2)

/-- The frame runs in abort mode at frame tick `t` (R59, R381). -/
def State.abortedAt (s : State) (t : Nat) : Bool :=
  match s.frame.abortTick with
  | some a => decide (a ≤ t)
  | none => false

/-- No further fault of the frame is recorded at frame tick `t`, and every operation is a bubble, which makes no check
of its own (R59, R93): every tick after the abort tick, and every tick of a frame that runs in abort mode from its start.
Faults that other causes raise then are counted (R71). -/
def State.mutedAt (s : State) (t : Nat) : Bool :=
  s.frame.fromStart || match s.frame.abortTick with
  | some a => decide (a < t)
  | none => false

/-- The next apply tick after tick `t` while no frames run: the multiples of 65,536 (R55). -/
def idleApply (t : Nat) : Nat := (t / 65536 + 1) * 65536

/-- The multiples of 65,536 up to a tick have passed: frames ran, or time was set (R34, R55). -/
def State.passApply (s : State) (t : Nat) : State :=
  { s with plan := { s.plan with frame := { s.plan.frame with lastApply := t / 65536 * 65536 } } }

/-- L and V of a variant, as its registers show them. -/
def State.variantLV (s : State) (v : Nat) : Nat × Nat :=
  (s.rget PLAN_VAR_STATE.FRAME_LEN v, s.rget PLAN_VAR_VTICKS.VERDICT_TICKS v)

/-- The activations that wait, in the order of their ticks: (apply tick, slot). -/
def State.dueActivates (s : State) : List (Nat × Nat) :=
  s.frame.activates.foldl (fun acc e =>
    acc.filter (fun x => decide (x.1 ≤ e.1)) ++ [(e.1, e.2.1)] ++ acc.filter (fun x => decide (e.1 < x.1))) []

/-- The apply tick of the frame that starts at `t0` with L and V (R55). -/
def applyOf (t0 : Nat) (lv : Nat × Nat) : Nat := t0 + lv.1 + lv.2 + 2048

/-- The first apply tick from `tick` on of a timeline whose next one is `a`, of a frame with L and V, with gap `gap`, and
whose variant changes at the activations' ticks: after a switch the next frame starts G + 1 ticks after the last tick of the
frame before it (R52, R55). -/
def State.applyFrom (s : State) (gap tick : Nat) : List (Nat × Nat) → Nat → Nat × Nat → Nat
  | [], a, lv => a + ceilDiv (tick - a) (lv.1 + gap) * (lv.1 + gap)
  | (at', slot) :: rest, a, lv =>
    if tick ≤ at' then a + ceilDiv (tick - a) (lv.1 + gap) * (lv.1 + gap)
    else if at' < a then s.applyFrom gap tick rest a lv
    else s.applyFrom gap tick rest (applyOf (at' - lv.2 - 2048 + gap) (s.variantLV slot)) (s.variantLV slot)

/-- The first apply tick from `tick` on while frames run, or are to run from T0 on (R52, R55, R62). -/
def State.frameApply (s : State) (tick : Nat) : Nat :=
  let acts := s.dueActivates
  match s.frame.phase with
  | .idle => idleApply (tick - 1)
  | .waiting =>
    let early := acts.filter fun e => decide (e.1 < s.frame.t0)
    let lv := s.variantLV ((early.getLast?.map (·.2)).getD (s.plan.active.getD 0))
    s.applyFrom s.frame.gap tick (acts.filter fun e => decide (s.frame.t0 ≤ e.1)) (applyOf s.frame.t0 lv) lv
  | .applied =>
    let lv := s.variantLV (s.plan.active.getD 0)
    s.applyFrom s.frame.gap tick acts (applyOf s.frame.t0 lv) lv
  | _ => s.applyFrom s.frame.gap tick acts s.applyAt (s.frame.len, s.frame.vt)

/-- The first apply tick after `tick`: before T0 frames do not run yet, and the multiples of 65,536 are apply ticks (R55;
log 54). -/
def State.applyAfter (s : State) (tick : Nat) : Nat :=
  match s.frame.phase with
  | .idle => idleApply tick
  | .waiting => if idleApply tick < s.frame.t0 then idleApply tick else s.frameApply (tick + 1)
  | _ => s.frameApply (tick + 1)

/-! ### Telemetry and power charges (R74, R257) -/

/-- Telemetry count `k` goes up by `n` while TEL_CTRL.ENABLE = 1 (R257). -/
def State.tel (s : State) (k n : Nat) : State :=
  if s.rget TEL_CTRL.ENABLE = 1 then
    { s with fab := { s.fab with tel := Assoc.put 0 s.fab.tel k (Assoc.get 0 s.fab.tel k + n) } }
  else s

/-- Charges of `m` mPU·t go into the telemetry's count 9, in whole PU·t (R257). -/
def State.telCharge (s : State) (m : Nat) : State :=
  if s.rget TEL_CTRL.ENABLE = 1 then
    let t := s.fab.telMilli + m
    let s := s.tel 9 (t / 1000)
    { s with fab := { s.fab with telMilli := t % 1000 } }
  else s

/-- Region `r` is charged `m` mPU·t at frame tick `t` of the frame in progress (R74, R76, R257). -/
def State.chargeAt (s : State) (r t m : Nat) : State :=
  if m = 0 then s
  else if s.frame.phase = .inFrame then
    let k := s.region r
    let s := s.setRegion r { k with charges := Assoc.put 0 k.charges (t / 4096) (Assoc.get 0 k.charges (t / 4096) + m) }
    s.telCharge m
  else s.telCharge m

/-! ### The fail-safe state (R329 to R332) -/

/-- One journalled change of the Ranger's non-volatile record (R355): SEQ goes up by one, and the copy written first is the one
in use. -/
def State.journal (s : State) : State :=
  (s.rset0 RGR_NVREC.SEQ ((s.rget RGR_NVREC.SEQ + 1) % 2 ^ 48)).rset0 RGR_NVREC.COPY (1 - s.rget RGR_NVREC.COPY)

/-- A start that has not settled ends as a failed start (R349, R350): FAILED goes up in the record, the reason is
kept, and a retry reset is due. -/
def State.failedStart (s : State) (reason : Nat) : State :=
  let s := (s.rsat RGR_RESET.FAILED 0 1).journal
  let s := s.rset0 RGR_BOOT.REASON reason
  { s with rgr := { s.rgr with starting := false, ready := false, retryAt := true, lastFailed := true } }

/-- A start runs and has not reached its settle point (R349). -/
def State.unsettled (s : State) : Bool :=
  (s.rgr.starting || s.rgr.ready) && decide (s.rget RGR_BOOT.SETTLED = 0)

/-- The Guyline bypass closes (R234). -/
def State.closeBypass (s : State) : State :=
  if s.rget GL_STATUS.BYPASS = 1 then s
  else (s.rset0 GL_STATUS.BYPASS 1).event GL_EVENT.BYPASS_CHANGE

/-- A command has left its command processor (R302). -/
def State.cpFree (s : State) (h : HostCmd) : State :=
  let keep (l : List HostCmd) : List HostCmd := l.filter fun c => ¬ (c.queue = h.queue ∧ c.cmdId = h.cmdId)
  { s with host := { s.host with cpWork := (s.host.cpWork.map fun e => (e.1, keep e.2)).filter fun e => ¬ e.2.isEmpty } }

/-- One reply of a host command goes to its queue (R294), unless its queue was drained or its function reset (R293,
R304). -/
def State.reply (s : State) (h : HostCmd) (opcode status detail r0 r1 : Nat) : State :=
  let q := s.hq h.queue
  let left := q.inflight.filter fun e => ¬ (e.cmd.cmdId = h.cmdId ∧ e.opcode = opcode)
  let freed := q.inflight.length - left.length
  let s := (s.rset0 HOST_INFLIGHT.COUNT (s.rget HOST_INFLIGHT.COUNT - freed)).cpFree h
  if s.host.dropped.contains (h.queue, h.cmdId) then
    let s := { s with host := { s.host with dropped := s.host.dropped.erase (h.queue, h.cmdId) } }
    s.setHq h.queue { q with inflight := left }
  else
    let r : Reply := { cmdId := h.cmdId, status := status, opcode := opcode, detail := detail, r0 := r0,
                       r1 := r1, irqNow := bitAt h.flags 1 }
    (s.setHq h.queue { q with inflight := left, replies := q.replies ++ [r] }).tel 11 1

/-- Every command that waits for a tick is answered with one status (R296, R331). -/
def State.flushWaits (s : State) (status : Nat) : State :=
  let ws := s.frame.waits
  let s := s.setFrame { s.frame with waits := [] }
  ws.foldl (fun s w => s.reply w.cmd w.opcode status 0 w.r0 w.r1) s

/-- The service accesses that a region's gate has accepted and not answered (R253). -/
def State.openAccesses (s : State) (r : Nat) : Nat :=
  (s.mem.svcDma.filter fun e => e.2.busy && e.2.gates.contains r).length

/-- The drain counts of regions follow the accesses still open (R253). -/
def State.showDrain (s : State) (rs : List Nat) : State :=
  rs.foldl (fun s r => if s.rget FAB_GATE.STATE r = 1 then s.rset FAB_GATE.DRAIN r (s.openAccesses r) else s) s

/-- A service DMA of these commands stops at a burst boundary (R304). -/
def State.stopCopies (s : State) (p : HostCmd → Bool) : State :=
  let stop (d : SvcDma) : SvcDma := if d.busy && d.requester.isNone && p d.cmd then {} else d
  let gates := s.mem.svcDma.flatMap fun e => e.2.gates
  let left : Assoc SvcDma := (s.mem.svcDma.map fun e => (e.1, stop e.2)).filter fun e => e.2 ≠ {}
  State.showDrain { s with mem := { s.mem with svcDma := left } } gates

/-- The commands in progress that the fail-safe state ends (R331), with their opcodes: a POWER_SET ends with its step, and the
commands that a later event runs again meet the refusal there. -/
def State.withheld (s : State) : List (HostCmd × Nat) :=
  s.plan.loads.map (fun e => (e.2, 0x01)) ++ s.frame.activates.map (fun e => (e.2.2, 0x02)) ++ s.frame.stops.map (·, 0x05) ++
  (s.cores.filterMap fun e => e.2.svc.cmd.map (·, 0x40)) ++
  (s.mem.svcDma.filterMap fun e => if e.2.busy && e.2.requester.isNone then some (e.2.cmd, 0x30) else none) ++
  (s.ports.filterMap fun e => e.2.linkCmd.map (·, 0x48)) ++
  (match s.rgr.cpRestart with
   | some (_, some h) => [(h, 0x58)]
   | _ => [])

/-- They are answered WITHHELD, and their work stops (R331). -/
def State.withholdAll (s : State) : State :=
  let cmds := s.withheld
  let s := s.stopCopies fun _ => true
  let s := s.mapCores fun k => if k.svc.cmd.isSome then { k with svc := { k.svc with state := 0, cmd := none, waitingCall := none } } else k
  let s := s.setFrame { s.frame with activates := [], stops := [] }
  let ports := s.ports.map fun e => (e.1, { e.2 with linkCmd := none })
  let s := { s with ports := ports, plan := { s.plan with loads := [] },
                    rgr := { s.rgr with cpRestart := s.rgr.cpRestart.map fun e => (e.1, none) } }
  cmds.foldl (fun s e => s.reply e.1 e.2 0x0F 0 0 0) s

/-- The region of the spare that a retirement tries (R364). -/
def State.spareTried (s : State) : Option Nat :=
  s.rgr.retireTry.map fun old => 144 * dieOf old + s.rget RGR_RETIRE.SPARE

/-- A region leaves P5 at this tick: it takes Groundsheet time and recalibrates before it issues a tick (R27, R360). -/
def State.leaveP5 (s : State) (r : Nat) : State :=
  { s.setRegion r { s.region r with tick := s.gst } with
    rgr := { s.rgr with leaving := s.rgr.leaving.filter (fun e => decide (e.1 ≠ r)) ++ [(r, s.gst)] } }

/-- What a core region loses at P5, where everything is off (R317): its core's state returns to what it is at reset. -/
def State.powerCut (s : State) (r : Nat) : State :=
  let s := { s with rgr := { s.rgr with leaving := s.rgr.leaving.filter fun e => decide (e.1 ≠ r) } }
  match if isCoreRegion r then s.coreOfRegion r else none with
  | some c => s.setCore c {}
  | none => s

/-- A region state is reached: what leaves P5 recalibrates, what enters it loses its contents (R27, R317). -/
def State.pstateTo (s : State) (r p : Nat) : State :=
  let was := s.rget PWR_REGION.PSTATE r
  let s := s.rset PWR_REGION.PSTATE r p
  if p = 5 ∧ was ≠ 5 then s.powerCut r else if was = 5 ∧ p ≠ 5 then s.leaveP5 r else s

/-- A region goes to a region state (R253, R317): one that enters P3, P4 or P5 closes its gate, and stands at P1
while accesses that the gate accepted are open. -/
def State.regionTo (s : State) (r p : Nat) : State :=
  let n := if p ≥ 3 then s.openAccesses r else 0
  let s := s.setRegion r { s.region r with target := p }
  let s := s.pstateTo r (if n = 0 then p else 1)
  (s.rset FAB_GATE.STATE r (if p < 3 then 0 else if n = 0 then 2 else 1)).rset FAB_GATE.DRAIN r n

/-- All compute regions go to a region state; none follows a profile any longer. -/
def State.allCores (s : State) (p : Nat) : State :=
  coreRegions.foldl (fun s r =>
    let s := s.setRegion r { s.region r with sleep := none }
    (s.regionTo r p).rset PWR_REGION.SCHED r 0) s

/-- The frame in progress runs in abort mode from now on, with no fault recorded (R330, R381). -/
def State.abortFrame (s : State) : State :=
  if s.frame.phase = .inFrame ∧ s.frame.abortTick.isNone then
    (s.setFrame { s.frame with abortTick := some (Nat.max s.frame.now (s.gst - s.frame.start)), bad := true }).rset0
      PLAN_FRAME_CTRL.ABORT_MODE 1
  else s

/-- The device enters the fail-safe state for a cause (R329, R330, R332): the first cause is recorded, the
lowest code of those detected in one tick, and later ones are counted; the frame runs on in abort mode, the
bypass closes, FAULT_N is asserted, PWR_REQ falls, the in-band interrupt is raised, heartbeats carry STATE 2,
compute regions go to P4, the commands in progress are withheld, and the record is journalled. -/
def State.enterFailSafe (s : State) (cause region : Nat) : State :=
  if s.failSafe then
    let s := s.rsat RGR_FS.MORE 0 1
    if s.rget RGR_FS_GST.GST = s.gst ∧ cause < s.rget RGR_FS.CAUSE then
      (s.rset0 RGR_FS.CAUSE cause).rset0 RGR_FS.REGION region
    else s
  else
    let fails := s.unsettled && decide (cause ≠ 0x44)
    let s := s.abortFrame
    let s := s.rset0 RGR_STATUS.MODE 1
    let s := s.rset0 RGR_FS.CAUSE cause
    let s := s.rset0 RGR_FS.REGION region
    let s := s.rset0 RGR_FS.MORE 0
    let s := s.rset0 RGR_FS_GST.GST s.gst
    let s := s.closeBypass
    let s := s.rset0 RGR_STATUS.FAULT_N 0
    let s := s.rset0 RGR_STATUS.PWR_REQ 0
    let s := s.emit (.ibi 0x01)
    let s := s.rset0 ROLL_STATUS.STATE 2
    let s := s.allCores 4
    let s := ((s.flushWaits 0x0F).withholdAll).journal
    if fails then s.failedStart 0x0C else s

/-! ### Schedule faults (R71, R72, R381) -/

/-- The causes that enter the fail-safe state (R71's cause table, R158). -/
def causeFailSafe (cause : Nat) : Bool := [0x06, 0x0B, 0x0C, 0x0D, 0x13, 0x14, 0x15, 0x1B].contains cause

/-- A record is written to the fault log (R72). -/
def State.logFault (s : State) (f : FaultRec) : State :=
  let head := s.rget PLAN_FAULT_HEAD.HEAD
  let s := { s with plan := { s.plan with log := Assoc.put {} s.plan.log head f } }
  let s := s.rset0 PLAN_FAULT_HEAD.HEAD (head + 1)
  if s.rget PLAN_FAULT_HEAD.UNREAD = 64 then
    (s.rset0 PLAN_FAULT_HEAD.TAIL (s.rget PLAN_FAULT_HEAD.TAIL + 1)).event PLAN_FAULT_HEAD.OVF
  else s.rinc PLAN_FAULT_HEAD.UNREAD 0

/-- A schedule fault is raised at frame tick `t` (R71): the first of a frame is recorded and starts
abort mode in that tick (R59, R381), later ones are counted, those of abort mode too; outside a frame it is logged with
no frame tick (R72). A cause with Fail-safe = Yes enters the fail-safe state. -/
def State.raiseFault (s : State) (f : FaultRec) (t : Nat) : State :=
  let region := f.region
  let inFrame := decide (s.frame.phase = .inFrame) || decide (s.frame.phase = .ended)
  let f := { f with gst := if inFrame then s.frame.start + t else s.gst, ftick := if inFrame then t else 0xFFFFFFFF,
                    variant := s.plan.active.getD 0, flags := (if causeFailSafe f.cause then 1 else 0) + f.flags,
                    origin := if f.flags = 0 then s.rget IDENT_DOMAIN.DEVICE_ID else f.origin }
  let s :=
    if decide (s.frame.phase = .inFrame) && s.mutedAt t then s.setFrame { s.frame with faults := s.frame.faults + 1 }
    else if inFrame then
      let s := s.setFrame { s.frame with faults := s.frame.faults + 1 }
      let s := if s.frame.first.isSome then s else (s.logFault f).setFrame { s.frame with first := some f }
      if decide (s.frame.phase = .inFrame) then
        let s := s.setFrame { s.frame with bad := true }
        if s.frame.abortTick.isNone then
          (s.setFrame { s.frame with abortTick := some t }).rset0 PLAN_FRAME_CTRL.ABORT_MODE 1
        else s
      else s
    else s.logFault f
  if causeFailSafe f.cause then s.enterFailSafe f.cause ((region / 256) * 144 + region % 256) else s

/-- REGION of a fault record: the index within the die and the die (R71). -/
def regionCode (r : Nat) : Nat := (r % 144) + 256 * (r / 144)

/-- A schedule fault of an instruction or unit of core `c` (R71). -/
def State.coreFault (s : State) (c queue pc cause unit detail t : Nat) : State :=
  s.raiseFault { cause := cause, queue := queue, pc := pc, region := regionCode (s.regionOfCore c), lcore := c,
                 unit := unit, detail := detail % 2 ^ 32 } t

/-- A schedule fault at a port's region (R71). -/
def State.portFault (s : State) (p cause detail : Nat) : State :=
  s.raiseFault { cause := cause, region := regionCode (regionOfPort p), unit := p, detail := detail % 2 ^ 32 }
    (Nat.max s.frame.now (s.gst - s.frame.start))

/-- The frame tick that Groundsheet time stands at. -/
def State.ftick (s : State) : Nat := s.gst - s.frame.start

/-! ### Host commands (R295 to R297, R302, R312, R331) -/

/-- What an opcode's row of R297's table says of it. -/
structure CmdSpec where
  opcode : Nat
  pf0 : Bool
  args : Nat
  closes : Bool := false
  inSet : Bool := false
  asleepD1 : Bool := false
  failSafeOk : Bool := false
  anyState : Bool := false

/-- How a command's body ends: with a reply now, or with a reply that a later step writes. -/
inductive CmdEnd
  | done (status detail r0 r1 : Nat)
  | later

/-- Argument `k` of a command packet. -/
def cmdArg (h : HostCmd) (k : Nat) : Nat :=
  match k with
  | 0 => h.a0 | 1 => h.a1 | 2 => h.a2 | 3 => h.a3 | 4 => h.a4 | 5 => h.a5 | _ => h.a6

/-- CLOSE is set in the packet. -/
def cmdCloses (h : HostCmd) : Bool := bitAt h.flags 0

/-- AT_COMMIT is set in the packet. -/
def cmdAtCommit (h : HostCmd) : Bool := bitAt h.flags 3

/-- A packet breaks R295: FLAGS [7:6] or an unused argument is not 0, or CLOSE stands where it is not
permitted, or CONFIG is given without CLOSE. -/
def cmdBadForm (h : HostCmd) (k : CmdSpec) : Bool :=
  decide (h.flags / 64 ≠ 0) ||
  (List.range 7).any (fun i => ¬ k.args.testBit i && decide (cmdArg h i ≠ 0)) ||
  (cmdCloses h && (¬ k.closes || decide (h.func ≠ 0))) ||
  (¬ cmdCloses h && decide (h.config ≠ 0))

/-- The open patch set closes with a number, a variant and the current epoch (R64, R66, R67, R295):
0 on success, BUSY while a set is closed, NOT_PERMITTED above 65,536 table writes. -/
def State.closeSet (s : State) (config variant : Nat) : Nat × State :=
  if s.frame.closedSet.isSome then (0x01, s)
  else if s.frame.openSet.writes.length > 65536 then (0x04, s)
  else
    let set := { s.frame.openSet with config := config, variant := variant, epoch := s.rget ROLL_EPOCH.EPOCH }
    let waits := s.frame.waits.map fun w => if w.set = 1 then { w with set := 2 } else w
    let s := s.setFrame { s.frame with closedSet := some set, openSet := {}, waits := waits }
    let s := s.rset0 PLAN_CONFIG.STAGED config
    let s := s.rset0 PLAN_PATCH_STATE.OPEN_ENTRIES 0
    let s := s.rset0 PLAN_PATCH_STATE.CLOSED 1
    (0x00, s.rset0 PLAN_PATCH_STATE.PHASE 1)

/-- The reply of a command that has had its effect: at once, or at a decision tick under AT_COMMIT
(R296). A change that the command's own CLOSE has closed is in the closed set. -/
def State.finish (s : State) (h : HostCmd) (k : CmdSpec) (status detail r0 r1 : Nat) : State :=
  if cmdAtCommit h && decide (status = 0) && decide (k.opcode ≠ 0x06) then
    let set := if k.inSet then (if cmdCloses h then 2 else 1) else 0
    s.setFrame { s.frame with waits := s.frame.waits ++ [{ cmd := h, opcode := k.opcode, set := set, r0 := r0, r1 := r1 }] }
  else s.reply h k.opcode status detail r0 r1

/-- Function `f` is a bus master (R307). -/
def State.busMaster (s : State) (f : Nat) : Bool := Assoc.get false s.host.bme f

/-- A command moves data to or from host memory (R297): a PLAN_LOAD of an image in device memory does not, and a DMA_COPY pauses
by its pieces. -/
def usesHost (op : Nat) (h : HostCmd) : Bool :=
  if op = 0x01 then !bitAt h.a0 8 else [0x20, 0x21, 0x38, 0x39, 0x40, 0x58].contains op

/-- The host command that a row carries. -/
def hostCmdOf (c : Instr) : Option HostCmd :=
  match c with
  | .nop (.host h) => some h
  | .planLoad h _ | .svcRun h _ | .dmaCopy h _ | .updateStage h _ => some h
  | .ctxCreate h _ _ | .ctxSet h _ _ => some h
  | .planActivate h | .planUnload h | .frameRun h | .frameStop h | .frameWait h | .slotBind h | .slotUnbind h | .paramPatch h => some h
  | .statsRead h | .pageMap h | .pageUnmap h | .pageMove h | .ctxDestroy h | .cairnRead h | .linkReset h | .powerSet h => some h
  | .updateConfirm h => some h
  | _ => none

/-- A row carries a host command of a kind. -/
def carries (p : HostCmd → Bool) (c : Instr) : Bool :=
  match hostCmdOf c with
  | some h => p h
  | none => false

/-- A host command `self` runs (R295, R297, R312, R331): the refusals that every command shares, then its body,
then the CLOSE of the open set, then its reply. Without its function's Bus Master Enable its host transfers pause (R307). While a power transition is in progress, every command but POWER_SET
waits for its end. -/
def State.runCmd (s : State) (h : HostCmd) (k : CmdSpec) (self : Instr) (body : State → State × CmdEnd) : State :=
  let d := s.rget PWR_STATE.DSTATE
  if s.failSafe && ¬ k.failSafeOk then s.reply h k.opcode 0x0F 0 0 0
  else if decide (s.rget PWR_STATE.MOVING = 1) && decide (k.opcode ≠ 0x50) then
    { s with host := { s.host with held := s.host.held ++ [self] } }
  else if decide (d ≥ 2) && ¬ k.anyState then s.reply h k.opcode 0x0D 0 0 0
  else if decide (d = 1) && k.asleepD1 then s.reply h k.opcode 0x0D 0 0 0
  else if cmdBadForm h k then s.reply h k.opcode 0x03 0 0 0
  else if k.pf0 && decide (h.func ≠ 0) then s.reply h k.opcode 0x04 0 0 0
  else if usesHost k.opcode h && !s.busMaster h.func then { s with host := { s.host with paused := s.host.paused ++ [self] } }
  else
    match body s with
    | (s, .later) => s
    | (s, .done status detail r0 r1) =>
      if cmdCloses h && decide (status = 0) then
        let (st, s) := s.closeSet h.config ((h.flags >>> 4) % 4)
        s.finish h k st detail r0 r1
      else s.finish h k status detail r0 r1

/-! ### Contexts (R178 to R182) -/

/-- Context `id`'s descriptor and trail. -/
def State.ctx (s : State) (id : Nat) : Ctx := Assoc.get {} s.srv.ctxs id

/-- The state with context `id` replaced. -/
def State.setCtx (s : State) (id : Nat) (c : Ctx) : State :=
  { s with srv := { s.srv with ctxs := Assoc.put {} s.srv.ctxs id c } }

/-- A field of a descriptor: its word, its lowest bit and its width (R179). -/
structure CtxField where
  word : Nat
  lo : Nat
  width : Nat

def CtxField.id : CtxField := ⟨0, 0, 16⟩
def CtxField.state : CtxField := ⟨0, 16, 8⟩
def CtxField.cls : CtxField := ⟨0, 24, 8⟩
def CtxField.func : CtxField := ⟨0, 32, 16⟩
def CtxField.flags : CtxField := ⟨0, 48, 16⟩
def CtxField.pt : CtxField := ⟨1, 0, 64⟩
def CtxField.pos : CtxField := ⟨2, 0, 64⟩
def CtxField.steps : CtxField := ⟨3, 0, 64⟩
def CtxField.seed : CtxField := ⟨4, 0, 64⟩
def CtxField.last : CtxField := ⟨5, 0, 32⟩
def CtxField.spec : CtxField := ⟨5, 32, 32⟩
def CtxField.temp : CtxField := ⟨6, 0, 32⟩
def CtxField.topk : CtxField := ⟨6, 32, 32⟩
def CtxField.rep : CtxField := ⟨7, 0, 32⟩
def CtxField.freq : CtxField := ⟨7, 32, 32⟩
def CtxField.pres : CtxField := ⟨8, 0, 32⟩
def CtxField.ncount : CtxField := ⟨8, 32, 32⟩
def CtxField.mask : CtxField := ⟨11, 0, 64⟩
def CtxField.layout : CtxField := ⟨12, 0, 64⟩
def CtxField.rpt : CtxField := ⟨13, 0, 64⟩
def CtxField.user : CtxField := ⟨14, 0, 64⟩

/-- Word `k` of a descriptor. -/
def Ctx.word (c : Ctx) (k : Nat) : Nat := Assoc.get 0 c.words k

/-- A field's value. -/
def Ctx.field (c : Ctx) (f : CtxField) : Nat := bitsOf (c.word f.word) f.lo f.width

/-- The number `v` with bits `[lo + w - 1 : lo]` replaced by the low bits of `x`. -/
def putBits (v lo w x : Nat) : Nat := v - (bitsOf v lo w) * 2 ^ lo + (x % 2 ^ w) * 2 ^ lo

/-- The descriptor with a field changed. -/
def Ctx.setField (c : Ctx) (f : CtxField) (v : Nat) : Ctx :=
  { c with words := Assoc.put 0 c.words f.word (putBits (c.word f.word) f.lo f.width v) }

/-- Candidate `i` of a descriptor (CAND, R179). -/
def Ctx.cand (c : Ctx) (i : Nat) : Nat := bitsOf (c.word (9 + i / 2)) (32 * (i % 2)) 32

/-- The 64-bit value of a field code of the parameter map for a context (R181). -/
def Ctx.mapValue (c : Ctx) (code : Nat) : Nat :=
  match code with
  | 0x01 => c.field .id
  | 0x02 => c.field .pt
  | 0x03 => c.field .pos
  | 0x04 => c.field .steps
  | 0x05 => c.field .seed
  | 0x06 => c.field .last
  | 0x07 => c.field .id + (c.field .spec % 8) * 2 ^ 16 + (bitsOf (c.field .spec) 3 2) * 2 ^ 19
            + (c.field .cls % 4) * 2 ^ 21 + (c.field .flags % 2) * 2 ^ 23 + (c.field .topk % 128) * 2 ^ 24
            + (c.field .temp) * 2 ^ 32
  | 0x08 => c.field .rep + c.field .freq * 2 ^ 32
  | 0x09 => c.field .pres + (c.field .ncount % 2 ^ 14) * 2 ^ 32
  | 0x0A => c.cand 0 % 2 ^ 20 + (c.cand 1 % 2 ^ 20) * 2 ^ 32
  | 0x0B => c.cand 2 % 2 ^ 20 + (c.cand 3 % 2 ^ 20) * 2 ^ 32
  | 0x0C => c.field .mask
  | 0x0D => c.field .layout
  | 0x0E => c.field .rpt
  | 0x0F => c.field .user
  | 0x10 => (c.field .seed + c.field .steps * 0x9E3779B97F4A7C15) % 2 ^ 64
  | _ => 0

/-- The value of a field code for an unbound slot: descriptor 0, whose MASK is all ones (R181). -/
def unboundValue (code : Nat) : Nat := if code = 0x0C then 2 ^ 64 - 1 else 0

/-- Slot `n` of variant `v`'s live slot table. -/
def State.liveSlot (s : State) (v n : Nat) : Nat := Assoc.get 0 (s.variant v).slots n

/-- A shadow entry: what the open set writes, else what the closed set writes, else the live value (R63 to
R65). -/
def State.shadowOf (s : State) (sel : PatchSet → Assoc (Option Nat)) (key live : Nat) : Nat :=
  match Assoc.get none (sel s.frame.openSet) key with
  | some x => x
  | none =>
    match s.frame.closedSet with
    | some c => (Assoc.get none (sel c) key).getD live
    | none => live

/-- Slot `n` of variant `v`'s shadow slot table. -/
def State.shadowSlot (s : State) (v n : Nat) : Nat := s.shadowOf PatchSet.binds (4096 * v + n) (s.liveSlot v n)

/-- Register `k` of core `c`'s shadow bank. -/
def State.shadowParam (s : State) (c k : Nat) : Nat :=
  s.shadowOf PatchSet.params (64 * c + k) (Assoc.get 0 (s.core c).pLive k)

/-- The slots of variant `v` that some table or set gives a context. -/
def State.slotKeys (s : State) (v : Nat) : List Nat :=
  let here (c : PatchSet) : List Nat := (c.binds.filter fun e => e.1 / 4096 = v).map fun e => e.1 % 4096
  (s.variant v).slots.map (·.1) ++ here s.frame.openSet ++ (match s.frame.closedSet with
    | some c => here c
    | none => [])

/-- Context `id` stands in the live or the shadow slot table of some variant (R179, R182). -/
def State.bound (s : State) (id : Nat) : Bool :=
  (List.range 4).any fun v => (s.slotKeys v).any fun n => decide (s.liveSlot v n = id) || decide (s.shadowSlot v n = id)

/-- The unbind of context `id`'s owner after a VF reset is pending (R305). -/
def State.unbindPending (s : State) (id : Nat) : Bool :=
  decide ((s.ctx id).field .state ≠ 0) && s.host.unbind.contains ((s.ctx id).field .func)

/-- Context `id` stands in the live slot table of the active variant. -/
def State.boundLive (s : State) (id : Nat) : Bool :=
  match s.plan.active with
  | some v => (s.variant v).slots.any fun e => e.2 = id
  | none => false

/-- The contexts' STATE follows their bindings: 2 while bound, back to 1 at the swap that unbinds (R182). -/
def State.settleCtx (s : State) (id : Nat) : State :=
  let c := s.ctx id
  if c.field .state = 2 ∧ ¬ s.bound id then s.setCtx id (c.setField .state 1) else s

/-- Every context's STATE follows its bindings. -/
def State.settleAll (s : State) : State := (s.srv.ctxs.map (·.1)).foldl (fun s id => s.settleCtx id) s

end Sys2Proof.Machine
end

