-- ==== Sys2Proof/Machine/Ring.lean ====
section
/-! DEFINITION. The Guyline's wire: 8b/10b code groups (R230), the receiver's alignment (R231), messages (R232), and the one
transmitter that own and forwarded messages share (R233). -/
namespace Sys2Proof.Machine

/-! ### Code groups (IEEE 802.3 Clause 36, R230) -/

/-- The six-bit codes abcdei of D.0 to D.31 at negative running disparity, first bit highest. -/
def code6 : List Nat :=
  [0b100111, 0b011101, 0b101101, 0b110001, 0b110101, 0b101001, 0b011001, 0b111000] ++
  [0b111001, 0b100101, 0b010101, 0b110100, 0b001101, 0b101100, 0b011100, 0b010111] ++
  [0b011011, 0b100011, 0b010011, 0b110010, 0b001011, 0b101010, 0b011010, 0b111010] ++
  [0b110011, 0b100110, 0b010110, 0b110110, 0b001110, 0b101110, 0b011110, 0b101011]

/-- The four-bit codes fghj of D.x.0 to D.x.7 at negative running disparity, first bit highest. -/
def code4 : List Nat := [0b1011, 0b1001, 0b0101, 0b1100, 0b1101, 0b1010, 0b0110, 0b1110]

/-- How many bits of a code are 1. -/
def onesIn (v n : Nat) : Nat := ((List.range n).filter fun i => v.testBit i).length

/-- One part of a code group of `n` bits after running disparity `rd` (true: positive), and the disparity after it: an
unbalanced code, and one of the two balanced codes that have a complement, is inverted at positive disparity. -/
def codePart (v n : Nat) (paired rd : Bool) : Nat × Bool :=
  let even := decide (2 * onesIn v n = n)
  (if rd && (paired || !even) then 2 ^ n - 1 - v else v, if even then rd else !rd)

/-- The code group of a data byte, and the running disparity after it. -/
def dataGroup (rd : Bool) (b : Nat) : Nat × Bool :=
  let x := b % 32
  let y := b / 32
  let (hi, mid) := codePart (code6.getD x 0) 6 (decide (x = 7)) rd
  let alt := decide (y = 7) && (if mid then [11, 13, 14].contains x else [17, 18, 20].contains x)
  let (lo, rd) := codePart (if alt then 0b0111 else code4.getD y 0) 4 (decide (y = 3)) mid
  (16 * hi + lo, rd)

/-- The code groups of K28.5, K27.7 and K29.7, inverted at positive running disparity. -/
def controlGroup (rd : Bool) (b : Nat) : Nat × Bool :=
  let v := if b = 0xBC then 0b0011111010 else if b = 0xFB then 0b1101101000 else 0b1011101000
  (if rd then 1023 - v else v, if onesIn v 10 = 5 then rd else !rd)

/-- Characters (control or data, byte) as code groups, from a running disparity on. -/
def codeGroups (rd : Bool) : List (Bool × Nat) → List Nat
  | [] => []
  | (ctrl, b) :: rest =>
    let (g, rd) := if ctrl then controlGroup rd b else dataGroup rd b
    g :: codeGroups rd rest

/-- A message's characters: K27.7, its bytes, K29.7, and the two idle pairs K28.5 D16.2 that at least separate it from the
next (R230). -/
def glChars (raw : List Byte) : List (Bool × Nat) :=
  (true, 0xFB) :: raw.map (fun b => (false, b.toNat)) ++ [(true, 0xFD), (true, 0xBC), (false, 0x50), (true, 0xBC), (false, 0x50)]

/-- The code groups that the transmitter has sent, idle characters beyond the least gap left out. -/
def State.ringGroups (s : State) : List Nat :=
  codeGroups false (s.out.flatMap fun o => match o with
    | .guyline raw => glChars raw
    | _ => [])

/-! ### Alignment (R231) -/

/-- The comma 0011111 or its complement stands at bit `i` of received bits, first bit lowest. -/
def commaAt (rx i : Nat) : Bool := decide (bitsOf rx i 7 = 0b1111100) || decide (bitsOf rx i 7 = 0b0000011)

/-- Four commas in a row stand at one offset of the ten of a character. -/
def fourCommas (at' : List Nat) : Bool :=
  (List.range at'.length).any fun i => decide (i + 4 ≤ at'.length) &&
    ((at'.drop i).take 4).all fun o => decide (o % 10 = at'.getD i 0 % 10)

/-- The receiver takes lock on `n` received bits. -/
def ringLock (rx n : Nat) : Bool := fourCommas ((List.range (n - 6)).filter fun i => commaAt rx i)

/-! ### Messages (R232) -/

/-- A message: TYPE, HOPS, source, LEN, body, CRC-16. -/
def glBytes (code hops src : Nat) (body : List Byte) : List Byte :=
  let m := bytesOf code 1 ++ bytesOf hops 1 ++ bytesOf (src % 2 ^ 14) 2 ++ bytesOf body.length 1 ++ body
  m ++ bytesOf (crc16 m) 2

/-- The body that a message's fields make (R232, R273): STAMP, ACC or RES, and what each type adds. -/
def glBody (code stamp acc val : Nat) : List Byte :=
  match code with
  | 0x01 => bytesOf stamp 8 ++ bytesOf acc 4 ++ bytesOf val 8
  | 0x02 => bytesOf stamp 8 ++ bytesOf acc 4 ++ bytesOf val 2
  | 0x03 => bytesOf stamp 8 ++ bytesOf acc 4
  | 0x04 => bytesOf val 2
  | 0x11 => []
  | _ => bytesOf stamp 8 ++ bytesOf val 8

/-! ### The transmitter (R233) -/

/-- The ticks that a message of `n` bytes takes with its delimiters and the gap after it: ten bits a character at eight
REFCLK periods for ten bits. -/
def State.glTicks (s : State) (n : Nat) : Nat := ceilDiv ((n + 6) * s.clk.rate) 20

/-- This device's ID. -/
def State.ownId (s : State) : Nat := s.rget IDENT_DOMAIN.DEVICE_ID

/-- This node takes part in the ring: its bypass is open. -/
def State.onRing (s : State) : Bool := decide (s.rget GL_STATUS.BYPASS = 0)

/-- What has left the insertion buffer is no longer in it. -/
def State.glPurge (s : State) : State :=
  { s with gl := { s.gl with insertion := s.gl.insertion.filter fun e => decide (s.gst < e.1) } }

/-- The own message that goes next: Roll Call's first, then WAKE, then markers and corrections, then discovery; of one kind
the oldest. -/
def nextOwn (ms : List GlOwn) : Option GlOwn :=
  ms.foldl (fun best m => match best with
    | none => some m
    | some b => if m.prio < b.prio then some m else best) none

/-- A message leaves from tick `t` on. -/
def State.glLeave (s : State) (raw : List Byte) (t : Nat) : State :=
  { s.emit (.guyline raw) with gl := { s.gl with freeAt := t + s.glTicks raw.length } }

/-- Own messages leave while the transmitter is free and no message waits in the insertion buffer. STAMP is the time at
which K27.7 leaves (R232). -/
def State.glPump (s : State) : Nat → State
  | 0 => s
  | n + 1 =>
    match nextOwn s.gl.own with
    | none => s
    | some m =>
      if s.gst < s.gl.freeAt ∨ s.gl.insertion ≠ [] then s
      else
        let t := Nat.max s.gl.freeAt m.asked
        let raw := glBytes m.code 0 s.ownId (glBody m.code (m.stamp.getD t) m.acc m.val ++ m.extra)
        (({ s with gl := { s.gl with own := s.gl.own.erase m } }).glLeave raw t).glPump n

/-- The transmitter up to now. A closed bypass drops what waits. -/
def State.glRun (s : State) : State :=
  if s.onRing then s.glPurge.glPump s.gl.own.length else { s with gl := { s.gl with own := [], insertion := [] } }

/-- A message of this node's own waits for the transmitter, and leaves if it is free. -/
def State.glSend (s : State) (m : GlOwn) : State :=
  let s := s.glRun
  ({ s with gl := { s.gl with own := s.gl.own ++ [{ m with asked := s.gst }] } }).glRun

/-- A message is forwarded: at once, or from the insertion buffer of 128 bytes while the transmitter is busy; a full buffer
drops and counts it. -/
def State.glPass (s : State) (raw : List Byte) : State :=
  let s := s.glRun
  if s.gl.freeAt ≤ s.gst then s.glLeave raw s.gst
  else if (s.gl.insertion.map (·.2)).sum + raw.length ≤ 128 then
    let t := s.gl.freeAt
    let s := s.glLeave raw t
    { s with gl := { s.gl with insertion := s.gl.insertion ++ [(t + s.glTicks raw.length, raw.length)] } }
  else { s with gl := { s.gl with dropped := s.gl.dropped + 1 } }

/-- A message arrives (R232, R233): discarded and counted where its CRC is bad or its TYPE unknown; removed where this node is
its source, by `own`; else taken by `take`, and forwarded unless HOPS is 63. -/
def State.glArrive (s : State) (m : GlMsg) (own take forward : State → State) : State :=
  if ¬ s.onRing then s
  else if ¬ m.crcOk ∨ ¬ m.known then { s with gl := { s.gl with crcErr := s.gl.crcErr + 1 } }
  else if m.src = s.ownId then own s
  else
    let s := take s
    if m.hops ≥ 63 then s else forward s

end Sys2Proof.Machine
end

