-- ==== Sys2Proof/Machine/DevMem.lean ====
section
/-! DEFINITION. Device memory (spec/08): where an offset lies (R154, R155), what a burst holds under its tweak
(R160, R162), translation (R163, R164), the scheduled budgets (R157) and the order of scheduled writes (R159). -/
namespace Sys2Proof.Machine

/-! ### Places (R154, R155) -/

/-- DIE_BYTES (R154). -/
def dieBytes : Nat := 288000000000

/-- The installed memory (R16). -/
def installed : Nat := 2 * dieBytes

/-- The first byte of a die's reserved area: its highest 4 GiB (R155). -/
def reservedAt (die : Nat) : Nat := (die + 1) * dieBytes - 2 ^ 32

/-- Bytes `off .. off + n - 1` touch a reserved area (R155). -/
def inReserved (off n : Nat) : Bool :=
  (decide (off < dieBytes) && decide (reservedAt 0 < off + n)) ||
  (decide (off < installed) && decide (reservedAt 1 < off + n))

/-- Bytes `off .. off + n - 1` lie within one table pool (R155). -/
def inPool (off n : Nat) : Bool :=
  [0, 1].any fun d => decide (reservedAt d + 0x80000000 ≤ off) && decide (off + n ≤ reservedAt d + 0xC0000000)

/-- The stack of an offset (R154). -/
def stackOf (off : Nat) : Nat := 6 * (off / dieBytes) + off % dieBytes / 4096 % 6

/-- The pseudo-channel of an offset (R154). -/
def pseudoOf (off : Nat) : Nat := bitsOf off 6 6 ^^^ (off % dieBytes / 4096 / 6 % 64)

/-! ### Bursts (R160, R162) -/

/-- The tweak of a physical access (R162). -/
def physTweak : Nat := 0

/-- The tweak of an access through a context with an owner tag (R162). -/
def ctxTweak (tag : Nat) : Nat := tag + 2 ^ 16

/-- The tweak that a burst counts as written under since the keys were made, before anything has written it: the table pools'
entries are 0 (R163's reset values), and every other byte reads back as an unrelated one (R162), as under a tweak that
no access has. -/
def freshTweak (burst : Nat) : Nat := if inPool (64 * burst) 64 then physTweak else 2 ^ 17

/-- The memory's list of bytes is canonical: addresses rising, no listed zero, which is what an unlisted one holds. -/
def Memory.wf (m : Mem) : Bool := Assoc.wf (0 : Byte) m.cells

/-- A byte as stored, under whatever tweak it was written. -/
def State.memByte (s : State) (a : Nat) : Byte := Assoc.get (0 : Byte) s.mem.cells a

/-- Bytes as stored. -/
def State.memBytes (s : State) (a n : Nat) : List Byte := (List.range n).map fun i => s.memByte (a + i)

/-- A little-endian number as stored. -/
def State.memNat (s : State) (a n : Nat) : Nat := natOfBytes (s.memBytes a n)

/-- `n` free bytes (R162, log 7). -/
def State.freeBytes (s : State) (n : Nat) : List Byte × State :=
  ((List.range n).map fun i => Config.freeByte (s.freeCount + i), { s with freeCount := s.freeCount + n })

/-- An uncorrectable burst is found (R161, R73): the record and the stack's count. -/
def State.foundUe (s : State) (burst : Nat) (sched : Bool) : State :=
  let k := stackOf (64 * burst)
  let s := { s with mem := { s.mem with ueLive := Assoc.put 0 s.mem.ueLive k (Assoc.get 0 s.mem.ueLive k + 1) } }
  let s := (s.rset0 MEM_ECC_LAST.BURST burst).rset0 MEM_ECC_LAST.UE 1
  let s := (s.rset0 MEM_ECC_LAST.SCHED (if sched then 1 else 0)).rset0 MEM_ECC_LAST.STACK k
  s.event MEM_ECC_LAST.VALID

/-- The tweak under which a burst was last written (R162). -/
def State.tweakOf (s : State) (burst : Nat) : Nat := Assoc.get (freshTweak burst) s.mem.tweaks burst

/-- Bytes of one burst read under a tweak: its bytes, zeros with the uncorrectable mark (R160), or free bytes
under another tweak (R162). -/
def State.burstRead (s : State) (off n tweak : Nat) (sched : Bool) : List Byte × Bool × State :=
  let b := off / 64
  if s.mem.badBursts.contains b then (List.replicate n 0, true, s.foundUe b sched)
  else if s.tweakOf b = tweak then (s.memBytes off n, false, s)
  else
    let (bs, s) := s.freeBytes n
    (bs, false, s)

/-- Bytes stored, with no check. -/
def State.memStore (s : State) (off : Nat) (bs : List Byte) : State :=
  { s with mem := { s.mem with cells := Assoc.putRange (0 : Byte) s.mem.cells off bs } }

/-- Bytes of one burst written under a tweak (R160, R162): a whole burst replaces it and makes it good; a part
is merged, which an uncorrectable burst refuses. -/
def State.burstWrite (s : State) (off : Nat) (bs : List Byte) (tweak : Nat) (sched : Bool) : Bool × State :=
  let b := off / 64
  let retag (s : State) : State :=
    { s with mem := { s.mem with tweaks := Assoc.put (freshTweak b) s.mem.tweaks b tweak } }
  if bs.length = 64 then
    (false, retag ({ s with mem := { s.mem with badBursts := s.mem.badBursts.filter (· ≠ b) } }.memStore off bs))
  else if s.mem.badBursts.contains b then (true, s.foundUe b sched)
  else if s.tweakOf b = tweak then (false, s.memStore off bs)
  else
    let (free, s) := s.freeBytes 64
    (false, retag ((s.memStore (64 * b) free).memStore off bs))

/-- Splits `n` bytes from an offset at burst boundaries: (offset, length) of each part. -/
def burstParts : Nat → Nat → Nat → List (Nat × Nat)
  | 0, _, _ => []
  | fuel + 1, off, n =>
    if n = 0 then []
    else
      let m := Nat.min n (64 - off % 64)
      (off, m) :: burstParts fuel (off + m) (n - m)

/-- Bytes read under a tweak over any number of bursts, and whether one was uncorrectable. -/
def State.memRead (s : State) (off n tweak : Nat) (sched : Bool) : List Byte × Bool × State :=
  (burstParts (n + 1) off n).foldl (fun (a : List Byte × Bool × State) e =>
    let (bs, bad, s) := a.2.2.burstRead e.1 e.2 tweak sched
    (a.1 ++ bs, a.2.1 || bad, s)) ([], false, s)

/-- Bytes written under a tweak over any number of bursts, and whether one refused. -/
def State.memWrite (s : State) (off : Nat) (bs : List Byte) (tweak : Nat) (sched : Bool) : Bool × State :=
  (burstParts (bs.length + 1) off bs.length).foldl (fun (a : Bool × State) e =>
    let (bad, s) := a.2.burstWrite e.1 ((bs.drop (e.1 - off)).take e.2) tweak sched
    (a.1 || bad, s)) (false, s)

/-! ### The hub cache (R166) -/

/-- The set of a burst: R166's 131,072 sets for each die (log 14). -/
def hubSet (burst : Nat) : Nat := 131072 * (64 * burst / dieBytes) + burst % 131072

/-- A line leaves the hub cache. -/
def State.hubDrop (s : State) (burst : Nat) : State :=
  let set := Assoc.get [] s.mem.hub (hubSet burst)
  { s with mem := { s.mem with hub := Assoc.put [] s.mem.hub (hubSet burst) (set.filter fun e => e.1 ≠ burst) } }

/-! ### The accesses of a tick (R159) -/

/-- The first access comes before the second on one arrival tick: the lower logical core, then the lower channel, then the
earlier piece; service accesses come last (R159). -/
def SchedAcc.before (a b : SchedAcc) : Bool :=
  if a.svc then false
  else b.svc || decide (a.core < b.core) || (decide (a.core = b.core) &&
    (decide (a.ch % 16 < b.ch % 16) || (decide (a.ch % 16 = b.ch % 16) && decide (a.index < b.index))))

/-- An access takes its place in the order of the tick. -/
def insertAcc (a : SchedAcc) : List SchedAcc → List SchedAcc
  | [] => [a]
  | b :: rest => if a.before b then a :: b :: rest else b :: insertAcc a rest

/-- The state with an access of the tick in progress added in its place. -/
def State.addSched (s : State) (a : SchedAcc) : State := { s with mem := { s.mem with sched := insertAcc a s.mem.sched } }

/-- One write of a tick stands: a scheduled one invalidates the cached line, a service one updates it (R166). -/
def State.applyAcc (s : State) (w : SchedAcc) : State :=
  if w.read.isSome then s
  else
    let s := (s.memWrite w.off w.bytes w.tweak (!w.svc)).2
    if w.svc then s else s.hubDrop (w.off / 64)

/-- The writes of the tick stand, in their order (R159). -/
def State.applySched (s : State) : State :=
  s.mem.sched.foldl State.applyAcc { s with mem := { s.mem with sched := [] } }

/-- The scheduled writes of a tick of the abort mode do not stand (R381); service writes do. -/
def State.dropSched (s : State) : State :=
  (s.mem.sched.filter (·.svc)).foldl State.applyAcc { s with mem := { s.mem with sched := [] } }

/-- A read of one burst of which every write of the tick that comes before it is in what it returns (R159). A line held by
the hub cache is plaintext, which no error of the burst reaches (R166). -/
def State.orderedRead (s : State) (off n tweak : Nat) (sched cached : Bool) : List Byte × Bool × State :=
  let v := s.applySched
  let v := if cached then { v with mem := { v.mem with badBursts := [] } } else v
  let (bs, bad, v') := v.burstRead off n tweak sched
  (bs, bad, { s with freeCount := v'.freeCount, regs := v'.regs, raised := v'.raised, mem := { s.mem with ueLive := v'.mem.ueLive } })

/-- A scheduled read of one burst outside the order of the cores' pieces: a remote read that this device serves comes after
the pieces that have arrived in its tick (R159, log 60). -/
def State.schedRead (s : State) (off n tweak : Nat) : List Byte × Bool × State := s.orderedRead off n tweak true false

/-! ### Budgets (R157) -/

/-- What arrived for a budget in the last `window` ticks up to Groundsheet tick `g`. -/
def State.arrived (s : State) (key g window : Nat) : Nat :=
  ((s.mem.arrivals.filter fun e => decide (e.2.1 = key) && decide (g < e.1 + window)).map (·.2.2)).sum

/-- One budget of R157: its number, its key, its window and its limit, and what a burst adds. -/
structure Budget where
  num : Nat
  key : Nat
  window : Nat
  limit : Nat
  add : Nat

/-- The budgets of a burst at an offset: the stack's and the pseudo-channel's. -/
def State.burstBudgets (s : State) (off bursts : Nat) : List Budget :=
  let k := stackOf off
  [{ num := 1, key := k, window := 16, limit := s.rget MEM_BUDGET.STACK16, add := bursts },
   { num := 2, key := 100 + 64 * k + pseudoOf off, window := 64, limit := s.rget MEM_BUDGET.PC64, add := bursts }]

/-- The bridge's budget in one direction: `dir` is the die that the bytes go to. -/
def State.bridgeBudget (s : State) (dir bytes : Nat) : Budget :=
  { num := 3, key := 2000 + dir, window := 16, limit := s.rget MEM_BUDGET.BRIDGE16, add := bytes }

/-- A burst arrives at Groundsheet tick `g`: the lowest-numbered budget that it exceeds, or it counts against
all of them (R157). -/
def State.arrive (s : State) (g : Nat) (bs : List Budget) : Option Nat × State :=
  match bs.find? fun b => decide (s.arrived b.key g b.window + b.add > b.limit) with
  | some b => (some b.num, s)
  | none =>
    let old := s.mem.arrivals.filter fun e => decide (g < e.1 + 64)
    (none, { s with mem := { s.mem with arrivals := old ++ bs.map fun b => (g, b.key, b.add) } })

/-- Service bytes that cross the bridge to die `dst` count against its 512 B per tick, which scheduled bytes take first (R11,
R157, log 61). -/
def State.crossBridge (s : State) (src dst bytes : Nat) : State :=
  if src = dst then s
  else
    let old := s.mem.arrivals.filter fun e => decide (s.gst < e.1 + 64)
    { s with mem := { s.mem with arrivals := old ++ [(s.gst, 2100 + dst, bytes)] } }

/-- DETAIL of MEM_BUDGET (R157). -/
def budgetDetail (num off : Nat) : Nat := num + 2 ^ 8 * stackOf off + 2 ^ 12 * pseudoOf off

/-! ### Translation (R163, R164) -/

/-- LOG2 of a page-table register. -/
def ptLog2 (pt : Nat) : Nat := bitsOf pt 0 6
/-- The table's address. -/
def ptBase (pt : Nat) : Nat := 64 * bitsOf pt 6 41
/-- VALID of a page-table register. -/
def ptValid (pt : Nat) : Bool := bitAt pt 47
/-- The owner tag. -/
def ptTag (pt : Nat) : Nat := bitsOf pt 48 16

/-- The index of a virtual offset lies in the table, and the table in a table pool (R163, R164). -/
def ptIndexOk (pt v : Nat) : Bool :=
  decide (v / 2 ^ 14 < 2 ^ ptLog2 pt) && decide (ptLog2 pt ≤ 24) && inPool (ptBase pt) (8 * 2 ^ ptLog2 pt)

/-- The address of a virtual offset's entry. -/
def ptEntryAt (pt v : Nat) : Nat := ptBase pt + 8 * (v / 2 ^ 14)

/-- An entry's check (R164): the physical offset, or the cause of the fault. -/
def ptCheck (pt v entry : Nat) (write : Bool) : Nat ⊕ Nat :=
  let phys := bitsOf entry 14 34 * 2 ^ 14 + v % 2 ^ 14
  if ¬ bitAt entry 0 then .inr 0x0F
  else if bitsOf entry 48 16 ≠ ptTag pt then .inr 0x0C
  else if write && ¬ bitAt entry 1 then .inr 0x0F
  else if inReserved phys 1 || decide (phys ≥ installed) then .inr 0x0F
  else .inl phys


end Sys2Proof.Machine
end

