-- ==== Sys2Proof/Machine/IsaWord.lean ====
section
/-! DEFINITION. The 64-bit instruction words of spec/04 (R86, R87, the opcode table): their fields, their
decoder and their encoder. The loader checks streams with them (R87) and service code is made of them
(R97, R98). -/
namespace Sys2Proof.Machine

/-- The fourteen scalar operations, opcodes 0x01 to 0x0E in this order. -/
inductive Alu
  | add
  | sub
  | mul
  | and
  | or
  | xor
  | shl
  | shr
  | sra
  | min
  | max
  | slt
  | sltu
  | seq
  deriving DecidableEq, Repr

/-- An instruction's operation and operands (R87's table). -/
inductive Isa
  | alu (op : Alu) (rd ra rb : RegSpec) (imm : BitVec 23)
  | ldi (rd : RegSpec) (h : Bool) (imm : BitVec 32)
  | lds (rd ra : RegSpec) (imm : BitVec 23)
  | sts (rs ra : RegSpec) (imm : BitVec 23)
  | nop
  | endQ
  | loop (count : BitVec 16) (body : BitVec 12)
  | brb (cond : BitVec 3) (ra rb : RegSpec) (alen blen : BitVec 13)
  | join (ticks : BitVec 16) (sigs : BitVec 8)
  | bru (cond : BitVec 3) (ra rb : RegSpec) (offset : BitVec 27)
  | lcall (routine : BitVec 16)
  | sig (token : BitVec 5) (n : BitVec 8)
  | wait (token : BitVec 5) (n : BitVec 8)
  | bar (mask : BitVec 32)
  | mpass (emask : BitVec 4) (split bank acc : Bool) (fmtA fmtB : BitVec 4) (rA rB : RegSpec) (kt : BitVec 14)
  | vcfg (slot : BitVec 3) (line : BitVec 16)
  | vrun (emask : BitVec 4) (slot : BitVec 3) (src : BitVec 2) (rSrc rDst rRed : RegSpec) (len : BitVec 11)
      (rmode : BitVec 3)
  | reds (sd : RegSpec) (eng : BitVec 2) (which : Bool)
  | dma (ch : BitVec 4) (done : BitVec 5) (desc : BitVec 17)
  | send (route : BitVec 12) (rAddr : RegSpec) (count : BitVec 13) (pool : BitVec 4) (done : BitVec 5)
  | recv (route : BitVec 12) (rAddr : RegSpec) (count : BitVec 13) (done : BitVec 5)
  | cgive (route : BitVec 12) (pool : BitVec 4) (n : BitVec 8)
  deriving DecidableEq, Repr

/-- An instruction word: its gap and its operation (R86). -/
structure IsaWord where
  gap : BitVec 12
  op : Isa
  deriving DecidableEq, Repr

/-- The opcode of a scalar operation. -/
def Alu.code : Alu → BitVec 8
  | .add => 0x01 | .sub => 0x02 | .mul => 0x03 | .and => 0x04 | .or => 0x05 | .xor => 0x06 | .shl => 0x07
  | .shr => 0x08 | .sra => 0x09 | .min => 0x0A | .max => 0x0B | .slt => 0x0C | .sltu => 0x0D | .seq => 0x0E

/-- The scalar operation of an opcode. -/
def aluOf (op : BitVec 8) : Option Alu :=
  match op.toNat with
  | 0x01 => some .add | 0x02 => some .sub | 0x03 => some .mul | 0x04 => some .and | 0x05 => some .or
  | 0x06 => some .xor | 0x07 => some .shl | 0x08 => some .shr | 0x09 => some .sra | 0x0A => some .min
  | 0x0B => some .max | 0x0C => some .slt | 0x0D => some .sltu | 0x0E => some .seq | _ => none

/-- One bit as a bit vector. -/
def bit1 (b : Bool) : BitVec 1 := if b then 1 else 0

/-- The opcode and the operand bits [43:0] of an operation (R86, R87). -/
def Isa.bits : Isa → BitVec 8 × BitVec 44
  | .alu op rd ra rb imm => (op.code, rd ++ ra ++ rb ++ imm)
  | .ldi rd h imm => (0x10, rd ++ bit1 h ++ 0#4 ++ imm)
  | .lds rd ra imm => (0x11, rd ++ ra ++ 0#7 ++ imm)
  | .sts rs ra imm => (0x12, rs ++ ra ++ 0#7 ++ imm)
  | .nop => (0x20, 0#44)
  | .endQ => (0x21, 0#44)
  | .loop count body => (0x22, count ++ body ++ 0#16)
  | .brb cond ra rb alen blen => (0x23, cond ++ ra ++ rb ++ alen ++ blen ++ 0#1)
  | .join ticks sigs => (0x24, ticks ++ sigs ++ 0#20)
  | .bru cond ra rb offset => (0x25, cond ++ ra ++ rb ++ offset)
  | .lcall routine => (0x26, routine ++ 0#28)
  | .sig token n => (0x30, token ++ n ++ 0#31)
  | .wait token n => (0x31, token ++ n ++ 0#31)
  | .bar mask => (0x32, 0#12 ++ mask)
  | .mpass emask split bank acc fmtA fmtB rA rB kt =>
    (0x40, emask ++ bit1 split ++ bit1 bank ++ bit1 acc ++ fmtA ++ fmtB ++ rA ++ rB ++ kt ++ 0#1)
  | .vcfg slot line => (0x50, slot ++ 0#25 ++ line)
  | .vrun emask slot src rSrc rDst rRed len rmode =>
    (0x51, emask ++ slot ++ src ++ rSrc ++ rDst ++ rRed ++ len ++ rmode)
  | .reds sd eng which => (0x52, sd ++ eng ++ bit1 which ++ 0#34)
  | .dma ch done desc => (0x60, ch ++ done ++ 0#18 ++ desc)
  | .send route rAddr count pool done => (0x70, route ++ rAddr ++ count ++ pool ++ done ++ 0#3)
  | .recv route rAddr count done => (0x71, route ++ rAddr ++ count ++ done ++ 0#7)
  | .cgive route pool n => (0x72, route ++ pool ++ n ++ 0#20)

/-- The encoder: OP in [63:56], GAP in [55:44], operands in [43:0] (R86). -/
def encodeIsa (i : IsaWord) : Word := i.op.bits.1 ++ i.gap ++ i.op.bits.2

/-- The operation of an opcode and operand bits, before the check that unassigned bits are 0. -/
def isaOf (op : BitVec 8) (v : BitVec 44) : Option Isa :=
  let r1 := v.extractLsb' 37 7
  let r2 := v.extractLsb' 30 7
  match aluOf op with
  | some a => some (.alu a r1 r2 (v.extractLsb' 23 7) (v.extractLsb' 0 23))
  | none =>
    match op.toNat with
    | 0x10 => some (.ldi r1 (v.getLsbD 36) (v.extractLsb' 0 32))
    | 0x11 => some (.lds r1 r2 (v.extractLsb' 0 23))
    | 0x12 => some (.sts r1 r2 (v.extractLsb' 0 23))
    | 0x20 => some .nop
    | 0x21 => some .endQ
    | 0x22 => some (.loop (v.extractLsb' 28 16) (v.extractLsb' 16 12))
    | 0x23 => some (.brb (v.extractLsb' 41 3) (v.extractLsb' 34 7) (v.extractLsb' 27 7) (v.extractLsb' 14 13)
        (v.extractLsb' 1 13))
    | 0x24 => some (.join (v.extractLsb' 28 16) (v.extractLsb' 20 8))
    | 0x25 => some (.bru (v.extractLsb' 41 3) (v.extractLsb' 34 7) (v.extractLsb' 27 7) (v.extractLsb' 0 27))
    | 0x26 => some (.lcall (v.extractLsb' 28 16))
    | 0x30 => some (.sig (v.extractLsb' 39 5) (v.extractLsb' 31 8))
    | 0x31 => some (.wait (v.extractLsb' 39 5) (v.extractLsb' 31 8))
    | 0x32 => some (.bar (v.extractLsb' 0 32))
    | 0x40 => some (.mpass (v.extractLsb' 40 4) (v.getLsbD 39) (v.getLsbD 38) (v.getLsbD 37) (v.extractLsb' 33 4)
        (v.extractLsb' 29 4) (v.extractLsb' 22 7) (v.extractLsb' 15 7) (v.extractLsb' 1 14))
    | 0x50 => some (.vcfg (v.extractLsb' 41 3) (v.extractLsb' 0 16))
    | 0x51 => some (.vrun (v.extractLsb' 40 4) (v.extractLsb' 37 3) (v.extractLsb' 35 2) (v.extractLsb' 28 7)
        (v.extractLsb' 21 7) (v.extractLsb' 14 7) (v.extractLsb' 3 11) (v.extractLsb' 0 3))
    | 0x52 => some (.reds r1 (v.extractLsb' 35 2) (v.getLsbD 34))
    | 0x60 => some (.dma (v.extractLsb' 40 4) (v.extractLsb' 35 5) (v.extractLsb' 0 17))
    | 0x70 => some (.send (v.extractLsb' 32 12) (v.extractLsb' 25 7) (v.extractLsb' 12 13) (v.extractLsb' 8 4)
        (v.extractLsb' 3 5))
    | 0x71 => some (.recv (v.extractLsb' 32 12) (v.extractLsb' 25 7) (v.extractLsb' 12 13) (v.extractLsb' 7 5))
    | 0x72 => some (.cgive (v.extractLsb' 32 12) (v.extractLsb' 28 4) (v.extractLsb' 20 8))
    | _ => none

/-- The decoder: an opcode of the table, and no unassigned operand bit set (R86, R87). -/
def decodeIsa (w : Word) : Option IsaWord :=
  match isaOf (w.extractLsb' 56 8) (w.extractLsb' 0 44) with
  | some op =>
    if op.bits.2 = w.extractLsb' 0 44 then some { gap := w.extractLsb' 44 12, op := op } else none
  | none => none

/-- The fields whose ranges the table states hold values in them (R86, R95). -/
def Isa.inRange : Isa → Bool
  | .alu _ _ _ _ _ => true
  | .ldi _ _ _ => true
  | .lds _ _ _ => true
  | .sts _ _ _ => true
  | .nop => true
  | .endQ => true
  | .loop _ _ => true
  | .brb _ _ _ _ _ => true
  | .join _ _ => true
  | .bru _ _ _ _ => true
  | .lcall _ => true
  | .sig _ n => n != 0
  | .wait _ n => n != 0
  | .bar _ => true
  | .mpass _ _ _ _ _ _ _ _ _ => true
  | .vcfg _ _ => true
  | .vrun _ _ src _ _ _ _ rmode => src != 3 && decide (rmode.toNat < 6)
  | .reds _ _ _ => true
  | .dma _ _ _ => true
  | .send _ _ count _ _ => count != 0
  | .recv _ _ count _ => count != 0
  | .cgive _ pool _ => pool != 15

/-- The queues that may hold an operation in plan-class code (0 S, 1 M, 2 V, 3 D, 4 X); none for the
service-only ones (R87). -/
def Isa.queues : Isa → List Nat
  | .alu _ _ _ _ _ => [0]
  | .ldi _ _ _ => [0]
  | .lds _ _ _ => [0]
  | .sts _ _ _ => [0]
  | .nop => [0, 1, 2, 3, 4]
  | .endQ => [0, 1, 2, 3, 4]
  | .loop _ _ => [0, 1, 2, 3, 4]
  | .brb _ _ _ _ _ => [0, 1, 2, 3, 4]
  | .join _ _ => [0, 1, 2, 3, 4]
  | .bru _ _ _ _ => []
  | .lcall _ => []
  | .sig _ _ => [0, 1, 2, 3, 4]
  | .wait _ _ => [0, 1, 2, 3, 4]
  | .bar _ => [0, 1, 2, 3, 4]
  | .mpass _ _ _ _ _ _ _ _ _ => [1]
  | .vcfg _ _ => [2]
  | .vrun _ _ _ _ _ _ _ _ => [2]
  | .reds _ _ _ => [2]
  | .dma _ _ _ => [3]
  | .send _ _ _ _ _ => [4]
  | .recv _ _ _ _ => [4]
  | .cgive _ _ _ => [4]

/-- The register specifiers an operation names, and the one it writes, if any (R84). -/
def Isa.regs : Isa → List RegSpec × Option RegSpec
  | .alu _ rd ra rb _ => ([rd, ra, rb], some rd)
  | .ldi rd _ _ => ([rd], some rd)
  | .lds rd ra _ => ([rd, ra], some rd)
  | .sts rs ra _ => ([rs, ra], none)
  | .nop => ([], none)
  | .endQ => ([], none)
  | .loop _ _ => ([], none)
  | .brb _ ra rb _ _ => ([ra, rb], none)
  | .join _ _ => ([], none)
  | .bru _ ra rb _ => ([ra, rb], none)
  | .lcall _ => ([], none)
  | .sig _ _ => ([], none)
  | .wait _ _ => ([], none)
  | .bar _ => ([], none)
  | .mpass _ _ _ _ _ _ rA rB _ => ([rA, rB], none)
  | .vcfg _ _ => ([], none)
  | .vrun _ _ _ rSrc rDst rRed _ _ => ([rSrc, rDst, rRed], none)
  | .reds sd _ _ => ([sd], some sd)
  | .dma _ _ _ => ([], none)
  | .send _ rAddr _ _ _ => ([rAddr], none)
  | .recv _ rAddr _ _ => ([rAddr], none)
  | .cgive _ _ _ => ([], none)

/-- A specifier names a register: s0 to s31, zero, or p0 to p63 (spec/04). -/
def regLegal (r : RegSpec) : Bool := decide (r.toNat ≤ 0x20) || decide (r.toNat ≥ 0x40)

/-- No reserved specifier, and no p register or zero as a destination (R84). -/
def Isa.regsLegal (i : Isa) : Bool :=
  i.regs.1.all regLegal && match i.regs.2 with
  | some d => decide (d.toNat < 0x20)
  | none => true

end Sys2Proof.Machine
end

