-- ==== Sys2Proof/Machine/Flags.lean ====
section
/-! DEFINITION. The numeric flags (R150, R151): their bits and their places in CORE_NUM_FLAGS. -/
namespace Sys2Proof.Machine

/-- Invalid. -/
def fNV : Nat := 1
/-- Divide by zero. -/
def fDZ : Nat := 2
/-- Overflow. -/
def fOF : Nat := 4
/-- Underflow. -/
def fUF : Nat := 8
/-- Inexact. -/
def fNX : Nat := 16
/-- Saturated. -/
def fSAT : Nat := 32

/-- CORE_NUM_FLAGS with the flags of one source of an engine raised: ARR at 16e, CHN at 16e + 8 (R151). -/
def raiseFlags (flags eng : Nat) (chain : Bool) (bits : Nat) : Nat :=
  flags ||| (bits <<< (16 * eng + if chain then 8 else 0))

end Sys2Proof.Machine
end

