-- ==== Sys2Proof/Machine/NumFmt.lean ====
section
/-! DEFINITION. Number formats and arithmetic (spec/07): layouts, exact values, rounding, sums, output
conversion. Flags are bits 0 NV, 1 DZ, 2 OF, 3 UF, 4 NX, 5 SAT (R151). -/
namespace Sys2Proof.Machine

/-- The value of an encoding: NaN, an infinity, or the exact value `± mant × 2 ^ exp`. -/
inductive Val
  | nan
  | inf (neg : Bool)
  | fin (neg : Bool) (mant : Nat) (exp : Int)
  deriving DecidableEq, Repr


/-- A floating-point layout (R134): width, mantissa bits, bias, the encoding of the largest finite value,
whether infinities exist, and the canonical NaN, if the format has one (R136). -/
structure FloatFmt where
  width : Nat
  m : Nat
  bias : Int
  largest : Nat
  hasInf : Bool
  nan : Option Nat
  deriving DecidableEq, Repr

def fmtE2M1 : FloatFmt := ⟨4, 1, 1, 0x7, false, none⟩
def fmtE2M3 : FloatFmt := ⟨6, 3, 1, 0x1F, false, none⟩
def fmtE3M2 : FloatFmt := ⟨6, 2, 3, 0x1F, false, none⟩
def fmtE4M3 : FloatFmt := ⟨8, 3, 7, 0x7E, false, some 0x7F⟩
def fmtE5M2 : FloatFmt := ⟨8, 2, 15, 0x7B, true, some 0x7E⟩
def fmtBF16 : FloatFmt := ⟨16, 7, 127, 0x7F7F, true, some 0x7FC0⟩
def fmtFP16 : FloatFmt := ⟨16, 10, 15, 0x7BFF, true, some 0x7E00⟩
def fmtFP32 : FloatFmt := ⟨32, 23, 127, 0x7F7FFFFF, true, some 0x7FC00000⟩

/-- The exponent of the format's least subnormal. -/
def FloatFmt.emin (f : FloatFmt) : Int := 1 - f.bias - f.m

/-- The value of an encoding (R134). -/
def FloatFmt.decode (f : FloatFmt) (bits : Nat) : Val :=
  let b := bits % 2 ^ f.width
  let neg := b.testBit (f.width - 1)
  let mag := b % 2 ^ (f.width - 1)
  if mag > f.largest then
    if f.hasInf && decide (mag = f.largest + 1) then .inf neg
    else if f.nan.isSome then .nan
    else .fin neg 0 0
  else
    let e := mag / 2 ^ f.m
    let m := mag % 2 ^ f.m
    if e = 0 then .fin neg m f.emin else .fin neg (2 ^ f.m + m) (f.emin + (e - 1))

/-- Round-to-nearest-even, toward zero, or stochastic with sixteen random bits (R143, R145). -/
inductive Round
  | nearest
  | zero
  | stochastic (rnd : Nat)
  deriving DecidableEq, Repr

/-- A number divided by a power of two under a rounding mode, and whether anything was lost. -/
def roundShift (mode : Round) (m sh : Nat) : Nat × Bool :=
  let q := m >>> sh
  let r := m % 2 ^ sh
  let up :=
    match mode with
    | .nearest => decide (2 * r > 2 ^ sh) || (decide (2 * r = 2 ^ sh) && decide (q % 2 = 1))
    | .zero => false
    | .stochastic rnd => decide (rnd % 65536 < (r * 65536) >>> sh)
  (if up then q + 1 else q, decide (r ≠ 0))

/-- A magnitude `mant × 2 ^ exp` rounded into a format with unbounded exponent range: its encoding without
the sign (above `largest` on overflow), whether it is inexact, and whether it is tiny (R137). -/
def FloatFmt.roundMag (f : FloatFmt) (mode : Round) (mant : Nat) (exp : Int) : Nat × Bool × Bool :=
  if mant = 0 then (0, false, false)
  else
    let top : Int := (Nat.log2 mant : Int) + exp
    let e : Int := max (top - f.m) f.emin
    let (q, inexact) :=
      if exp ≥ e then (mant * 2 ^ (exp - e).toNat, false) else roundShift mode mant (e - exp).toNat
    ((e - f.emin).toNat * 2 ^ f.m + q, inexact, decide (top < 1 - f.bias))

/-- The sign bit of a format. -/
def FloatFmt.signBit (f : FloatFmt) (neg : Bool) : Nat := if neg then 2 ^ (f.width - 1) else 0

/-- The FP32 bits of an infinity. -/
def infBits (neg : Bool) : Nat := 0x7F800000 + fmtFP32.signBit neg

/-- The canonical NaN of FP32 (R136). -/
def nanBits : Nat := 0x7FC00000

/-- An exact value rounded once to FP32 by round-to-nearest-even, with its flags (R137, R142). -/
def toFP32 (v : Val) : Nat × Nat :=
  match v with
  | .nan => (nanBits, 0)
  | .inf neg => (infBits neg, 0)
  | .fin neg m e =>
    let (enc, inexact, tiny) := fmtFP32.roundMag .nearest m e
    if enc > fmtFP32.largest then (infBits neg, fOF + fNX)
    else (enc + fmtFP32.signBit neg, (if inexact then fNX else 0) + (if inexact && tiny then fUF else 0))

/-- The value of FP32 bits. -/
def fp32 (bits : Nat) : Val := fmtFP32.decode bits

/-- Two exact finite values added; an exact zero sum has the sign of round-to-nearest-even (R137). -/
def addFin (n1 : Bool) (m1 : Nat) (e1 : Int) (n2 : Bool) (m2 : Nat) (e2 : Int) : Val :=
  let e := min e1 e2
  let a : Int := (m1 * 2 ^ (e1 - e).toNat : Nat)
  let b : Int := (m2 * 2 ^ (e2 - e).toNat : Nat)
  let t := (if n1 then -a else a) + (if n2 then -b else b)
  if t = 0 then .fin (n1 && n2) 0 0 else .fin (decide (t < 0)) t.natAbs e

/-- The exact sum of two values; infinities of unlike sign raise NV. -/
def addVal (a b : Val) : Val × Nat :=
  match a, b with
  | .nan, _ => (.nan, 0)
  | _, .nan => (.nan, 0)
  | .inf n1, .inf n2 => if n1 = n2 then (.inf n1, 0) else (.nan, fNV)
  | .inf n, .fin _ _ _ => (.inf n, 0)
  | .fin _ _ _, .inf n => (.inf n, 0)
  | .fin n1 m1 e1, .fin n2 m2 e2 => (addFin n1 m1 e1 n2 m2 e2, 0)

/-- The exact product of two values; zero times infinity raises NV. -/
def mulVal (a b : Val) : Val × Nat :=
  match a, b with
  | .nan, _ => (.nan, 0)
  | _, .nan => (.nan, 0)
  | .inf n1, .inf n2 => (.inf (n1 != n2), 0)
  | .inf n1, .fin n2 m _ => if m = 0 then (.nan, fNV) else (.inf (n1 != n2), 0)
  | .fin n1 m _, .inf n2 => if m = 0 then (.nan, fNV) else (.inf (n1 != n2), 0)
  | .fin n1 m1 e1, .fin n2 m2 e2 => (.fin (n1 != n2) (m1 * m2) (e1 + e2), 0)

/-- The value with its sign turned. -/
def negVal : Val → Val
  | .nan => .nan
  | .inf n => .inf (!n)
  | .fin n m e => .fin (!n) m e

/-- FP32 addition (R139, R142). -/
def fadd (a b : Nat) : Nat × Nat :=
  let (v, f) := addVal (fp32 a) (fp32 b)
  let (r, g) := toFP32 v
  (r, f ||| g)

/-- FP32 subtraction. -/
def fsub (a b : Nat) : Nat × Nat :=
  let (v, f) := addVal (fp32 a) (negVal (fp32 b))
  let (r, g) := toFP32 v
  (r, f ||| g)

/-- FP32 multiplication. -/
def fmul (a b : Nat) : Nat × Nat :=
  let (v, f) := mulVal (fp32 a) (fp32 b)
  let (r, g) := toFP32 v
  (r, f ||| g)

/-- The fused multiply-add of R141: `bank + a × b`, rounded once; NV for 0 × ∞ whatever the bank holds. -/
def fma (bank : Nat) (a b : Val) : Nat × Nat :=
  let (p, f) := mulVal a b
  let (v, g) := addVal (fp32 bank) p
  let (r, h) := toFP32 v
  (r, f ||| g ||| h)

/-- A signed integer's FP32 value, rounded once (R143). -/
def intToFP32 (i : Int) : Nat × Nat := toFP32 (.fin (decide (i < 0)) i.natAbs 0)

/-- Whether FP32 bits are a NaN. -/
def isNaN32 (b : Nat) : Bool := decide (fp32 b = .nan)

/-- A key that orders FP32 values with −0.0 below +0.0; NaN takes the key given (R129). -/
def orderKey (nanKey : Int) (b : Nat) : Int :=
  if isNaN32 b then nanKey
  else
    let mag : Nat := b % 2 ^ 31
    if b.testBit 31 then -(mag : Int) - 1 else (mag : Int)

/-- a < b as FP32, false when either is NaN (R92's FLT); −0.0 equals +0.0. -/
def fless (a b : Nat) : Bool :=
  if isNaN32 a || isNaN32 b then false
  else if a % 2 ^ 31 = 0 ∧ b % 2 ^ 31 = 0 then false
  else decide (orderKey 0 a < orderKey 0 b)

/-- a ≥ b as FP32, false when either is NaN (R92's FGE). -/
def fgeq (a b : Nat) : Bool := if isNaN32 a || isNaN32 b then false else !(fless a b)

/-! ### Element formats by the bit indices of IDENT_FORMATS (R120, R134, R135) -/

/-- The floating-point layout of a format code's elements; none for the integer formats. -/
def floatOf (code : Nat) : Option FloatFmt :=
  match code with
  | 0 => some fmtE2M1
  | 1 => some fmtE2M1
  | 3 => some fmtE4M3
  | 4 => some fmtE5M2
  | 5 => some fmtE2M3
  | 6 => some fmtE3M2
  | 7 => some fmtE4M3
  | 8 => some fmtE2M3
  | 11 => some fmtBF16
  | 12 => some fmtFP16
  | 13 => some fmtFP32
  | _ => none

/-- The width in bits of a format code's integer elements. -/
def intWidth (code : Nat) : Nat := if code = 2 then 4 else if code = 14 then 32 else 8

/-- The format is an MX format (R135). -/
def isMX (code : Nat) : Bool := code == 1 || code == 7 || code == 8 || code == 9

/-- The value of an element (R134, R135); an MXINT8 element counts in units of 2 ^ -6. -/
def elemVal (code bits : Nat) : Val :=
  match floatOf code with
  | some f => f.decode bits
  | none =>
    let i := signedOf bits (intWidth code)
    .fin (decide (i < 0)) i.natAbs (if code = 9 then -6 else 0)

/-- Intake: an element as FP32, with flags (R124, R136). An FP32 element passes unchanged. -/
def intake (code bits : Nat) : Nat × Nat :=
  if code = 13 then (bits % 2 ^ 32, 0) else toFP32 (elemVal code bits)

/-! ### Output conversion (R143 to R146) -/

/-- The most and the least of an integer format. -/
def intMax (w : Nat) : Nat := 2 ^ (w - 1) - 1

/-- A finite magnitude to an integer of `w` bits whose unit is 2 ^ unit: its field and its flags; the
flags of the limit are `ovf` (R144). -/
def toInt (w : Nat) (unit : Int) (mode : Round) (ovf : Nat) (neg : Bool) (m : Nat) (e : Int) : Nat × Nat :=
  let (q, inexact) :=
    if e ≥ unit then (m * 2 ^ (e - unit).toNat, false) else roundShift mode m (unit - e).toNat
  let lim := if neg then 2 ^ (w - 1) else intMax w
  if q > lim then (fieldOfInt (if neg then -(lim : Int) else lim) w, ovf)
  else (fieldOfInt (if neg then -(q : Int) else q) w, if inexact then fNX else 0)

/-- A finite magnitude to a floating-point format: its encoding and its flags (R144). -/
def toFloat (f : FloatFmt) (mode : Round) (sat : Bool) (neg : Bool) (m : Nat) (e : Int) : Nat × Nat :=
  let (enc, inexact, tiny) := f.roundMag mode m e
  let s := f.signBit neg
  if enc > f.largest then
    if sat || decide (mode = .zero) || (f.nan.isNone) then (f.largest + s, fOF + fNX + fSAT)
    else if f.hasInf then (f.largest + 1 + s, fOF + fNX)
    else (f.nan.getD 0, fOF + fNX)
  else (enc + s, (if inexact then fNX else 0) + (if inexact && tiny then fUF else 0))

/-- Output conversion of one element that is not of an MX format (R144). -/
def convertOut (code : Nat) (mode : Round) (sat : Bool) (x : Nat) : Nat × Nat :=
  match floatOf code, fp32 x with
  | some f, .nan => match f.nan with
    | some n => (n, 0)
    | none => (0, fNV)
  | some f, .inf neg =>
    let s := f.signBit neg
    if sat || f.nan.isNone then (f.largest + s, fSAT)
    else if f.hasInf then (f.largest + 1 + s, 0)
    else (f.nan.getD 0, fNV)
  | some f, .fin neg m e => toFloat f mode sat neg m e
  | none, .nan => (0, fNV)
  | none, .inf neg =>
    let w := intWidth code
    (if neg then 2 ^ (w - 1) else intMax w, fSAT)
  | none, .fin neg m e => toInt (intWidth code) 0 mode (fNX + fSAT) neg m e

/-- The exponent of the largest element of an MX format (R146). -/
def mxEmax (code : Nat) : Int := if code = 7 then 8 else if code = 9 then 0 else 2

/-- floor(log2) of a nonzero FP32 magnitude. -/
def floorLog (m : Nat) (e : Int) : Int := (Nat.log2 m : Int) + e

/-- An MX element: `x / 2 ^ (X - 127)` rounded and clamped (R146). -/
def mxElement (code : Nat) (mode : Round) (scale : Nat) (x : Nat) : Nat × Nat :=
  match fp32 x with
  | .fin neg m e =>
    let e' := e - ((scale : Int) - 127)
    if code = 9 then toInt 8 (-6) mode fNX neg m e'
    else
      match floatOf code with
      | some f =>
        let (enc, inexact, tiny) := f.roundMag mode m e'
        let s := f.signBit neg
        if enc > f.largest then (f.largest + s, fNX)
        else (enc + s, (if inexact then fNX else 0) + (if inexact && tiny then fUF else 0))
      | none => (0, 0)
  | _ => (0, 0)

/-- The scale byte of a row written in an MX format, whether its elements are written as zeros, and the
flags of the scale (R146). -/
def mxScale (code : Nat) (row : List Nat) : Nat × Bool × Nat :=
  let vals := row.map fp32
  if vals.any (fun v => match v with | .fin _ _ _ => false | _ => true) then
    (0xFF, true, if vals.any (fun v => match v with | .inf _ => true | _ => false) then fNV else 0)
  else
    let logs := vals.filterMap fun v =>
      match v with
      | .fin _ m e => if m = 0 then none else some (floorLog m e)
      | _ => none
    match logs with
    | [] => (127, false, 0)
    | l :: ls =>
      let t := ls.foldl max l
      ((max 0 (min 254 (t - mxEmax code + 127))).toNat, false, 0)

end Sys2Proof.Machine
end

