-- ==== Sys2Proof/Machine/Spad.lean ====
section
/-! DEFINITION. A core's scratchpad: words with check bits (R170), banks (R168) and the one access that a
bank performs in a tick (R169). -/
namespace Sys2Proof.Machine

/-- Bytes `addr .. addr + n - 1` of a core's scratchpad; a word with a double-bit error reads as zeros
(R170). -/
def spadBytes (k : Core) (addr n : Nat) : List Byte :=
  (List.range n).map fun i =>
    if k.badWords.contains ((addr + i) / 8) then 0#8 else Assoc.get (0 : Byte) k.spad (addr + i)

/-- Some word of the bytes has a double-bit error. -/
def spadBad (k : Core) (addr n : Nat) : Bool :=
  decide (n > 0) && k.badWords.any fun w => decide (addr / 8 ≤ w) && decide (w ≤ (addr + n - 1) / 8)

/-- A write covers all eight bytes of a word. -/
def coversWord (addr n w : Nat) : Bool := decide (addr ≤ 8 * w) && decide (8 * w + 8 ≤ addr + n)

/-- Bytes written to a core's scratchpad: a word with a double-bit error takes only a write of all its
eight bytes, which makes it good (R170). -/
def spadWrite (k : Core) (addr : Nat) (bytes : List Byte) : Core :=
  let n := bytes.length
  let spad := if k.badWords.isEmpty then Assoc.putRange (0 : Byte) k.spad addr bytes
    else ((List.range n).zip bytes).foldl (fun m e =>
      let w := (addr + e.1) / 8
      if k.badWords.contains w && !coversWord addr n w then m
      else Assoc.put (0 : Byte) m (addr + e.1) e.2) k.spad
  { k with spad := spad, badWords := k.badWords.filter fun w => !coversWord addr n w }

/-- A write meets a word with a double-bit error that it does not cover (R170). -/
def spadWriteBad (k : Core) (addr n : Nat) : Bool :=
  decide (n > 0) && k.badWords.any fun w =>
    decide (addr / 8 ≤ w) && decide (w ≤ (addr + n - 1) / 8) && !coversWord addr n w

/-- A scratchpad line as a number. -/
def spadLine (k : Core) (line : Nat) : Nat := natOfBytes (spadBytes k (64 * line) 64)

/-- The bank of a line (R168). -/
def bankOf (line : Nat) : Nat := (line % 16) ^^^ (line / 16 % 16)

/-- The first access comes before the second in R169's order. -/
def BankAccess.before (a b : BankAccess) : Bool :=
  decide (a.cls < b.cls) || (decide (a.cls = b.cls) &&
    (decide (a.issued < b.issued) || (decide (a.issued = b.issued) &&
      (decide (a.unit < b.unit) || (decide (a.unit = b.unit) &&
        (decide (a.kind < b.kind) || (decide (a.kind = b.kind) && decide (a.line < b.line))))))))

/-- Two accesses are one access: the same line within one VRUN (R127). -/
def BankAccess.same (a b : BankAccess) : Bool :=
  a.share.isSome && decide (a.share = b.share) && decide (a.line = b.line)

/-- The earliest access that is the same access as `a`. -/
def leadAccess (all : List BankAccess) (a : BankAccess) : BankAccess :=
  all.foldl (fun m b => if b.same a && b.before m then b else m) a

/-- Among a tick's accesses, `a` is the one its bank performs: none to its bank comes before it, other than
accesses that are the same access, and none of `earlier`, those that stand before it in the list, equals it (R169). -/
def granted (all earlier : List BankAccess) (a : BankAccess) : Bool :=
  let l := leadAccess all a
  (all.all fun b => decide (bankOf b.line ≠ bankOf a.line) || a.same b || !(b.before l)) &&
    earlier.all fun b => a.same b || decide (a ≠ b)

/-- The accesses of a list that its banks refuse, after those of `earlier`. -/
def refusedOf (all : List BankAccess) : List BankAccess → List BankAccess → List BankAccess
  | _, [] => []
  | earlier, a :: rest => (if granted all earlier a then [] else [a]) ++ refusedOf all (a :: earlier) rest

/-- The refused accesses of a tick, one for each bank in conflict: the first that the bank refuses. -/
def refusedBanks (all : List BankAccess) : List BankAccess :=
  let refused := refusedOf all [] all
  (List.range 16).filterMap fun b =>
    let here := refused.filter fun a => decide (bankOf a.line = b)
    here.find? fun a => here.all fun c => !(c.before a)

/-- How many accesses a tick makes, with an access shared within one VRUN counted once (R127). -/
def accessCount : List BankAccess → Nat
  | [] => 0
  | a :: rest => (if rest.any (a.same ·) then 0 else 1) + accessCount rest

end Sys2Proof.Machine
end

