-- ==== Sys2Proof/Machine/MatrixUnit.lean ====
section
/-! DEFINITION. The matrix array's arithmetic and feeds (spec/05 R102 to R114, spec/07 R138 to R141): what a
pass reads in each of its ticks and what each cell adds. -/
namespace Sys2Proof.Machine

/-! ### Format pairs (R102) -/

/-- Four times the MAC rate of a format alone. -/
def rate4 (fmt : Nat) : Nat :=
  if fmt ≤ 2 then 16 else if fmt ≤ 10 then 8 else if fmt ≤ 12 then 4 else 1

/-- The storage width of a format in panel form (R104). -/
def storeWidth (fmt : Nat) : Nat :=
  if fmt ≤ 2 then 4 else if fmt ≤ 10 then 8 else if fmt ≤ 12 then 16 else 32

/-- The group of a format pair; none for a pair that is not legal (R102). -/
def pairGroup (a b : Nat) : Option Nat :=
  let within (l : List Nat) := l.contains a && l.contains b
  if within [0, 3, 4, 5, 6] then some 1
  else if within [1, 7, 8] then some 2
  else if within [9] then some 3
  else if within [2, 10] then some 4
  else if within [11, 12] then some 5
  else if ([11, 12].contains a && [3, 4, 5, 6].contains b) || ([3, 4, 5, 6].contains a && [11, 12].contains b) then some 6
  else if within [13] then some 7
  else none

/-- Four times the MAC rate of a pair: that of its slower member (R102). -/
def pairRate4 (a b : Nat) : Nat := Nat.min (rate4 a) (rate4 b)

/-- The bank format of a pair: INT32 for group 4, else FP32. -/
def pairInt (a b : Nat) : Bool := decide (pairGroup a b = some 4)

/-- The charge of a pass in each of its input ticks, in mPU (R74). -/
def passCharge (r4 : Nat) (split : Bool) : Nat :=
  let full := if r4 = 16 then 760 else if r4 = 8 then 600 else if r4 = 4 then 560 else 480
  if split then 4 * (full / 4) else full

/-! ### Operand layout (R104 to R106) -/

/-- The rows of an operand: 32, or 16 in each quadrant. -/
def opRows (split : Bool) : Nat := if split then 16 else 32

/-- The K elements of a pass (R94). -/
def passK (kt r4 : Nat) : Nat := kt * r4 / 4

/-- The element lines of a full MX group (R105). -/
def mxGroupLines (nr w : Nat) : Nat := nr * w / 16

/-- The lines of one operand block of `k` K elements (R104, R105). -/
def blockLines (fmt : Nat) (split : Bool) (k : Nat) : Nat :=
  let nr := opRows split
  let w := storeWidth fmt
  if isMX fmt then
    (k / 32) * (1 + mxGroupLines nr w) + (if k % 32 = 0 then 0 else 1 + ceilDiv ((k % 32) * nr * w) 512)
  else ceilDiv (k * nr * w) 512

/-- The lines of one engine's operand: one block, or four in the split shape (R106). -/
def engineLines (fmt : Nat) (split : Bool) (k : Nat) : Nat :=
  if split then 4 * blockLines fmt split k else blockLines fmt split k

/-- The element lines that a stream reads in relative tick `u`: line m at floor(64 m / bpt) (R108). -/
def streamLines (nr w r4 total u : Nat) : List Nat :=
  let b4 := nr * r4 * w / 8
  let first := ceilDiv (u * b4) 256
  let stop := Nat.min total (ceilDiv ((u + 1) * b4) 256)
  (List.range (stop - first)).map (first + ·)

/-- The lines of one operand block read in relative tick `u`, each with its kind: 0 a scale line, 1 an
element line (R108). -/
def blockReads (fmt : Nat) (split : Bool) (r4 k u : Nat) : List (Nat × Nat) :=
  let nr := opRows split
  let w := storeWidth fmt
  if isMX fmt then
    let per := 128 / r4
    let g := u / per
    let v := u % per
    let left := k - 32 * g
    let base := g * (1 + mxGroupLines nr w)
    let total := if left ≥ 32 then mxGroupLines nr w else ceilDiv (left * nr * w) 512
    (if v = 0 ∧ left > 0 then [(0, base)] else []) ++
      (streamLines nr w r4 total v).map fun m => (1, base + 1 + m)
  else (streamLines nr w r4 (blockLines fmt split k) u).map fun m => (1, m)

/-- The lines of one engine's operand read in relative tick `u`: with kind and place from the engine's base. -/
def operandReads (fmt : Nat) (split : Bool) (r4 k u : Nat) : List (Nat × Nat) :=
  if split then
    (List.range 4).flatMap fun q =>
      (blockReads fmt split r4 k u).map fun e => (e.1, q * blockLines fmt split k + e.2)
  else blockReads fmt split r4 k u

/-- The bits of element (i, k) of the block that starts at line `base` of the data read (R104, R105). -/
def elementBits (fmt : Nat) (split : Bool) (r4 : Nat) (data : Assoc Nat) (base i k : Nat) : Nat :=
  let nr := opRows split
  let w := storeWidth fmt
  let q := if r4 ≥ 4 then r4 / 4 else 1
  let kk := if isMX fmt then k % 32 else k
  let base := if isMX fmt then base + (k / 32) * (1 + mxGroupLines nr w) + 1 else base
  let e := (kk / q) * nr * q + i * q + kk % q
  bitsOf (Assoc.get 0 data (base + e * w / 512)) (e * w % 512) w

/-- The E8M0 scale of row i for the block of K elements that holds k (R105). -/
def scaleByte (fmt : Nat) (split : Bool) (data : Assoc Nat) (base i k : Nat) : Nat :=
  bitsOf (Assoc.get 0 data (base + (k / 32) * (1 + mxGroupLines (opRows split) (storeWidth fmt)))) (8 * i) 8

/-! ### Cells (R138 to R141) -/

/-- A block sum as it is formed: the exact sum in units of 2 ^ -40, and what was met (R138, R139). -/
structure BlockSum where
  sum : Int := 0
  nan : Bool := false
  pos : Bool := false
  neg : Bool := false
  nv : Bool := false

/-- One product goes into a block sum (R138, R139). -/
def BlockSum.addProduct (b : BlockSum) (x y : Val) : BlockSum :=
  match x, y with
  | .nan, _ => { b with nan := true }
  | _, .nan => { b with nan := true }
  | _, _ =>
    match mulVal x y with
    | (.nan, _) => { b with nan := true, nv := true }
    | (.inf n, _) => if n then { b with neg := true } else { b with pos := true }
    | (.fin n m e, _) =>
      let v : Int := (m * 2 ^ (e + 40).toNat : Nat)
      { b with sum := b.sum + (if n then -v else v) }

/-- The block sum S and its flags (R139): `scale` is Xa + Xb - 254, or none where a scale is 0xFF. -/
def BlockSum.value (b : BlockSum) (scale : Option Int) : Val × Nat :=
  let nv := b.nv || (b.pos && b.neg)
  let f := if nv then fNV else 0
  match scale with
  | none => (.nan, f)
  | some x =>
    if b.nan || nv then (.nan, f)
    else if b.pos then (.inf false, f)
    else if b.neg then (.inf true, f)
    else if b.sum = 0 then (.fin false 0 0, f)
    else (.fin (decide (b.sum < 0)) b.sum.natAbs (x - 40), f)

/-- The bank plus a block sum, rounded once (R139). -/
def bankAdd (bank : Nat) (s : Val) : Nat × Nat :=
  let (v, f) := addVal (fp32 bank) s
  let (r, g) := toFP32 v
  (r, f ||| g)

/-- The INT32 bank plus a block sum, clamped (R140). -/
def bankAddInt (bank : Nat) (s : Int) : Nat × Nat :=
  let t := signedOf bank 32 + s
  if t > 2 ^ 31 - 1 then (2 ^ 31 - 1, fSAT)
  else if t < -(2 ^ 31) then (2 ^ 31, fSAT)
  else (fieldOfInt t 32, 0)

/-- The quadrant of a cell and its local row and column (R106). -/
def cellPlace (split : Bool) (i j : Nat) : Nat × Nat × Nat :=
  if split then (2 * (i / 16) + j / 16, i % 16, j % 16) else (0, i, j)

/-- The value of element k of a cell's A row and of its B column. -/
def cellPair (p : Pass) (i j k : Nat) : Val × Val :=
  let r4 := pairRate4 p.fmtA p.fmtB
  let kAll := passK p.kt r4
  let (q, a, b) := cellPlace p.split i j
  (elemVal p.fmtA (elementBits p.fmtA p.split r4 p.dataA (q * blockLines p.fmtA p.split kAll) a k),
   elemVal p.fmtB (elementBits p.fmtB p.split r4 p.dataB (q * blockLines p.fmtB p.split kAll) b k))

/-- The scale exponent of the block that holds k, for an MX pair (R139); 0 for group 1. -/
def cellScale (p : Pass) (i j k : Nat) : Option Int :=
  if isMX p.fmtA then
    let kAll := passK p.kt (pairRate4 p.fmtA p.fmtB)
    let (q, a, b) := cellPlace p.split i j
    let xa := scaleByte p.fmtA p.split p.dataA (q * blockLines p.fmtA p.split kAll) a k
    let xb := scaleByte p.fmtB p.split p.dataB (q * blockLines p.fmtB p.split kAll) b k
    if xa = 0xFF || xb = 0xFF then none else some ((xa : Int) + xb - 254)
  else some 0

/-- A cell after the K elements `k0 .. k1 - 1`, which are one block in groups 1 to 4 and one element in
groups 5 to 7: its sum and the flags raised (R139 to R141). -/
def cellStep (p : Pass) (i j k0 k1 bank : Nat) : Nat × Nat :=
  match pairGroup p.fmtA p.fmtB with
  | some g =>
    if g ≥ 5 then
      let (a, b) := cellPair p i j k0
      fma bank a b
    else
      let blk := (List.range (k1 - k0)).foldl (fun b n =>
        let (x, y) := cellPair p i j (k0 + n)
        b.addProduct x y) ({} : BlockSum)
      if g = 4 then bankAddInt bank (blk.sum / 2 ^ 40)
      else
        let (s, f) := blk.value (cellScale p i j k0)
        let (r, h) := bankAdd bank s
        (r, f ||| h)
  | none => (bank, 0)

/-- The K elements that complete a block or an element at the end of relative tick `u` (R103, R109): in
groups 1 to 4 the block whose last element enters then, in groups 5 to 7 the element whose last part
enters then. -/
def stepsAt (p : Pass) (u : Nat) : List (Nat × Nat) :=
  let r4 := pairRate4 p.fmtA p.fmtB
  let kAll := passK p.kt r4
  if r4 ≤ 4 then
    let n := (u + 1) * r4 / 4
    if n * 4 = (u + 1) * r4 ∧ 0 < n ∧ n ≤ kAll then [(n - 1, n)] else []
  else
    let n := (u + 1) * r4 / 4
    if n % 32 = 0 then [(n - 32, n)]
    else if n = kAll then [(n - n % 32, n)] else []

/-- A cell's sum, by row and column. -/
def cellAt (cells : List Nat) (i j : Nat) : Nat := cells.getD (32 * i + j) 0

/-- Every cell after the K elements `k0 .. k1 - 1`; a masked row adds nothing (R114). The second list holds
each cell's flags. -/
def cellsStep (p : Pass) (k0 k1 : Nat) : List Nat × List Nat :=
  let rs := (List.range 1024).map fun n =>
    let i := n / 32
    let j := n % 32
    if p.mask.testBit i then (cellAt p.cells i j, 0) else cellStep p i j k0 k1 (cellAt p.cells i j)
  (rs.map (·.1), rs.map (·.2))

/-- The effects of a step's flags: cell (i, j) meets its last element i + j ticks later (R109, R150); in
the split shape i and j count within the quadrant. -/
def flagEffects (p : Pass) (eng t : Nat) (fs : List Nat) : List (Nat × Effect) :=
  (List.range 1024).filterMap fun n =>
    let f := fs.getD n 0
    let (_, i, j) := cellPlace p.split (n / 32) (n % 32)
    if f = 0 then none else some (t + i + j, .flags eng false f)

end Sys2Proof.Machine
end

