-- ==== Sys2Proof/Machine/Stages.lean ====
section
/-! DEFINITION. The stage functions of the vector chain (spec/06 R122, spec/07 R147): the exact value
rounded once to FP32. The transcendental ones are enclosed between two fixed-point bounds, at growing
precision, until both bounds round alike (log 10). -/
namespace Sys2Proof.Machine

/-- Bounds of a real number, in units of 2 ^ -P. -/
structure Iv where
  lo : Int
  hi : Int
  deriving DecidableEq, Repr

/-- One, at precision P. -/
def ivOne (p : Nat) : Iv := ⟨(2 ^ p : Nat), (2 ^ p : Nat)⟩

/-- The bounds of `± m × 2 ^ e`. -/
def ivOf (p : Nat) (neg : Bool) (m : Nat) (e : Int) : Iv :=
  let sh := e + p
  let lo : Nat := if sh ≥ 0 then m * 2 ^ sh.toNat else m >>> (-sh).toNat
  let hi : Nat := if sh ≥ 0 then lo else lo + 1
  if neg then ⟨-(hi : Int), -(lo : Int)⟩ else ⟨lo, hi⟩

def ivAdd (a b : Iv) : Iv := ⟨a.lo + b.lo, a.hi + b.hi⟩
def ivNeg (a : Iv) : Iv := ⟨-a.hi, -a.lo⟩
def ivSub (a b : Iv) : Iv := ivAdd a (ivNeg b)

/-- The product's bounds, rounded outward. -/
def ivMul (p : Nat) (a b : Iv) : Iv :=
  let w := a.lo * b.lo
  let x := a.lo * b.hi
  let y := a.hi * b.lo
  let z := a.hi * b.hi
  ⟨min (min w x) (min y z) / (2 ^ p : Nat), max (max w x) (max y z) / (2 ^ p : Nat) + 1⟩

/-- The quotient's bounds by a positive divisor, rounded outward. -/
def ivDiv (p : Nat) (a b : Iv) : Iv :=
  let n1 := a.lo * (2 ^ p : Nat)
  let n2 := a.hi * (2 ^ p : Nat)
  ⟨min (n1 / b.lo) (n1 / b.hi), max (n2 / b.lo) (n2 / b.hi) + 1⟩

/-- The bounds divided by a positive whole number. -/
def ivDivNat (a : Iv) (n : Nat) : Iv := ⟨a.lo / (n : Int), a.hi / (n : Int) + 1⟩

/-- The bounds times a whole number. -/
def ivScale (a : Iv) (n : Int) : Iv :=
  let x := a.lo * n
  let y := a.hi * n
  ⟨min x y, max x y⟩

/-- The greatest whole number whose square is at most `n`, by bits `k` and below. -/
def isqrtLoop : Nat → Nat → Nat → Nat
  | 0, _, r => r
  | k + 1, n, r => if (r + 2 ^ k) * (r + 2 ^ k) ≤ n then isqrtLoop k n (r + 2 ^ k) else isqrtLoop k n r

/-- The whole square root. -/
def isqrt (n : Nat) : Nat := isqrtLoop (Nat.log2 n / 2 + 1) n 0

/-- The square root's bounds. -/
def ivSqrt (p : Nat) (a : Iv) : Iv :=
  ⟨isqrt (a.lo.toNat * 2 ^ p), (isqrt (a.hi.toNat * 2 ^ p) : Int) + 1⟩

/-- Σ yⁱ / i! with the remainder's bound, for y at most 1/2. -/
def expLoop (p : Nat) (y : Iv) : Nat → Nat → Iv → Iv → Iv
  | 0, _, term, sum => ⟨sum.lo, sum.hi + 2 * term.hi + 2⟩
  | n + 1, i, term, sum =>
    let t := ivDivNat (ivMul p term y) i
    expLoop p y n (i + 1) t (ivAdd sum t)

/-- The bounds squared `n` times. -/
def ivSquares (p : Nat) : Nat → Iv → Iv
  | 0, a => a
  | n + 1, a => ivSquares p n (ivMul p a a)

/-- e ^ x for x in 0 .. 2 ^ 9. -/
def ivExp (p : Nat) (x : Iv) : Iv :=
  let y : Iv := ivDivNat x 8192
  ivSquares p 13 (expLoop p y (p / 6 + 8) 1 (ivOne p) (ivOne p))

/-- Σ z²ⁱ⁺¹ / (2i + 1) with the remainder's bound, for z at most 1/2. -/
def atanhLoop (p : Nat) (z2 : Iv) : Nat → Nat → Iv → Iv → Iv
  | 0, _, term, sum => ⟨sum.lo, sum.hi + 2 * term.hi + 2⟩
  | n + 1, i, term, sum =>
    let t := ivMul p term z2
    atanhLoop p z2 n (i + 1) t (ivAdd sum (ivDivNat t (2 * i + 1)))

/-- 2 atanh z = ln ((1 + z) / (1 - z)) for z in 0 .. 1/2. -/
def ivLnRatio (p : Nat) (z : Iv) : Iv := ivScale (atanhLoop p (ivMul p z z) (p / 2 + 4) 1 z z) 2

/-- ln 2. -/
def ivLn2 (p : Nat) : Iv := ivLnRatio p (ivDivNat (ivOne p) 3)

/-- Σ (-1)ⁱ t / (k²ⁱ (2i + 1)) with the remainder's bound. -/
def atanLoop (k2 : Nat) : Nat → Nat → Iv → Iv → Iv
  | 0, _, term, sum => ⟨sum.lo - term.hi - 1, sum.hi + term.hi + 1⟩
  | n + 1, i, term, sum =>
    let t := ivDivNat term k2
    let u := ivDivNat t (2 * i + 1)
    atanLoop k2 n (i + 1) t (if i % 2 = 1 then ivSub sum u else ivAdd sum u)

/-- The angle whose tangent is 1 / k. -/
def ivAtanInv (p k : Nat) : Iv :=
  let t := ivDivNat (ivOne p) k
  atanLoop (k * k) (p / 4 + 4) 1 t t

/-- π. -/
def ivPi (p : Nat) : Iv := ivSub (ivScale (ivAtanInv p 5) 16) (ivScale (ivAtanInv p 239) 4)

/-- ln (m × 2 ^ e). -/
def ivLn (p m : Nat) (e : Int) : Iv :=
  let l := Nat.log2 m
  let up := decide (2 * m ≥ 3 * 2 ^ l)
  let k : Int := l + e + (if up then 1 else 0)
  let x := ivOf p false m (if up then -(l : Int) - 1 else -(l : Int))
  let d := ivSub x (ivOne p)
  let s := ivAdd x (ivOne p)
  let part := if up then ivNeg (ivLnRatio p (ivDiv p (ivNeg d) s)) else ivLnRatio p (ivDiv p d s)
  ivAdd part (ivScale (ivLn2 p) k)

/-- e ^ ± a for the bounds of a. -/
def ivExpSigned (p : Nat) (neg : Bool) (a : Iv) : Iv :=
  let e := ivExp p a
  if neg then ivDiv p (ivOne p) e else e

/-- Bounds so close to zero that they round to it. -/
def ivTiny (p : Nat) (neg : Bool) : Iv :=
  if neg then ⟨-((2 ^ (p - 180) : Nat) : Int), 0⟩ else ⟨0, (2 ^ (p - 180) : Nat)⟩

/-- Bounds just below one. -/
def ivBelowOne (p : Nat) : Iv := ⟨((2 ^ p - 2 ^ (p - 64) : Nat) : Int), (2 ^ p : Nat)⟩

/-- Σ x²ⁿ⁺¹ / (2n + 1)!! with the remainder's bound. -/
def phiLoop (p : Nat) (x2 : Iv) : Nat → Nat → Iv → Iv → Iv
  | 0, _, term, sum => ⟨sum.lo, sum.hi + 2 * term.hi + 2⟩
  | n + 1, i, term, sum =>
    let t := ivDivNat (ivMul p term x2) (2 * i + 1)
    phiLoop p x2 n (i + 1) t (ivAdd sum t)

/-- A transcendental stage function of a nonzero finite value, bounded at precision P (R122). -/
def ivStage (p func : Nat) (neg : Bool) (m : Nat) (e : Int) : Iv :=
  let top := floorLog m e
  let a := ivOf p false m e
  let x := ivOf p neg m e
  let one := ivOne p
  let half : Iv := ivDivNat one 2
  match func with
  | 0x0B =>
    if top ≥ 8 then (if neg then ivTiny p false else ivOf p false 1 200) else ivExpSigned p neg a
  | 0x0C =>
    if top ≥ 8 then (if neg then ivTiny p false else ivOf p false 1 200)
    else ivExpSigned p neg (ivMul p a (ivLn2 p))
  | 0x0D => ivLn p m e
  | 0x0E =>
    let t := if top ≥ 6 then ivBelowOne p
             else
               let k := ivExp p (ivScale a 2)
               ivDiv p (ivSub k one) (ivAdd k one)
    if neg then ivNeg t else t
  | 0x0F =>
    if top ≥ 8 then (if neg then ivTiny p false else ivBelowOne p)
    else
      let k := ivExp p a
      let r := ivDiv p one (ivAdd k one)
      if neg then r else ivSub one r
  | 0x10 =>
    if top ≥ 8 then (if neg then ivTiny p true else ivMul p x (ivBelowOne p))
    else
      let k := ivExp p a
      let r := ivDiv p one (ivAdd k one)
      ivMul p x (if neg then r else ivSub one r)
  | 0x11 =>
    if top ≥ 4 then (if neg then ivTiny p true else ivMul p x (ivBelowOne p))
    else
      let x2 := ivMul p a a
      let sum := phiLoop p x2 (256 + p) 1 a a
      let dens := ivDiv p (ivExpSigned p true (ivDivNat x2 2)) (ivSqrt p (ivScale (ivPi p) 2))
      let tail := ivMul p dens sum
      ivMul p x (if neg then ivSub half tail else ivAdd half tail)
  | _ =>
    if top ≥ 8 then (if neg then ivTiny p false else ⟨x.lo, x.hi + ((2 ^ (p - 90) : Nat) : Int)⟩)
    else
      let u := ivExpSigned p true a
      let l := ivLnRatio p (ivDiv p u (ivAdd u (ivScale one 2)))
      if neg then l else ivAdd a l

/-- Bounds that round to one FP32 result give it, with its flags; a transcendental result is inexact. -/
def ivRound (p : Nat) (v : Iv) : Option (Nat × Nat) :=
  if v.lo < 0 ∧ v.hi > 0 then none
  else
    let neg := decide (v.lo < 0)
    let (e1, _, t1) := fmtFP32.roundMag .nearest v.lo.natAbs (-(p : Int))
    let (e2, _, t2) := fmtFP32.roundMag .nearest v.hi.natAbs (-(p : Int))
    let tiny1 := t1 || decide (v.lo = 0)
    let tiny2 := t2 || decide (v.hi = 0)
    if e1 > fmtFP32.largest ∧ e2 > fmtFP32.largest then some (infBits neg, fOF + fNX)
    else if e1 = e2 ∧ tiny1 = tiny2 then
      some (e1 + fmtFP32.signBit neg, fNX + if tiny1 then fUF else 0)
    else none

/-- The correctly rounded result at the first precision that settles it (R122; log 10). -/
def transcendental (func x : Nat) (neg : Bool) (m : Nat) (e : Int) : Nat × Nat :=
  match [320, 768, 2048].findSome? fun p => ivRound p (ivStage p func neg m e) with
  | some r => r
  | none => (Config.stageTie func x % 2 ^ 32, fNX)

/-- 1 / x (R122, R147). -/
def stageRcp (v : Val) : Nat × Nat :=
  match v with
  | .nan => (nanBits, 0)
  | .inf n => (fmtFP32.signBit n, 0)
  | .fin n m e =>
    if m = 0 then (infBits n, fDZ)
    else
      let k := Nat.log2 m + 40
      let q := 2 ^ k / m
      let sticky := if q * m = 2 ^ k then 0 else 1
      toFP32 (.fin n (2 * q + sticky) (-(k : Int) - e - 1))

/-- √x. -/
def stageSqrt (v : Val) : Nat × Nat :=
  match v with
  | .nan => (nanBits, 0)
  | .inf n => if n then (nanBits, fNV) else (infBits false, 0)
  | .fin n m e =>
    if m = 0 then (fmtFP32.signBit n, 0)
    else if n then (nanBits, fNV)
    else
      let k := 60 + (e - 60).emod 2
      let w := m * 2 ^ k.toNat
      let q := isqrt w
      let sticky := if q * q = w then 0 else 1
      toFP32 (.fin false (2 * q + sticky) ((e - k) / 2 - 1))

/-- 1 / √x. -/
def stageRsqrt (v : Val) : Nat × Nat :=
  match v with
  | .nan => (nanBits, 0)
  | .inf n => if n then (nanBits, fNV) else (0, 0)
  | .fin n m e =>
    if m = 0 then (infBits n, fDZ)
    else if n then (nanBits, fNV)
    else
      let odd := e.emod 2
      let m := m * 2 ^ odd.toNat
      let e := e - odd
      let k := Nat.log2 m + 40
      let q := isqrt (2 ^ (2 * k) / m)
      let sticky := if q * q * m = 2 ^ (2 * k) then 0 else 1
      toFP32 (.fin false (2 * q + sticky) (-(k : Int) - e / 2 - 1))

/-- max and min with −0.0 below +0.0 (R122). -/
def stageMax (least : Bool) (x o : Nat) : Nat × Nat :=
  if isNaN32 x || isNaN32 o then (nanBits, 0)
  else
    let less := decide (orderKey 0 x < orderKey 0 o)
    (if less = least then x else o, 0)

/-- The exact results of the transcendental functions (R147). -/
def exactStage (func : Nat) (v : Val) : Option (Nat × Nat) :=
  match v with
  | .nan => some (nanBits, 0)
  | .inf n =>
    match func with
    | 0x0B => some (if n then 0 else infBits false, 0)
    | 0x0C => some (if n then 0 else infBits false, 0)
    | 0x0D => some (if n then (nanBits, fNV) else (infBits false, 0))
    | 0x0E => some (0x3F800000 + fmtFP32.signBit n, 0)
    | 0x0F => some (if n then 0 else 0x3F800000, 0)
    | 0x12 => some (if n then 0 else infBits false, 0)
    | _ => some (if n then 0x80000000 else infBits false, 0)
  | .fin n m e =>
    if m = 0 then
      match func with
      | 0x0B => some (0x3F800000, 0)
      | 0x0C => some (0x3F800000, 0)
      | 0x0D => some (infBits true, fDZ)
      | 0x0F => some (0x3F000000, 0)
      | 0x12 => none
      | _ => some (fmtFP32.signBit n, 0)
    else
      match func with
      | 0x0D =>
        if n then some (nanBits, fNV)
        else if fp32 0x3F800000 = .fin n m e then some (0, 0) else none
      | 0x0C =>
        let whole := decide (e ≥ 0) || decide (m % 2 ^ (-e).toNat = 0)
        if whole && decide (floorLog m e < 9) then
          let k : Nat := if e ≥ 0 then m * 2 ^ e.toNat else m >>> (-e).toNat
          some (toFP32 (.fin false 1 (if n then -(k : Int) else k)))
        else none
      | _ => none

/-- Softplus of zero is ln 2 (R122), rounded. -/
def ln2Bits : Nat × Nat := (0x3F317218, fNX)

/-- A stage function of one lane, other than CAUSAL: FP32 bits and flags (R122, R147). -/
def stageFn (func x o : Nat) : Nat × Nat :=
  let v := fp32 x
  match func with
  | 0x00 => if isNaN32 x then (nanBits, 0) else (x, 0)
  | 0x01 => fadd x o
  | 0x02 => fsub x o
  | 0x03 => fmul x o
  | 0x04 => stageMax false x o
  | 0x05 => stageMax true x o
  | 0x06 => if isNaN32 x then (nanBits, 0) else (x % 2 ^ 31, 0)
  | 0x07 => if isNaN32 x then (nanBits, 0) else ((x + 2 ^ 31) % 2 ^ 32, 0)
  | 0x08 => stageRcp v
  | 0x09 => stageSqrt v
  | 0x0A => stageRsqrt v
  | _ =>
    match exactStage func v with
    | some r => r
    | none =>
      match v with
      | .fin n m e => if m = 0 then ln2Bits else transcendental func x n m e
      | _ => (nanBits, 0)

/-- CAUSAL: −∞ in lane `j` of row `n` when j > n + D (R122). -/
def stageCausal (x : Nat) (d : Int) (n j : Nat) : Nat × Nat :=
  if (j : Int) > n + d then (infBits true, 0) else if isNaN32 x then (nanBits, 0) else (x, 0)

end Sys2Proof.Machine
end

