-- ==== Sys2Proof/Machine/VectorUnit.lean ====
section
/-! DEFINITION. The vector chain and the reduction unit (spec/06): the configuration word, what a row reads
and writes in each tick, its stages, its output and its reduction. -/
namespace Sys2Proof.Machine

/-! ### The configuration word (R119, R120) -/

def cfgIn (w : Nat) : Nat := bitsOf w 0 4
def cfgOut (w : Nat) : Nat := bitsOf w 4 4
def cfgMode (w : Nat) : Nat := bitsOf w 8 2
def cfgRound (w : Nat) : Nat := bitsOf w 10 2
def cfgSat (w : Nat) : Bool := bitAt w 12
def cfgWhole (w : Nat) : Bool := bitAt w 13
def cfgK (w : Nat) : Nat := bitsOf w 14 6 + 1
def cfgRowLine (w : Nat) : Nat := bitsOf w 32 16
def cfgLaneLine (w : Nat) : Nat := bitsOf w 48 16
def cfgScaleLine (w : Nat) : Nat := bitsOf w 64 16
def stageFunc (w s : Nat) : Nat := bitsOf w (128 + 48 * s) 6
def stageOpnd (w s : Nat) : Nat := bitsOf w (134 + 48 * s) 2
def stageImm (w s : Nat) : Nat := bitsOf w (144 + 48 * s) 32

/-- The identity configuration (R121). -/
def identityWord : Nat := 0xFD

/-- The function takes an operand (R120). -/
def takesOperand (func : Nat) : Bool := [1, 2, 3, 4, 5, 0x13].contains func

/-- Some stage selects the given operand (R123). -/
def cfgUses (w opnd : Nat) : Bool :=
  (List.range 8).any fun s => takesOperand (stageFunc w s) && decide (stageOpnd w s = opnd)

/-- Every stage is PASS and the output keeps the input's format: a bit-for-bit copy (R121). -/
def cfgCopies (w : Nat) : Bool :=
  decide (cfgOut w = 15) && (List.range 8).all fun s => decide (stageFunc w s = 0)

/-- The lowest set bit of the `n` bits from `lo`, as a bit number of the word. -/
def lowSet (w lo n : Nat) : List Nat :=
  match leastBit (bitsOf w lo n) n with
  | some k => [lo + k]
  | none => []

/-- The bits of a configuration word that offend, each field by its lowest (R131). -/
def cfgOffending (w : Nat) : List Nat :=
  (if [1, 7, 8, 9, 15].contains (cfgIn w) then [0] else []) ++
  (if cfgMode w = 3 then [8] else []) ++
  (if cfgRound w = 3 then [10] else []) ++
  lowSet w 20 12 ++ lowSet w 80 48 ++
  (List.range 8).flatMap fun s =>
    let b := 128 + 48 * s
    let f := stageFunc w s
    let o := stageOpnd w s
    (if f > 0x13 then [b] else []) ++
    (if ([1, 2, 3, 4, 5].contains f && decide (o = 0)) || (decide (f = 0x13) && decide (o = 3)) then [b + 6] else []) ++
    lowSet w (b + 8) 8

/-- The byte offset of the lowest-addressed offending byte; none for an allowed word (R131). -/
def cfgFault (w : Nat) : Option Nat :=
  match cfgOffending w with
  | [] => none
  | b :: bs => some (bs.foldl Nat.min b / 8)

/-- The width of a format code's elements in storage (R120). -/
def codeWidth (code : Nat) : Nat :=
  if code ≤ 2 then 4 else if code ≤ 10 then 8 else if code ≤ 12 then 16 else 32

/-- The output format of a run: the configuration's, or its input's (R120). -/
def outFmt (w inFmt : Nat) : Nat := if cfgOut w = 15 then inFmt else cfgOut w

/-- The panel factor q of the output width (R125). -/
def outQ (width : Nat) : Nat := if width = 4 then 4 else if width = 8 then 2 else 1

/-- The bytes of one input row (R124). -/
def inRowBytes (inFmt : Nat) : Nat := 4 * codeWidth inFmt

/-- The lines of one engine's output (R126). -/
def outLines (w inFmt len : Nat) : Nat :=
  let width := codeWidth (outFmt w inFmt)
  if cfgMode w = 0 then ceilDiv (len * 4 * width) 64
  else if cfgMode w = 1 then ceilDiv (ceilDiv len (outQ width) * 2 * outQ width * width) 32
  else 2 * width

/-- The bytes of one reduction record (R128). -/
def redSize (w rmode : Nat) : Nat := if rmode = 5 then 8 * cfgK w else if rmode = 4 then 8 else 4

/-- The lines of one engine's reduction results (R128). -/
def redLines (w rmode len : Nat) : Nat :=
  ceilDiv (if cfgWhole w then redSize w rmode else len * redSize w rmode) 64

/-- The conflicts of a VRUN's configuration with its operands, by DETAIL [7:0] (R131). -/
def vrunConflicts (w inFmt lenField len rmode : Nat) : List Nat :=
  let o := outFmt w inFmt
  (if cfgMode w = 2 ∧ (codeWidth o > 8 ∨ isMX o = true) then [0x00] else []) ++
  (if cfgMode w = 1 ∧ isMX o = true then [0x00] else []) ++
  (if rmode = 5 ∧ cfgK w > 32 ∧ cfgWhole w = false then [0x01] else []) ++
  (if cfgMode w = 2 ∧ (lenField = 0 ∨ len > 32) then [0xFF] else [])

/-- The lines `first .. first + n - 1` do not all exist: the first that does not (R88). -/
def beyondLines (first n : Nat) : Option Nat :=
  if n > 0 ∧ first + n > 65536 then some (Nat.max first 65536) else none

/-! ### What a run reads and writes in a tick (R117, R123 to R128) -/

/-- The lines that bytes `addr .. addr + n - 1` touch. -/
def linesOf (addr n : Nat) : List Nat :=
  if n = 0 then [] else (List.range ((addr + n - 1) / 64 - addr / 64 + 1)).map (addr / 64 + ·)

/-- The row at intake in tick t, if any. -/
def VRun.intakeRow (v : VRun) (t : Nat) : Option Nat :=
  if v.issue ≤ t ∧ t - v.issue < v.len then some (t - v.issue) else none

/-- The row that leaves stage 7 in tick t, if any. -/
def VRun.outRow (v : VRun) (t : Nat) : Option Nat :=
  if v.issue + 8 ≤ t ∧ t - v.issue - 8 < v.len then some (t - v.issue - 8) else none

/-- The row whose result the reduction unit forms in tick t, if any. -/
def VRun.redRow (v : VRun) (t : Nat) : Option Nat :=
  if v.rmode ≠ 0 ∧ v.issue + 10 ≤ t ∧ t - v.issue - 10 < v.len then some (t - v.issue - 10) else none

/-- The bytes that row n's output occupies: runs of (address, length) (R125). -/
def VRun.outSpans (v : VRun) (n : Nat) : List (Nat × Nat) :=
  match v.lineDst with
  | none => []
  | some d =>
    let width := codeWidth (outFmt v.word v.inFmt)
    let q := outQ width
    if cfgMode v.word = 0 then [(64 * d + n * 4 * width, 4 * width)]
    else if cfgMode v.word = 1 then
      if n % q = q - 1 ∨ n + 1 = v.len then [(64 * d + (n / q) * (4 * q * width), 4 * q * width)] else []
    else (List.range (32 / q)).map fun g => (64 * (d + g) + n * (q * width / 8), q * width / 8)

/-- The scale bytes that row n's tick writes: first byte address and first row (R125). -/
def VRun.scaleSpan (v : VRun) (n : Nat) : Option (Nat × Nat × Nat) :=
  if isMX (outFmt v.word v.inFmt) && v.lineDst.isSome && decide (cfgMode v.word = 0) &&
      (decide (n % 64 = 63) || decide (n + 1 = v.len)) then
    some (64 * v.scaleLine + n - n % 64, n - n % 64, n % 64 + 1)
  else none

/-- The reduction bytes written in row n's result tick: address and length (R128). -/
def VRun.redSpan (v : VRun) (n : Nat) : Option (Nat × Nat) :=
  match v.lineRed with
  | none => none
  | some d =>
    let size := redSize v.word v.rmode
    if cfgWhole v.word then if n + 1 = v.len then some (64 * d, size) else none
    else
      let done := n * size / 64 * 64
      let upto := if n + 1 = v.len then (n + 1) * size else (n + 1) * size / 64 * 64
      if upto > done then some (64 * d + done, upto - done) else none

/-- The accesses of one engine's run in tick t (R123, R127, R169). -/
def VRun.accesses (v : VRun) (eng t : Nat) : List BankAccess :=
  let acc (kind line : Nat) : BankAccess :=
    { cls := 2, issued := v.issue, unit := eng, kind := kind, line := line, share := some v.issue, pc := v.pc }
  let reads := match v.intakeRow t with
    | none => []
    | some n =>
      (if v.src = 0 then
        (linesOf (64 * v.lineSrc + n * inRowBytes v.inFmt) (inRowBytes v.inFmt)).map (acc 0) else []) ++
      (if cfgUses v.word 2 && decide (n % 16 = 0) then [acc 1 (v.rowLine + n / 16)] else []) ++
      (if cfgUses v.word 3 && decide (n = 0) then
        [acc 2 (cfgLaneLine v.word), acc 2 (cfgLaneLine v.word + 1)] else [])
  let writes := match v.outRow t with
    | none => []
    | some n =>
      ((v.outSpans n).flatMap fun e => (linesOf e.1 e.2).map (acc 3)) ++
      (match v.scaleSpan n with
       | some (a, _, m) => (linesOf a m).map (acc 4)
       | none => [])
  let reds := match v.redRow t with
    | none => []
    | some n => match v.redSpan n with
      | some (a, m) => (linesOf a m).map (acc 5)
      | none => []
  reads ++ writes ++ reds

/-! ### A row's values (R121 to R125, R144 to R146) -/

/-- The operand that a stage takes for lane j of row n (R120, R123). -/
def VRun.operand (v : VRun) (s n j : Nat) : Nat :=
  match stageOpnd v.word s with
  | 1 => stageImm v.word s
  | 2 => Assoc.get 0 v.rowOps n
  | 3 => Assoc.get 0 v.laneOps j
  | _ => 0

/-- One stage on one lane (R122). -/
def VRun.stageLane (v : VRun) (s n j x : Nat) : Nat × Nat :=
  let f := stageFunc v.word s
  let o := v.operand s n j
  if f = 0x13 then stageCausal x (signedOf o 32) n j else stageFn f x o

/-- The row after stage s, and the flags the stage raises. -/
def VRun.stageRow (v : VRun) (s n : Nat) (row : List Nat) : List Nat × Nat :=
  let rs := (List.range 32).map fun j => v.stageLane s n j (row.getD j 0)
  (rs.map (·.1), rs.foldl (fun f r => f ||| r.2) 0)

/-- The row after stages `s .. 7`, with each stage's flags in order. -/
def VRun.stageRows (v : VRun) (n : Nat) : Nat → Nat → List Nat → List Nat × List Nat
  | 0, _, row => (row, [])
  | k + 1, s, row =>
    let (row, f) := v.stageRow s n row
    let (row, fs) := v.stageRows n k (s + 1) row
    (row, f :: fs)

/-- The rounding of lane j of row n's output: the configuration's mode, with G's sixteen bits in the
stochastic one (R143, R145). -/
def VRun.rounding (v : VRun) (core eng n j : Nat) : Round :=
  match cfgRound v.word with
  | 0 => .nearest
  | 1 => .zero
  | _ => .stochastic (genG v.seed (4 * core + eng) (32 * (v.issue + n) + j) % 65536)

/-- Row n's output elements, its scale byte and its flags (R125, R144, R146). -/
def VRun.convertRow (v : VRun) (core eng n : Nat) (row : List Nat) : List Nat × Nat × Nat :=
  let code := outFmt v.word v.inFmt
  if isMX code then
    let (scale, zeros, f) := mxScale code row
    if zeros then (List.replicate 32 0, scale, f)
    else
      let rs := (List.range 32).map fun j => mxElement code (v.rounding core eng n j) scale (row.getD j 0)
      (rs.map (·.1), scale, rs.foldl (fun g r => g ||| r.2) f)
  else
    let rs := (List.range 32).map fun j => convertOut code (v.rounding core eng n j) (cfgSat v.word) (row.getD j 0)
    (rs.map (·.1), 0, rs.foldl (fun g r => g ||| r.2) 0)

/-- Elements of a width packed into bytes, the first lowest. -/
def packElems (width : Nat) (es : List Nat) : List Byte :=
  let v := es.foldr (fun e acc => (e % 2 ^ width) + acc * 2 ^ width) 0
  bytesOf v (es.length * width / 8)

/-- The elements of one row's panel bytes in KSTEP: K-step rows side by side, absent rows as 0 (R125). -/
def kstepElems (rows : Assoc (List Nat)) (q s : Nat) : List Nat :=
  (List.range 32).flatMap fun j =>
    (List.range q).map fun m => (Assoc.get [] rows (s * q + m)).getD j 0

/-- The bytes that row n writes, span by span as `outSpans` gives them; `rows` holds output elements. -/
def VRun.outBytes (v : VRun) (rows : Assoc (List Nat)) (n : Nat) : List (List Byte) :=
  let width := codeWidth (outFmt v.word v.inFmt)
  let q := outQ width
  let row := Assoc.get [] rows n
  if cfgMode v.word = 0 then [packElems width row]
  else if cfgMode v.word = 1 then [packElems width (kstepElems rows q (n / q))]
  else (List.range (32 / q)).map fun g => packElems width ((row.drop (g * q)).take q)

/-! ### The reduction unit (R128 to R130) -/

/-- One level of the pairwise tree. -/
def pairSums : List Nat → List Nat × Nat
  | a :: b :: rest =>
    let (r, f) := fadd a b
    let (rs, g) := pairSums rest
    (r :: rs, f ||| g)
  | rest => (rest, 0)

/-- The tree of `n` levels. -/
def treeSum : Nat → List Nat → Nat × Nat
  | 0, row => (row.headD 0, 0)
  | n + 1, row =>
    let (r, f) := pairSums row
    let (s, g) := treeSum n r
    (s, f ||| g)

/-- Entry (value, index) a ranks before b: by the mode's order, then the lower index (R129). -/
def ranksBefore (least : Bool) (a b : Nat × Nat) : Bool :=
  let key (x : Nat) : Int := if least then orderKey (-(2 ^ 40)) x else -(orderKey (2 ^ 40) x)
  decide (key a.1 < key b.1) || (decide (key a.1 = key b.1) && decide (a.2 < b.2))

/-- An entry placed in a list kept in rank order. -/
def insertRanked (least : Bool) (e : Nat × Nat) : List (Nat × Nat) → List (Nat × Nat)
  | [] => [e]
  | x :: xs => if ranksBefore least e x then e :: x :: xs else x :: insertRanked least e xs

/-- The first k entries of a row in rank order. -/
def rankRow (least : Bool) (k base : Nat) (row : List Nat) (start : List (Nat × Nat)) : List (Nat × Nat) :=
  ((List.range 32).foldl (fun l j => (insertRanked least (row.getD j 0, base + j) l).take k) start)

/-- A NaN result is written as the canonical NaN (R129). -/
def canonNaN (x : Nat) : Nat := if isNaN32 x then nanBits else x

/-- A record of values and, for arg-max and top-k, indices (R128). -/
def redRecord (rmode k : Nat) (best : List (Nat × Nat)) : List Byte :=
  let entries := (List.range k).map fun i => match best[i]? with
    | some e => (canonNaN e.1, e.2)
    | none => (0xFF800000, 0xFFFFFFFF)
  entries.flatMap (fun e => bytesOf e.1 4) ++
    (if rmode = 4 ∨ rmode = 5 then entries.flatMap (fun e => bytesOf e.2 4) else [])

/-- A row goes through the reduction unit: the run with its result so far and its pending bytes, and the
flags raised (R128, R129). -/
def VRun.reduceRow (v : VRun) (n : Nat) (row : List Nat) : VRun × Nat :=
  let whole := cfgWhole v.word
  let k := if v.rmode = 5 then cfgK v.word else 1
  let (best, f) :=
    if v.rmode = 1 then
      let (sum, f) := treeSum 5 row
      match whole, v.total with
      | true, some t =>
        let (r, g) := fadd t sum
        ([(r, 0)], f ||| g)
      | _, _ => ([(sum, 0)], f)
    else
      (rankRow (decide (v.rmode = 3)) k (if whole then 32 * n else 0) row (if whole then v.best else []), 0)
  let head := best.headD (0, 0)
  let v := { v with total := some head.1, best := best, lastVal := canonNaN head.1,
                    lastIdx := if v.rmode = 4 ∨ v.rmode = 5 then head.2 else 0 }
  let rec1 := redRecord v.rmode k best
  (if whole then { v with redBytes := rec1 } else { v with redBytes := v.redBytes ++ rec1 }, f)

end Sys2Proof.Machine
end

