-- ==== Sys2Proof/Machine/Streams.lean ====
section
/-! DEFINITION. The control flow of an instruction stream (R79, R80, R91, R92): where a queue goes after
each instruction, the structure the loader demands, and the issue ticks it measures. -/
namespace Sys2Proof.Machine

/-! ### Where a queue goes next -/

/-- At a loop body's end the loop goes round again or closes, and so does the loop around it (R91). -/
def unwindLoops : List LoopSt → Nat → List LoopSt × Nat
  | [], pc => ([], pc)
  | l :: ls, pc =>
    if pc = l.stop then
      if l.left > 1 then ({ l with left := l.left - 1 } :: ls, l.first) else unwindLoops ls pc
    else (l :: ls, pc)

/-- After the last word of arm T the next pc is the JOIN's (R92). -/
def leaveArm : List BranchSt → Nat → Nat
  | [], pc => pc
  | b :: _, pc => if b.armEnd = some pc then b.joinPc else pc

/-- The queue with its next pc, `pc` being the word that follows in the stream (R79, R91, R92). -/
def QueueSt.goTo (q : QueueSt) (pc : Nat) : QueueSt :=
  let (loops, pc) := unwindLoops q.loops pc
  { q with loops := loops, pc := leaveArm q.branches pc }

/-- The queue after an instruction that is no control instruction. -/
def QueueSt.next (q : QueueSt) : QueueSt := q.goTo (q.pc + 8)

/-- LOOP: COUNT 0 stands for 65,536; an empty body is passed over (R91). -/
def QueueSt.loop (q : QueueSt) (count body : Nat) : QueueSt :=
  if body = 0 then q.next
  else
    let l : LoopSt := { first := q.pc + 8, stop := q.pc + 8 + 8 * body, left := if count = 0 then 65536 else count }
    { q with loops := l :: q.loops, pc := q.pc + 8 }

/-- BRB issued at tick t: the branch opens and one arm follows (R92). -/
def QueueSt.branch (q : QueueSt) (t alen blen : Nat) (taken : Bool) : QueueSt :=
  let join := q.pc + 8 * (1 + alen + blen)
  let armF := q.pc + 8 * (1 + alen)
  let b : BranchSt := { joinPc := join, armEnd := if taken then some armF else none, tBrb := t, sigs0 := q.sigs }
  let q := { q with branches := b :: q.branches }
  { q with pc := if taken then leaveArm q.branches (q.pc + 8) else armF }

/-- JOIN: the innermost branch closes (R92). -/
def QueueSt.join (q : QueueSt) : QueueSt := { q with branches := q.branches.drop 1 }.next

/-! ### The structure the loader demands (R91, R92) -/

/-- Words `a .. b - 1` form a block in which loops and branches nest properly, at most 4 levels of each. -/
def blockOk (ws : List IsaWord) : Nat → Nat → Nat → Nat → Nat → Bool
  | 0, _, _, _, _ => true
  | fuel + 1, a, b, loops, branches =>
    if a ≥ b then true
    else
      match (ws[a]?).map IsaWord.op with
      | some (.loop _ body) =>
        let n := body.toNat
        decide (loops < 4) && decide (a + 1 + n ≤ b) && blockOk ws fuel (a + 1) (a + 1 + n) (loops + 1) branches &&
          blockOk ws fuel (a + 1 + n) b loops branches
      | some (.brb _ _ _ alen blen) =>
        let j := a + 1 + alen.toNat + blen.toNat
        decide (branches < 4) && decide (j < b) &&
          (match (ws[j]?).map IsaWord.op with
           | some (.join _ _) => true
           | _ => false) &&
          blockOk ws fuel (a + 1) (a + 1 + alen.toNat) loops (branches + 1) &&
          blockOk ws fuel (a + 1 + alen.toNat) j loops (branches + 1) &&
          blockOk ws fuel (j + 1) b loops branches
      | some (.join _ _) => false
      | _ => blockOk ws fuel (a + 1) b loops branches

/-! ### Issue ticks (R79, R80) -/

/-- The queue after a word that issues at tick t, on the arm that the loader follows: arm F (R80). -/
def QueueSt.measured (q : QueueSt) (t : Nat) (op : Isa) : QueueSt :=
  match op with
  | .loop count body => q.loop count.toNat body.toNat
  | .brb _ _ _ alen blen => q.branch t alen.toNat blen.toNat false
  | .join _ _ => q.join
  | _ => q.next

/-- The words of a stream with their issue ticks, up to END; none when END does not issue by the last
tick `stop - 1` or the stream runs out of words. -/
def issueTicks (ws : List IsaWord) (stop : Nat) : Nat → QueueSt → Nat → Option (List (Nat × Isa))
  | 0, _, _ => none
  | fuel + 1, q, earliest =>
    match ws[q.pc / 8]? with
    | none => none
    | some w =>
      let t := earliest + w.gap.toNat
      if t ≥ stop then none
      else if w.op = .endQ then some [(t, w.op)]
      else (issueTicks ws stop fuel (q.measured t w.op) (t + 1)).map ((t, w.op) :: ·)

/-- The tick at which an instruction's work ends, where the loader checks it: an MPASS's operand input and
a VRUN's completion (R80, R94, R95). -/
def workEnd (t : Nat) (op : Isa) : Nat :=
  match op with
  | .mpass _ _ _ _ _ _ _ _ kt => t + (if kt = 0#14 then 16384 else kt.toNat)
  | .vrun _ _ _ _ _ _ len rmode =>
    t + (if len = 0#11 then 2048 else len.toNat) + 8 + (if rmode = 0#3 then 0 else 2)
  | _ => t + 1

/-- The instruction's own refusals at load: operand ranges, queue, registers, MPASS formats and VRUN
length (R84, R86, R87, R94, R102, R107, R110). -/
def wordOk (queue formats : Nat) (w : IsaWord) : Bool :=
  w.op.inRange && w.op.queues.contains queue && w.op.regsLegal &&
  (match w.op with
   | .mpass emask _ _ _ fa fb _ _ kt =>
     emask != 0#4 && formats.testBit fa.toNat && formats.testBit fb.toNat &&
       (pairGroup fa.toNat fb.toNat).isSome &&
       (decide (pairRate4 fa.toNat fb.toNat ≠ 1) || decide (kt.toNat % 4 = 0))
   | .vrun _ _ src _ _ _ len _ =>
     decide (src = 0#2) || (decide (0 < len.toNat) && decide (len.toNat ≤ 32))
   | _ => true)

end Sys2Proof.Machine
end

