-- ==== Sys2Proof/Machine/Image.lean ====
section
/-! DEFINITION. The Chroik plan image (R48, R49): its header, its sections and what they say. The layouts
that the manual leaves open are those of log 11. -/
namespace Sys2Proof.Machine

/-- The little-endian number in bytes `off .. off + n - 1`. -/
def leAt (bs : List Byte) (off n : Nat) : Nat := natOfBytes ((bs.drop off).take n)

/-- The header fields of R48. -/
structure Header where
  magic : Nat
  version : Nat
  hdrSize : Nat
  imageSize : Nat
  planId : Nat
  flags : Nat
  deviceId : Nat
  devices : Nat
  frameLen : Nat
  verdictTicks : Nat
  slots : Nat
  lcores : Nat
  role : Nat
  rates : Nat
  sections : Nat
  formats : Nat
  commitMax : Nat
  table : Nat
  deriving DecidableEq, Repr

/-- The header of an image (R48). -/
def header (im : List Byte) : Header where
  magic := leAt im 0x00 4
  version := leAt im 0x04 2
  hdrSize := leAt im 0x06 2
  imageSize := leAt im 0x08 8
  planId := leAt im 0x10 8
  flags := leAt im 0x18 4
  deviceId := leAt im 0x1C 2
  devices := leAt im 0x1E 2
  frameLen := leAt im 0x20 4
  verdictTicks := leAt im 0x24 4
  slots := leAt im 0x28 2
  lcores := leAt im 0x2A 2
  role := leAt im 0x2C 1
  rates := leAt im 0x2D 1
  sections := leAt im 0x2E 2
  formats := leAt im 0x30 4
  commitMax := leAt im 0x34 4
  table := leAt im 0x38 8

/-- The plan spans several devices (FLAGS[0]). -/
def Header.multi (h : Header) : Bool := bitAt h.flags 0

/-- A four-chip image (FLAGS[1]). -/
def Header.fourChip (h : Header) : Bool := bitAt h.flags 1

/-- A core-count-parameterised image (FLAGS[2]). -/
def Header.param (h : Header) : Bool := bitAt h.flags 2

/-- One entry of the section table (R49). -/
structure Section where
  type : Nat
  core : Nat
  flags : Nat
  off : Nat
  len : Nat
  deriving DecidableEq, Repr

/-- The sections of an image, in the table's order (R49). -/
def sections (im : List Byte) : List Section :=
  let h := header im
  (List.range h.sections).map fun k =>
    let e := (im.drop (h.table + 24 * k)).take 24
    { type := leAt e 0 2, core := leAt e 2 2, flags := leAt e 4 4, off := leAt e 8 8, len := leAt e 16 8 }

/-- A section's bytes. -/
def Section.bytes (im : List Byte) (x : Section) : List Byte := (im.drop x.off).take x.len

/-- The bytes of the first section of a type and core; none listed reads as no bytes. -/
def sectionData (im : List Byte) (type core : Nat) : List Byte :=
  match (sections im).find? fun x => x.type = type ∧ x.core = core with
  | some x => x.bytes im
  | none => []

/-- The bytes of a device-wide section. -/
def deviceData (im : List Byte) (type : Nat) : List Byte := sectionData im type 0xFFFF

/-- The section types of A1 (R49). -/
def knownTypes : List Nat := [1, 2, 3, 4, 5, 0x10, 0x11, 0x12, 0x20, 0x30, 0x31, 0x32, 0x40, 0x50, 0x60]

/-- The section types that stand once per core (R49). -/
def perCore (type : Nat) : Bool := (decide (1 ≤ type) && decide (type ≤ 5)) || decide (type = 0x12) || decide (type = 0x40)

/-- Words of `n` bytes in a list of bytes. -/
def wordsOf (n : Nat) (bs : List Byte) : List Nat := (List.range (bs.length / n)).map fun k => leAt bs (n * k) n

/-- The core whose streams logical core `c` runs: core 0's in a parameterised image (R77). -/
def streamCore (im : List Byte) (c : Nat) : Nat := if (header im).param then 0 else c

/-- The stream of a queue of a core, as 64-bit words; none where the image has no such section. -/
def stream (im : List Byte) (c queue : Nat) : Option (List Word) :=
  let core := streamCore im c
  if (sections im).any fun x => x.type = queue + 1 ∧ x.core = core then
    some ((wordsOf 8 (sectionData im (queue + 1) core)).map (BitVec.ofNat 64))
  else none

/-- The slot table template: the context ID of a slot, 0 for UNBOUND. -/
def slotTemplate (im : List Byte) (slot : Nat) : Nat := leAt (deviceData im 0x10) (2 * slot) 2

/-- One entry of the parameter map (R49). -/
structure MapEntry where
  slot : Nat
  core : Nat
  preg : Nat
  field : Nat
  rsv : Nat
  deriving DecidableEq, Repr

/-- The parameter map (R49, R181). -/
def paramMap (im : List Byte) : List MapEntry :=
  let bs := deviceData im 0x11
  (List.range (bs.length / 8)).map fun k =>
    { slot := leAt bs (8 * k) 2, core := leAt bs (8 * k + 2) 2, preg := leAt bs (8 * k + 4) 1,
      field := leAt bs (8 * k + 5) 1, rsv := leAt bs (8 * k + 6) 2 }

/-- The initial value of p register `k` of a core (R49). -/
def initialParam (im : List Byte) (core k : Nat) : Nat := leAt (sectionData im 0x12 core) (8 * k) 8

/-- The preload records of a core: first line and bytes (log 11). -/
def preloadSpans : Nat → List Byte → List (Nat × List Byte)
  | 0, _ => []
  | fuel + 1, bs =>
    if bs.length < 8 then []
    else
      let n := 64 * leAt bs 2 4
      (leAt bs 0 2, (bs.drop 8).take n) :: preloadSpans fuel (bs.drop (8 + n))

/-- The scratchpad preload of a core: first line and bytes of each record (R49, log 11). -/
def preload (im : List Byte) (core : Nat) : List (Nat × List Byte) :=
  let bs := sectionData im 0x40 core
  preloadSpans bs.length bs

/-- A byte of a core's scratchpad as the preload leaves it; 0 where the preload says nothing. -/
def preloadByte (spans : List (Nat × List Byte)) (addr : Nat) : Byte :=
  match spans.find? fun e => decide (64 * e.1 ≤ addr) && decide (addr < 64 * e.1 + e.2.length) with
  | some e => e.2.getD (addr - 64 * e.1) 0
  | none => 0

/-! ### Routes (R175, R241) -/

/-- A route entry (R241). -/
structure Route where
  kind : Nat := 0
  inPort : Nat := 0
  outPort : Nat := 0
  lcore : Nat := 0
  next : Nat := 0
  posMask : Nat := 0
  reply : Nat := 0
  twin : Bool := false
  mem : Bool := false
  deriving DecidableEq, Repr

/-- The fields of a route entry (R241). -/
def routeOf (v : Nat) : Route where
  kind := bitsOf v 0 3
  inPort := bitsOf v 3 5
  outPort := bitsOf v 8 5
  lcore := bitsOf v 13 8
  next := bitsOf v 21 12
  posMask := bitsOf v 33 16
  reply := bitsOf v 49 12
  twin := bitAt v 61
  mem := bitAt v 62

/-- Route entry `r` of an image. -/
def routeEntry (im : List Byte) (r : Nat) : Route := routeOf (leAt (deviceData im 0x30) (8 * r) 8)

/-- How many route entries the section lists: at most 4,096. -/
def routeCount (im : List Byte) : Nat := Nat.min 4096 ((deviceData im 0x30).length / 8)

/-- The route table of an image. -/
def routes (im : List Byte) : List Route := (List.range (routeCount im)).map (routeEntry im)

/-- The request route bound to a DMA channel of a core: the channel table follows the 4,096 entries (R175,
log 11). -/
def channelRoute (im : List Byte) (core ch : Nat) : Option Nat :=
  let off := 32768 + 2 * (16 * core + ch)
  let bs := deviceData im 0x30
  if off + 2 ≤ bs.length then
    let v := leAt bs off 2
    if v = 0xFFFF then none else some v
  else none

/-- The entry owns positions of its OUT_PORT (R242). -/
def Route.owns (r : Route) : Bool := r.kind = 1 || r.kind = 2 || r.kind = 4

/-- The entry sinks flits at this device. -/
def Route.sinks (r : Route) : Bool := r.kind = 3 || r.kind = 4

/-- A SOURCE that a core's SEND feeds (R87, R241). -/
def Route.sendOf (r : Route) (core : Nat) : Bool :=
  decide (r.kind = 1) && !r.mem && decide (r.lcore = core) && decide (r.posMask ≠ 0)

/-- A SINK or TEE that a core's RECV arms (R87). -/
def Route.recvOf (r : Route) (core : Nat) : Bool := r.sinks && decide (r.lcore = core)

/-! ### Power profile (R75, R319) -/

/-- One sleep of a core region (R319). -/
structure Sleep where
  start : Nat
  stop : Nat
  state : Nat
  rsv : Nat
  deriving DecidableEq, Repr

/-- A region's part of the power profile: runs of (intervals, limit in 1/16 PU) and sleeps. -/
structure RegionProfile where
  runs : List (Nat × Nat) := []
  sleeps : List Sleep := []
  deriving DecidableEq, Repr

/-- Reads run entries until their counts reach the number of intervals (R75); none when they pass it or the
bytes end. -/
def takeRuns (need : Nat) : Nat → List Byte → Option (List (Nat × Nat) × List Byte)
  | 0, _ => none
  | fuel + 1, bs =>
    if need = 0 then some ([], bs)
    else if bs.length < 4 then none
    else
      let n := leAt bs 0 2
      if n > need then none
      else (takeRuns (need - n) fuel (bs.drop 4)).map fun e => ((n, leAt bs 2 2) :: e.1, e.2)

/-- Reads a sleep list (R319). -/
def takeSleeps (bs : List Byte) : Option (List Sleep × List Byte) :=
  let n := leAt bs 0 4
  if bs.length < 4 ∨ bs.length < 4 + 8 * n then none
  else
    some ((List.range n).map fun k =>
      let v := leAt bs (4 + 8 * k) 8
      { start := bitsOf v 0 27, stop := bitsOf v 27 27, state := bitsOf v 54 3, rsv := bitsOf v 57 7 }, bs.drop (4 + 8 * n))

/-- Reads the profile's regions, in the order of a list (log 11). -/
def takeRegions (intervals : Nat) : List Nat → List Byte → Option (List (Nat × RegionProfile))
  | [], _ => some []
  | r :: rs, bs =>
    match takeRuns intervals (bs.length + 1) bs with
    | none => none
    | some (runs, bs) =>
      let sleeps := if r % 144 < 136 then takeSleeps bs else some ([], bs)
      match sleeps with
      | none => none
      | some (sl, bs) => (takeRegions intervals rs bs).map ((r, { runs := runs, sleeps := sl }) :: ·)

/-- The power intervals of a frame (R75). -/
def intervalsOf (frameLen : Nat) : Nat := ceilDiv frameLen 4096

/-- The limit of a run list in an interval, in 1/16 PU. -/
def limitAt : List (Nat × Nat) → Nat → Nat
  | [], _ => 0
  | (n, l) :: rest, m => if m < n then l else limitAt rest (m - n)

/-! ### Timing assumptions, verdict tree, library (log 11) -/

/-- The greatest crossing latency the plan was compiled against. -/
def timingXing (im : List Byte) : Nat := leAt (deviceData im 0x31) 0 4

/-- The MEM_TIMING and MEM_TIMING2 values the plan was compiled against (R158), as the registers hold them. -/
def timingMem (im : List Byte) (k : Nat) : Nat := leAt (deviceData im 0x31) (8 + 8 * k) 8

/-- The hop budget of a port. -/
def timingHop (im : List Byte) (p : Nat) : Nat := leAt (deviceData im 0x31) (24 + 4 * p) 2

/-- The encryption state of a port that the plan records (R228). -/
def timingEnc (im : List Byte) (p : Nat) : Nat := leAt (deviceData im 0x31) (26 + 4 * p) 1 % 2

/-- The placement entry of a logical core (R363): none when free, else die and index as in IDENT_CORE_MAP. -/
def timingPlace (im : List Byte) (c : Nat) : Option Nat :=
  let v := leAt (deviceData im 0x31) (96 + 2 * c) 2
  if v = 0xFFFF then none else some (144 * bitsOf v 8 1 + bitsOf v 0 8)

/-- The verdict tree entry of this device, laid out as FAB_TREE: parent port (31 at the root) and children. -/
def verdictTree (im : List Byte) : Nat × Nat :=
  let v := leAt (deviceData im 0x32) 0 8
  (bitsOf v 1 5, bitsOf v 8 18)

/-- The routines that the plan's service code needs, with least versions. -/
def libraryNeeds (im : List Byte) : List (Nat × Nat) :=
  (wordsOf 4 (deviceData im 0x50)).map fun v => (bitsOf v 0 16, bitsOf v 16 16)

/-- The frame length of a parameterised image for n cores; 0 where n is not supported (R77): the table has 256
entries, and 256 cores use entry 0 (log 11). -/
def frameLenFor (im : List Byte) (n : Nat) : Nat := leAt (deviceData im 0x60) (4 * (n % 256)) 4

/-! ### Job tables (R191) -/

/-- A job entry (R191). -/
structure JobEntry where
  tick : Nat := 0
  core : Nat := 0
  mode : Nat := 0
  fp32 : Bool := false
  commit : Bool := false
  npos : Nat := 0
  preg : Nat := 0
  done : Nat := 0
  vocab : Nat := 0
  cmax : Nat := 0
  outLine : Nat := 0
  logit : Nat := 0
  dlogit : Nat := 0
  dtok : Nat := 0
  count : Nat := 0
  dstep : Nat := 0
  rsvOk : Bool := true
  deriving DecidableEq, Repr

/-- The fields of a 32-byte job entry, given as a number (R191). -/
def jobOf (v : Nat) : JobEntry where
  tick := bitsOf v 0 32
  core := bitsOf v 32 4
  mode := bitsOf v 40 2
  fp32 := bitAt v 42
  commit := bitAt v 43
  npos := bitsOf v 44 4
  preg := bitsOf v 48 8
  done := bitsOf v 56 5
  vocab := bitsOf v 64 32
  cmax := bitsOf v 96 16
  outLine := bitsOf v 112 16
  logit := bitsOf v 128 16
  dlogit := bitsOf v 144 16
  dtok := bitsOf v 160 16
  count := bitsOf v 176 16
  dstep := bitsOf v 192 8
  rsvOk := decide (bitsOf v 36 4 = 0) && decide (bitsOf v 61 3 = 0) && decide (bitsOf v 200 56 = 0)

/-- L: the lines of one logit row (R191). -/
def JobEntry.rowLines (j : JobEntry) : Nat := ceilDiv (j.vocab * (if j.fp32 then 32 else 16)) 512

/-- RS: the lines between rows (R191). -/
def JobEntry.rowStep (j : JobEntry) : Nat := 256 * ceilDiv j.rowLines 256

/-- C16: the count lines read (R193). -/
def JobEntry.countLines (j : JobEntry) : Nat := ceilDiv j.cmax 16

/-- T: the job's duration in ticks (R193). -/
def JobEntry.ticks (j : JobEntry) : Nat := 16 + j.countLines + (2 * j.npos + 1) * (j.rowLines + 4)

/-- The entry keeps to the job-entry table (R191). -/
def JobEntry.ok (j : JobEntry) : Bool :=
  j.rsvOk && decide (j.preg ≤ 56) && decide (1 ≤ j.vocab) && decide (j.vocab ≤ 262144) && decide (j.cmax ≤ 8192) &&
  (if j.mode = 1 then decide (2 ≤ j.npos) && decide (j.npos ≤ 8)
   else if j.mode = 2 then decide (2 ≤ j.npos) && decide (j.npos ≤ 5) else decide (j.npos = 1)) &&
  (if j.mode = 3 then !j.commit && decide (1 ≤ j.dstep) && decide (j.dstep ≤ 7) else decide (j.dstep = 0)) &&
  (decide (j.mode ≠ 1) || decide ((j.dlogit + 65536 - j.logit) % 256 = 128))

/-- The greatest line that a job accesses (R193). -/
def JobEntry.lastLine (j : JobEntry) : Nat :=
  let rows := (j.npos - 1) * j.rowStep + j.rowLines - 1
  Nat.max (Nat.max j.outLine (j.logit + rows))
    (Nat.max (if j.mode = 1 then j.dlogit + rows else 0)
      (Nat.max (if j.mode = 2 then j.dtok + j.npos - 1 else if j.mode = 0 then 0 else j.dtok)
        (if j.countLines = 0 then 0 else j.count + j.countLines - 1)))

/-- The ticks, relative to the job's start, in which it accesses its core's scratchpad (R193). -/
def JobEntry.accessTicks (j : JobEntry) : List (Nat × Nat) :=
  (if j.mode = 0 then [] else if j.mode = 2 then [(1, 1 + j.npos)] else [(1, 2)]) ++
  (if j.countLines = 0 then [] else [(16, 16 + j.countLines)]) ++
  ((List.range (2 * j.npos + 1)).map fun s =>
    let p := 16 + j.countLines + s * (j.rowLines + 4)
    (p, p + j.rowLines)) ++ [(j.ticks - 1, j.ticks)]

/-- The job table that a value of p58 and a reader of scratchpad bytes give (R191). -/
def jobTable (p58 : Nat) (byte : Nat → Byte) : List JobEntry :=
  (List.range (bitsOf p58 16 8)).map fun k =>
    jobOf (natOfBytes ((List.range 32).map fun i => byte (64 * bitsOf p58 0 16 + 32 * k + i)))

/-- The job table of unit u that the image's initial parameters and preload give (R191). -/
def imageJobs (im : List Byte) (u : Nat) : List JobEntry :=
  let spans := preload im (16 * u)
  jobTable (initialParam im (16 * u) 58) (preloadByte spans)

end Sys2Proof.Machine
end

