-- ==== Sys2Proof/Machine/SelMath.lean ====
section
/-! DEFINITION. What a selection job computes (R193 to R197): the lines it reads, distributions, draws and acceptance. -/
namespace Sys2Proof.Machine

/-! ### Arithmetic of a job (R194: FP32, round-to-nearest-even) -/

/-- The exact quotient of two values, with a sticky bit that rounding sees. -/
def divVal (a b : Val) : Val :=
  match a, b with
  | .nan, _ => .nan
  | _, .nan => .nan
  | .inf _, .inf _ => .nan
  | .inf n1, .fin n2 _ _ => .inf (n1 != n2)
  | .fin n1 _ _, .inf n2 => .fin (n1 != n2) 0 0
  | .fin n1 m1 e1, .fin n2 m2 e2 =>
    if m2 = 0 then (if m1 = 0 then .nan else .inf (n1 != n2))
    else
      let q := m1 * 2 ^ 64 / m2
      let sticky := if q * m2 = m1 * 2 ^ 64 then 0 else 1
      .fin (n1 != n2) (2 * q + sticky) (e1 - e2 - 65)

/-- FP32 division. -/
def fdiv (a b : Nat) : Nat := (toFP32 (divVal (fp32 a) (fp32 b))).1

/-- +1.0. -/
def oneBits : Nat := 0x3F800000

/-- The FP32 numbers of a distribution compare equal: −0.0 equals +0.0. -/
def feq (a b : Nat) : Bool := !isNaN32 a && !isNaN32 b && !(fless a b) && !(fless b a)

/-- What a job's parameters give it (R192). -/
structure SelCtx where
  id : Nat
  d : Nat
  mode : Nat
  topk : Nat
  temp : Nat
  rep : Nat
  freq : Nat
  pres : Nat
  ncount : Nat
  seed : Nat
  pos : Nat
  cand : List Nat
  adv : Nat
  sample : Bool

/-- The parameters b to b + 7 (R181, R192). -/
def selCtx (ps : List Nat) : SelCtx :=
  let p (i : Nat) : Nat := ps.getD i 0
  { id := bitsOf (p 0) 0 16, d := bitsOf (p 0) 16 3, mode := bitsOf (p 0) 19 2, topk := bitsOf (p 0) 24 7,
    temp := bitsOf (p 0) 32 32, rep := bitsOf (p 1) 0 32, freq := bitsOf (p 1) 32 32, pres := bitsOf (p 2) 0 32,
    ncount := bitsOf (p 2) 32 14, seed := p 3, pos := p 4,
    cand := [bitsOf (p 5) 0 20, bitsOf (p 5) 32 20, bitsOf (p 6) 0 20, bitsOf (p 6) 32 20],
    adv := bitsOf (p 7) 0 32, sample := bitAt (p 7) 32 }

/-- U(k) as FP32 bits (R196). -/
def drawU (c : SelCtx) (k : Nat) : Nat := (toFP32 (.fin false (genG c.seed c.id k >>> 40) (-24))).1

/-! ### What a job reads (R193) -/

/-- The job that a selection unit runs. -/
def Sel.job (u : Sel) : Option JobEntry :=
  match u.run with
  | some r => (u.table[r.entry]?).map jobOf
  | none => none

/-- What a line that a job reads is: 0 a line of draft tokens or candidates, 1 of counts, 2 of a target row,
3 of a draft row, with its row and its place. -/
def selKey (what row n : Nat) : Nat := what * 2 ^ 40 + row * 2 ^ 20 + n

/-- The lines that a job reads in its relative tick t, each under its key (R193), where a slot's row is `row`. -/
def JobEntry.readsAt (j : JobEntry) (row : Nat → Nat) (t : Nat) : List (Nat × Nat) :=
  let scan := 16 + j.countLines
  let slot := (t - scan) / (j.rowLines + 4)
  let n := (t - scan) % (j.rowLines + 4)
  let r := row slot
  if t < 16 then
    (if (j.mode = 1 ∨ j.mode = 3) ∧ t = 1 then [(selKey 0 0 0, j.dtok)] else []) ++
      (if j.mode = 2 ∧ 1 ≤ t ∧ t ≤ j.npos then [(selKey 0 (t - 1) 0, j.dtok + (t - 1))] else [])
  else if t < scan then [(selKey 1 0 (t - 16), j.count + (t - 16))]
  else if slot ≤ 2 * j.npos ∧ n < j.rowLines then
    [(selKey 2 r n, j.logit + r * j.rowStep + n)] ++
      (if j.mode = 1 then [(selKey 3 r n, j.dlogit + r * j.rowStep + n)] else [])
  else []


/-- A 4-byte word of a list of lines. -/
def lineWord (lines : Assoc Nat) (what row k : Nat) : Nat :=
  bitsOf (Assoc.get 0 lines (selKey what row (k / 16))) (32 * (k % 16)) 32

/-- Draft token word j of line DTOK_LINE (R191). -/
def SelRun.draft (r : SelRun) (j : Nat) : Nat := lineWord r.lines 0 0 j % 2 ^ 20

/-- Token i of line DTOK_LINE + a in mode 2. -/
def SelRun.nextCand (r : SelRun) (a i : Nat) : Nat := lineWord r.lines 0 a i % 2 ^ 20

/-- Element v of a row, as FP32 bits (R194). -/
def SelRun.logit (r : SelRun) (j : JobEntry) (what row v : Nat) : Nat :=
  let per := if j.fp32 then 16 else 32
  let line := Assoc.get 0 r.lines (selKey what row (v / per))
  if j.fp32 then bitsOf line (32 * (v % 16)) 32 else bitsOf line (16 * (v % 32)) 16 * 2 ^ 16

/-- The counts of the count page that a job uses (R194): entries out of ascending order are ignored. -/
def SelRun.counts (r : SelRun) (j : JobEntry) (c : SelCtx) : List (Nat × Nat) :=
  let words := (List.range (Nat.min j.cmax c.ncount)).map fun k => lineWord r.lines 1 0 k
  (words.zip (none :: words.map some)).filterMap fun e =>
    let keep := match e.2 with
      | some p => decide (e.1 % 2 ^ 20 > p % 2 ^ 20)
      | none => true
    if keep then some (e.1 % 2 ^ 20, bitsOf e.1 20 12) else none

/-- c[v]: the count page's count and the occurrences among earlier tokens. -/
def countOf (counts : List (Nat × Nat)) (tokens : List Nat) (v : Nat) : Nat :=
  (match counts.find? fun e => e.1 = v with
   | some e => e.2
   | none => 0) + (tokens.filter (· = v)).length

/-! ### Distributions and samples (R194) -/

/-- A distribution: its weights, their sum, NaNs met, and whether it is EMPTY. -/
structure Dist where
  w : List Nat
  sum : Nat
  nans : Nat
  empty : Bool

/-- A logit after its penalties and its temperature (R194). -/
def penalise (c : SelCtx) (count z : Nat) : Nat :=
  let z := if isNaN32 z then infBits true else z
  let z := if count > 0 then
      let z := if fless 0 z then fdiv z c.rep else (fmul z c.rep).1
      let z := (fsub z (fmul (intToFP32 count).1 c.freq).1).1
      (fsub z c.pres).1
    else z
  if fless 0 c.temp then fdiv z c.temp else z

/-- The sum of weights in ascending order, from +0. -/
def sumUp (ws : List Nat) : Nat := ws.foldl (fun s w => (fadd s w).1) 0

/-- dist (R194). -/
def distOf (c : SelCtx) (count : Nat → Nat) (row : List Nat) : Dist :=
  let zr := (row.zip (List.range row.length)).map fun e => penalise c (count e.2) e.1
  let m := zr.foldl (fun m z => if fless m z then z else m) (infBits true)
  let point := decide (c.temp % 2 ^ 31 = 0) || decide (m = infBits false) || decide (m = infBits true)
  let first := (zr.zip (List.range zr.length)).find? fun e => feq e.1 m
  let w := if point then
      (List.range zr.length).map fun v => if (first.map (·.2)) = some v then oneBits else 0
    else zr.map fun z => (stageFn 0x0B (fsub z m).1 0).1
  let top := if c.topk = 0 then [] else
    ((zr.zip (List.range zr.length)).foldl (fun l e => (insertRanked false e l).take c.topk) []).map (·.2)
  let w := if c.topk = 0 then w else
    (w.zip (List.range w.length)).map fun e => if top.contains e.2 then e.1 else 0
  { w := w, sum := sumUp w, nans := (row.filter isNaN32).length, empty := decide (m = infBits true) }

/-- sample (R194): the first token whose running sum exceeds U(k) × S, else the last with weight. -/
def sampleOf (c : SelCtx) (w : List Nat) (sum k : Nat) : Nat :=
  let t := (fmul (drawU c k) sum).1
  let go := (w.zip (List.range w.length)).foldl (fun (a : Nat × Nat × Option Nat) e =>
    match a.2.2 with
    | some _ => a
    | none =>
      if fless 0 e.1 then
        let cum := (fadd a.1 e.1).1
        (cum, e.2, if fless t cum then some e.2 else none)
      else a) (0, 0, none)
  go.2.2.getD go.2.1

/-! ### Outcomes (R197) -/

/-- A job's outcome: accepted proposals, tokens in position order, the flags, and what is counted. -/
structure SelOut where
  a : Nat := 0
  tokens : List Nat := []
  count : Nat := 0
  rejected : Bool := false
  empty : Nat := 0
  nans : Nat := 0
  examined : Nat := 0

/-- The distribution of a row of a job, with tokens already accepted. -/
def SelRun.dist (r : SelRun) (j : JobEntry) (c : SelCtx) (what row : Nat) (tokens : List Nat) : Dist :=
  distOf c (countOf (r.counts j c) tokens) ((List.range j.vocab).map fun v => r.logit j what row v)

/-- What a distribution adds to the counts of an outcome. -/
def SelOut.met (o : SelOut) (d : Dist) : SelOut :=
  { o with nans := o.nans + d.nans, empty := o.empty + (if d.empty then 1 else 0) }

/-- A proposal's test (R197): its token, its two distributions, and whether it is kept. -/
structure Trial where
  token : Nat
  p : Dist
  q : Dist
  keep : Bool

/-- The test of proposal `i` with the tokens accepted before it (R197). -/
def SelRun.trial (r : SelRun) (j : JobEntry) (c : SelCtx) (i : Nat) (tokens : List Nat) : Trial :=
  let d := if j.mode = 1 then r.draft i else c.cand.getD i 0
  let p := r.dist j c 2 i tokens
  let prob (q : Dist) : Nat := if d < j.vocab then fdiv (q.w.getD d 0) q.sum else 0
  let q := if j.mode = 1 then r.dist j c 3 i tokens else { w := [], sum := 0, nans := 0, empty := false }
  let qd := if j.mode = 1 then prob q else oneBits
  { token := d, p := p, q := q, keep := fless (fmul (drawU c (4 * (c.pos + 1 + i))) qd).1 (prob p) }

/-- n: the proposals that a job examines at most (R197). -/
def JobEntry.proposals (j : JobEntry) (c : SelCtx) : Nat := if c.mode = j.mode then Nat.min c.d (j.npos - 1) else 0

/-- The proposal that a job has rejected before scan slot `slot`, from proposal `i` on with `left` left: its two slots have
been read (R193, R197). -/
def SelRun.rejectedBy (r : SelRun) (j : JobEntry) (c : SelCtx) (slot : Nat) : Nat → Nat → List Nat → Option Nat
  | 0, _, _ => none
  | left + 1, i, tokens =>
    if slot ≤ 2 * i + 1 then none
    else
      let x := r.trial j c i tokens
      if x.keep then r.rejectedBy j c slot left (i + 1) (tokens ++ [x.token]) else some i

/-- The row that a scan slot reads (R193, R197): two slots for each proposal's distributions, two more for the row of a
rejected one, three for the row after the last accepted one, and row 0 in every slot that the outcome leaves unused. -/
def SelRun.slotRow (r : SelRun) (j : JobEntry) (slot : Nat) : Nat :=
  let c := selCtx r.params
  if r.bubble || j.mode = 0 || j.mode = 3 then 0
  else
    let n := j.proposals c
    match r.rejectedBy j c slot n 0 [] with
    | some i => if slot < 2 * i + 4 then i else 0
    | none => if slot < 2 * n + 3 then Nat.min (slot / 2) n else 0

/-- The lines that a unit reads in frame tick u, each under its key; a job in abort mode is a bubble (R192, R193). -/
def Sel.readsAt (x : Sel) (muted : Bool) (u : Nat) : List (Nat × Nat) :=
  match x.run, x.job with
  | some r, some j => if j.tick ≤ u then j.readsAt (if muted then fun _ => 0 else r.slotRow j) (u - j.tick) else []
  | _, _ => []

/-- Modes 1 and 2 from proposal `i` on, with `left` proposals left (R197). -/
def SelRun.verify (r : SelRun) (j : JobEntry) (c : SelCtx) : Nat → Nat → SelOut → SelOut
  | 0, _, o =>
    let p := r.dist j c 2 o.a o.tokens
    let t := sampleOf c p.w p.sum (4 * (c.pos + 1 + o.a) + 1)
    { o.met p with tokens := o.tokens ++ [t] }
  | left + 1, i, o =>
    let x := r.trial j c i o.tokens
    let o := { (o.met x.p).met x.q with examined := o.examined + 1 }
    if x.keep then r.verify j c left (i + 1) { o with a := o.a + 1, tokens := o.tokens ++ [x.token] }
    else
      let rest := (List.range j.vocab).map fun v =>
        let pv := fdiv (x.p.w.getD v 0) x.p.sum
        if j.mode = 1 then
          let e := (fsub pv (fdiv (x.q.w.getD v 0) x.q.sum)).1
          if fless 0 e then e else 0
        else if v = x.token then 0 else pv
      let sum := sumUp rest
      let k := 4 * (c.pos + 1 + i) + 1
      let t := if feq sum 0 then sampleOf c x.p.w x.p.sum k else sampleOf c rest sum k
      { o with tokens := o.tokens ++ [t], rejected := true }

/-- A job's outcome (R197). -/
def SelRun.outcome (r : SelRun) (j : JobEntry) (c : SelCtx) : SelOut :=
  match j.mode with
  | 0 =>
    if c.sample then
      let p := r.dist j c 2 0 []
      let o := ({} : SelOut).met p
      { o with tokens := [sampleOf c p.w p.sum (4 * (c.pos + c.adv) + 1)], count := 1 }
    else {}
  | 3 =>
    let p := r.dist j c 2 0 ((List.range (j.dstep - 1)).map r.draft)
    let o := ({} : SelOut).met p
    { o with tokens := [sampleOf c p.w p.sum (4 * (c.pos + j.dstep) + 2)], count := 1 }
  | _ =>
    let o := r.verify j c (j.proposals c) 0 {}
    { o with count := o.a + 1 }

end Sys2Proof.Machine
end

