-- ==== Sys2Proof/Machine/Ticks.lean ====
section
/-! DEFINITION. The cores' ticks (R79, R85, R89, R103 to R131, R150, R168 to R170, R381): what every core
does in one tick of a frame, and how the frame's time goes on to a later tick. -/
namespace Sys2Proof.Machine

/-! ### Spans -/

/-- L: the array's latency (R109). -/
def passLat (split : Bool) : Nat := if split then 32 else 64

/-- The tick after a pass's last input tick. -/
def Pass.inputEnd (p : Pass) : Nat := p.issue + p.kt

/-- C: a pass's completion tick (R109). -/
def Pass.doneAt (p : Pass) : Nat := p.issue + p.kt + passLat p.split

/-- A VRUN's completion tick (R95, R117). -/
def VRun.doneAt (v : VRun) : Nat := v.issue + v.len + 8 + (if v.rmode = 0 then 0 else 2)

/-! ### The accesses of a tick (R108, R123, R127, R169, R193, R243) -/

/-- The lines that a pass reads in tick u: operand B or not, kind and line. -/
def Pass.feeds (p : Pass) (u : Nat) : List (Bool × Nat × Nat) :=
  if p.issue ≤ u ∧ u < p.inputEnd then
    let r4 := pairRate4 p.fmtA p.fmtB
    let k := passK p.kt r4
    (operandReads p.fmtA p.split r4 k (u - p.issue)).map (fun e => (false, e.1, e.2)) ++
      (operandReads p.fmtB p.split r4 k (u - p.issue)).map (fun e => (true, e.1, e.2))
  else []

/-- A pass's accesses in tick u (R108, R169). -/
def Pass.accesses (p : Pass) (eng u : Nat) : List BankAccess :=
  (p.feeds u).map fun e =>
    { cls := 1, issued := p.issue, unit := eng, pc := p.pc, kind := (if e.1 then 2 else 0) + e.2.1,
      line := (if e.1 then p.lineB else p.lineA) + e.2.2 }

/-- The first slot at or after a Groundsheet tick whose position a mask owns (R207, R243). -/
def nextSlot (mask t : Nat) : Nat :=
  let k0 := ceilDiv t 4
  match (List.range 16).find? fun i => mask.testBit ((k0 + i) % 16) with
  | some i => 4 * (k0 + i)
  | none => 4 * k0

/-- The image of the active variant. -/
def State.activeImage (s : State) : List Byte :=
  match s.plan.active with
  | some v => (s.variant v).image
  | none => []

/-- The active variant is a four-chip image, whose routes are rings within the package (R365, R366). -/
def State.ringMode (s : State) : Bool := (header s.activeImage).fourChip

/-- The route entries of the active variant that use Klonak ports: none of a four-chip image (R366). -/
def State.portRoutes (s : State) : List Route := if s.ringMode then [] else routes s.activeImage

/-- Route entry `r` of the active variant (R241). -/
def State.route (s : State) (r : Nat) : Route := routeEntry s.activeImage r

/-- The lines of the stream that flit f carries (R243), at `cap` bytes a flit. -/
def flitLines (cap f : Nat) : List Nat := linesOf (cap * f) cap

/-- The lines that a SEND reads at a Groundsheet tick: line i of flit f at 8 - i ticks before its slot. -/
def SendSt.readsAt (x : SendSt) (mask gst : Nat) : List Nat :=
  let one (f slot : Nat) : List Nat :=
    if slot ≤ gst + 8 then
      match (flitLines x.cap f)[gst + 8 - slot]? with
      | some l => if f < x.count then [l] else []
      | none => []
    else []
  if x.fixed.isSome then [] else one x.sent x.slot ++ one (x.sent + 1) (nextSlot mask (x.slot + 4))

/-- The accesses of the selection unit that serves core c, in tick u: after every queue's (R193). -/
def State.selAccesses (s : State) (c u : Nat) : List BankAccess :=
  let x := Assoc.get ({} : Sel) s.srv.sel (c / 16)
  match x.job with
  | some j =>
    if j.core = c % 16 then
      (x.readsAt (s.mutedAt u) u).map fun l => { cls := 5, issued := j.tick, unit := c / 16, kind := 0, line := l.2 }
    else []
  | none => []

/-- The engines of a core, with their numbers. -/
def Core.engine (k : Core) (e : Nat) : Engine := Assoc.get {} k.engines e

/-- The state of a core's engine replaced. -/
def Core.setEngine (k : Core) (e : Nat) (x : Engine) : Core := { k with engines := Assoc.put {} k.engines e x }

/-- What a core's DMA channels show of the last frame's work, of which nothing is left (R177). -/
def Core.idleDma (k : Core) : Assoc DmaCh :=
  (k.dma.filter fun e => decide (e.1 < 16)).foldl (fun m e =>
    Assoc.put {} m e.1 { ({} : DmaCh) with prio := e.2.prio, lastLand := e.2.lastLand }) []

/-- The sends of a core: route and state. -/
def Core.sendList (k : Core) : List (Nat × SendSt) := k.sends.filterMap fun e => e.2.map fun x => (e.1, x)

/-- The accesses that one core's units make by themselves in tick u: feeds, chains, port reads. -/
def State.unitAccesses (s : State) (k : Core) (u : Nat) : List BankAccess :=
  (k.engines.flatMap fun e => e.2.passes.flatMap fun p => p.accesses e.1 u) ++
  (k.engines.flatMap fun e => e.2.vruns.flatMap fun v => v.accesses e.1 u) ++
  (k.sendList.flatMap fun e =>
    (e.2.readsAt (s.route e.1).posMask (s.frame.start + u)).map fun l =>
      { cls := 4, issued := e.2.issue, unit := e.1, pc := e.2.pc, kind := 0, line := e.2.line + l })

/-- Every access to core c's banks in tick u (R169). -/
def State.bankAccesses (s : State) (c : Nat) (k : Core) (u : Nat) : List BankAccess :=
  k.accesses ++ (k.reads.filter (fun r => r.tick ≤ u)).map (·.acc) ++
    (k.writes.filter (fun w => w.tick ≤ u)).map (·.acc) ++ s.unitAccesses k u ++ s.selAccesses c u

/-! ### The faults of a tick -/

/-- A fault found as a tick ends: queue, pc, cause, UNIT and DETAIL. -/
structure TickFault where
  queue : Nat := 7
  pc : Nat := 0xFFFFFFFF
  cause : Nat
  unit : Nat := 0xFFFF
  detail : Nat

/-- BANK_CONFLICT, once for each bank in conflict (R169). -/
def conflictFaults (all : List BankAccess) : List TickFault :=
  (refusedBanks all).map fun a => { cause := 0x11, unit := bankOf a.line, detail := a.line }

/-- ECC_DATA of an access (R71, R170): the queue and the PC of its instruction where its core has one, the engine,
channel or route as UNIT, and the byte address as DETAIL. -/
def BankAccess.eccFault (a : BankAccess) (addr : Nat) : TickFault :=
  { queue := if a.pc = 0xFFFFFFFF then 7 else a.cls, pc := a.pc, cause := 0x0E,
    unit := if a.cls = 3 then a.unit % 16 else a.unit, detail := addr }

/-- ECC_DATA on what the units read and write in tick u (R170). -/
def State.eccFaults (s : State) (c : Nat) (k : Core) (u : Nat) : List TickFault :=
  if k.badWords.isEmpty then []
  else
    (((s.unitAccesses k u ++ s.selAccesses c u).filter fun a =>
        (decide (a.cls ≠ 2) || decide (a.kind ≤ 2)) && spadBad k (64 * a.line) 64).map fun a =>
      a.eccFault (64 * a.line)) ++
    ((k.reads.filter fun r => decide (r.tick ≤ u) && spadBad k r.addr r.len).map fun r =>
      r.acc.eccFault r.addr) ++
    ((k.writes.filter fun w => decide (w.tick ≤ u) && spadWriteBad k w.addr w.bytes.length).map fun w =>
      w.acc.eccFault w.addr) ++
    (k.engines.flatMap fun e => e.2.vruns.flatMap fun v =>
      let spans := (match v.outRow u with
        | some n => v.outSpans n ++ (match v.scaleSpan n with
          | some (a, _, m) => [(a, m)]
          | none => [])
        | none => []) ++ (match v.redRow u with
        | some n => (v.redSpan n).toList
        | none => [])
      (if v.bubble then [] else spans.filter fun x => spadWriteBad k x.1 x.2).map fun x =>
        { queue := 2, pc := v.pc, cause := 0x0E, unit := e.1, detail := x.1 })

/-- The signals that tick u adds to token `id`. -/
def tokenSum (agenda : List (Nat × Effect)) (u id : Nat) : Nat :=
  agenda.foldl (fun a e =>
    if e.1 ≤ u then
      match e.2 with
      | .tokenAdd _ _ i n => if i = id then a + n else a
      | _ => a
    else a) 0

/-- The credits that tick u adds to a pool. -/
def creditSum (agenda : List (Nat × Effect)) (u pool : Nat) : Nat :=
  agenda.foldl (fun a e =>
    if e.1 ≤ u then
      match e.2 with
      | .creditAdd i n => if i = pool then a + n else a
      | _ => a
    else a) 0

/-- What the checks of a tick leave: the counters, the pools and the faults found (R69, R89, R90). -/
structure Checks where
  tokens : Assoc Nat
  credits : Assoc Nat
  faults : List TickFault := []

/-- The tokens of a mask. -/
def maskTokens (mask : Nat) : List Nat := (List.range 32).filter fun j => mask.testBit j

/-- BARRIER_STALL of a BAR (R89): t31 in UNIT, the others in DETAIL. -/
def barFault (q pc : Nat) (missing : List Nat) : TickFault :=
  { queue := q, pc := pc, cause := 0x02, unit := if missing.contains 31 then 1 else 0,
    detail := ((missing.filter fun j => decide (j < 31)).map fun j => 2 ^ j).sum }

/-- One check: it consumes what it asks for, or finds a fault and consumes nothing (R89). -/
def Checks.step (c : Checks) (e : Effect) : Checks :=
  match e with
  | .tokenWait q pc id n =>
    if Assoc.get 0 c.tokens id < n then { c with faults := c.faults ++ [{ queue := q, pc := pc, cause := 0x01, detail := id }] }
    else { c with tokens := Assoc.put 0 c.tokens id (Assoc.get 0 c.tokens id - n) }
  | .tokenBar q pc mask =>
    let missing := (maskTokens mask).filter fun j => decide (Assoc.get 0 c.tokens j = 0)
    if missing.isEmpty then
      { c with tokens := (maskTokens mask).foldl (fun m j => Assoc.put 0 m j (Assoc.get 0 m j - 1)) c.tokens }
    else { c with faults := c.faults ++ [barFault q pc missing] }
  | .creditTake q pc pool =>
    if Assoc.get 0 c.credits pool = 0 then
      { c with faults := c.faults ++ [{ queue := q, pc := pc, cause := 0x04, detail := pool }] }
    else { c with credits := Assoc.put 0 c.credits pool (Assoc.get 0 c.credits pool - 1) }
  | _ => c

/-- The queue of a check. -/
def Effect.checkQueue (e : Effect) : Option Nat :=
  match e with
  | .tokenWait q _ _ _ => some q
  | .tokenBar q _ _ => some q
  | .creditTake q _ _ => some q
  | _ => none

/-- The checks of tick u, in the queues' order S, M, V, D, X: each consumes from what the earlier ones have left (R89). -/
def Core.checks (k : Core) (u : Nat) : Checks :=
  (List.range 5).foldl (fun c q =>
    ((k.agenda.filter fun e => decide (e.1 ≤ u) && decide (e.2.checkQueue = some q)).map (·.2)).foldl Checks.step c)
    { tokens := k.tokens, credits := k.credits }

/-- The tokens that the additions of tick u take past 255 (R89). -/
def Core.overTokens (k : Core) (u : Nat) : List Nat :=
  if k.agenda.isEmpty then []
  else (List.range 32).filter fun id =>
    let add := tokenSum k.agenda u id
    decide (0 < add) && decide (255 < Assoc.get 0 (k.checks u).tokens id + add)

/-- The credit pools that the additions of tick u take past 255 (R90). -/
def Core.overPools (k : Core) (u : Nat) : List Nat :=
  if k.agenda.isEmpty then []
  else (List.range 15).filter fun p =>
    let add := creditSum k.agenda u p
    decide (0 < add) && decide (255 < Assoc.get 0 (k.checks u).credits p + add)

/-- TOKEN_OVERFLOW of the additions of tick u (R89, R90). -/
def Core.overflowFaults (k : Core) (u : Nat) : List TickFault :=
  ((k.overTokens u).map fun id =>
    let src := k.agenda.findSome? fun e => match e.2 with
      | .tokenAdd q pc i _ => if e.1 ≤ u ∧ i = id then some (q, pc) else none
      | _ => none
    { queue := (src.getD (7, 0xFFFFFFFF)).1, pc := (src.getD (7, 0xFFFFFFFF)).2, cause := 0x03, detail := id }) ++
  (k.overPools u).map fun p => { cause := 0x03, detail := 2 ^ 30 + p }

/-- What overflows stands at 255 (R89, R90), also where the overflow's own tick is the abort tick (log 59). -/
def Core.saturate (k : Core) (u : Nat) : Core :=
  { k with tokens := (k.overTokens u).foldl (fun m id => Assoc.put 0 m id 255) k.tokens,
           credits := (k.overPools u).foldl (fun m p => Assoc.put 0 m p 255) k.credits }

/-- BRANCH_UNBALANCED of the JOINs of tick u (R92). -/
def Core.joinFaults (k : Core) (u : Nat) : List TickFault :=
  k.agenda.filterMap fun e => match e.2 with
    | .unbalanced q pc dt ds =>
      if e.1 ≤ u then some { queue := q, pc := pc, cause := 0x12, detail := dt % 2 ^ 16 + 2 ^ 16 * (ds % 256) } else none
    | _ => none

/-- REGION_ASLEEP when an access reaches the scratchpad of a sleeping region (R320). -/
def State.asleepFaults (s : State) (c : Nat) (all : List BankAccess) (u : Nat) : List TickFault :=
  match (s.region (s.regionOfCore c)).sleep, all with
  | some (start, stop, _), a :: _ =>
    if start ≤ u ∧ u < stop then [{ cause := 0x1E, detail := a.line }] else []
  | _, _ => []

/-- A core without the passes and chain runs that run as bubbles (R382): a bubble takes no data in, so it meets no bad word
(log 45). -/
def Core.solid (k : Core) : Core :=
  { k with engines := k.engines.map fun e =>
      (e.1, { e.2 with passes := e.2.passes.filter (!·.bubble), vruns := e.2.vruns.filter (!·.bubble) }) }

/-- The faults of core c's tick u that its accesses raise, those of bubbles too (R88, R169, R320, R381). -/
def State.accessFaults (s : State) (c : Nat) (k : Core) (u : Nat) : List TickFault :=
  let all := s.bankAccesses c k u
  conflictFaults all ++ s.asleepFaults c all u

/-- The faults of core c's tick u: those of its accesses, and, outside abort mode, of its checks, its data and its counters. -/
def State.tickFaults (s : State) (c : Nat) (k : Core) (u : Nat) : List TickFault :=
  if s.mutedAt u then s.accessFaults c k u
  else (k.checks u).faults ++ s.accessFaults c k u ++ s.eccFaults c k.solid u ++ k.overflowFaults u

/-! ### Charges (R74) -/

/-- What core c's region is charged for tick u, beside its static charge. -/
def State.tickCharge (s : State) (c : Nat) (k : Core) (u : Nat) : Nat :=
  let acc := accessCount (s.bankAccesses c k u)
  20 * acc +
  (k.engines.map fun e =>
    (e.2.passes.map fun p =>
      if p.issue ≤ u ∧ u < p.inputEnd then passCharge (pairRate4 p.fmtA p.fmtB) p.split else 0).sum +
    (e.2.vruns.map fun v =>
      (if v.issue ≤ u ∧ u ≤ v.issue + v.len + 7 then 120 else 0) +
      (if v.rmode ≠ 0 ∧ v.issue + 9 ≤ u ∧ u ≤ v.issue + v.len + 9 then 20 else 0)).sum).sum

/-! ### What the end of a tick does -/

/-- A pass takes in the lines it reads in tick u (R108). -/
def Pass.take (p : Pass) (k : Core) (u : Nat) : Pass :=
  (p.feeds u).foldl (fun p e =>
    if e.1 then { p with dataB := Assoc.put 0 p.dataB e.2.2 (spadLine k (p.lineB + e.2.2)) }
    else { p with dataA := Assoc.put 0 p.dataA e.2.2 (spadLine k (p.lineA + e.2.2)) }) p

/-- A pass's tick: what it reads, and the elements that its cells add (R103, R109). -/
def Pass.tick (p : Pass) (k : Core) (eng u : Nat) : Pass × List (Nat × Effect) :=
  if p.bubble ∨ ¬ (p.issue ≤ u ∧ u < p.inputEnd) then (p, [])
  else
    let p := p.take k u
    (stepsAt p (u - p.issue)).foldl (fun a step =>
      let (cells, fs) := cellsStep a.1 step.1 step.2
      ({ a.1 with cells := cells }, a.2 ++ flagEffects a.1 eng u fs)) (p, [])

/-- Element j of a row of elements stored from a byte address (R124). -/
def rowElems (k : Core) (addr width : Nat) : List Nat :=
  let v := natOfBytes (spadBytes k addr (4 * width))
  (List.range 32).map fun j => bitsOf v (j * width) width

/-- The intake of row n (R123, R124): the run with its operands, the raw elements, the FP32 row and the
flags. -/
def VRun.intakeTick (v : VRun) (k : Core) (x : Engine) (n : Nat) : VRun × List Nat × List Nat × Nat :=
  let line16 (l : Nat) : List Nat := rowElemsOf (spadLine k l)
  let v := if cfgUses v.word 2 && decide (n % 16 = 0) then
      { v with rowOps := Assoc.putRange 0 v.rowOps n (line16 (v.rowLine + n / 16)) } else v
  let v := if cfgUses v.word 3 && decide (n = 0) then
      { v with laneOps := Assoc.putRange 0 [] 0 (line16 (cfgLaneLine v.word) ++ line16 (cfgLaneLine v.word + 1)) } else v
  if v.src = 0 then
    let raw := rowElems k (64 * v.lineSrc + n * inRowBytes v.inFmt) (codeWidth v.inFmt)
    let rs := raw.map (intake v.inFmt)
    (v, raw, rs.map (·.1), rs.foldl (fun f r => f ||| r.2) 0)
  else
    let bank := if v.src = 1 then x.bank0 else x.bank1
    let int := decide (v.inFmt = 14)
    let raw := (List.range 32).map fun j => cellAt bank n j
    let rs := raw.map fun b => if int then intToFP32 (signedOf b 32) else (b, 0)
    (v, raw, rs.map (·.1), rs.foldl (fun f r => f ||| r.2) 0)
where
  /-- The sixteen 32-bit words of a line. -/
  rowElemsOf (l : Nat) : List Nat := (List.range 16).map fun i => bitsOf l (32 * i) 32

/-- An element as a copy writes it (R121, R134): the six bits of E2M3 and E3M2, whose bits [7:6] are written as 0. -/
def copied (fmt e : Nat) : Nat := if fmt = 5 ∨ fmt = 6 then e % 64 else e

/-- A VRUN's tick (R117): the row at intake goes through its stages, the row that leaves them is converted
and written, and the reduction unit forms a row's result. The result holds the run, the flags by tick and
the writes. -/
def VRun.tick (v : VRun) (k : Core) (x : Engine) (core eng u : Nat) :
    VRun × List (Nat × Effect) × List (Nat × List Byte) :=
  if v.bubble then (v, [], [])
  else
    let flag (t f : Nat) : List (Nat × Effect) := if f = 0 then [] else [(t, .flags eng true f)]
    let copies := cfgCopies v.word
    let (v, fl) := match v.intakeRow u with
      | none => (v, [])
      | some n =>
        let (v, raw, row, f) := v.intakeTick k x n
        let (row, fs) := v.stageRows n 8 0 row
        let v := { v with rows := Assoc.put [] v.rows n row,
                          outs := if copies then Assoc.put [] v.outs n (raw.map (copied v.inFmt)) else v.outs }
        (v, (if copies ∧ v.rmode = 0 then [] else flag u f) ++
          (((List.range 8).zip fs).flatMap fun (e : Nat × Nat) => flag (u + 1 + e.1) e.2))
    let (v, fl, ws) := match v.outRow u with
      | none => (v, fl, [])
      | some n =>
        let row := Assoc.get [] v.rows n
        let (v, fl) :=
          if copies then (v, fl)
          else
            let (out, scale, f) := v.convertRow core eng n row
            ({ v with outs := Assoc.put [] v.outs n out, scales := Assoc.put 0 v.scales n scale },
             fl ++ flag u f)
        let ws := ((v.outSpans n).zip (v.outBytes v.outs n)).map fun (e : (Nat × Nat) × List Byte) => (e.1.1, e.2)
        let sc := match v.scaleSpan n with
          | some (a, first, m) => [(a, (List.range m).map fun i => byteOf (Assoc.get 0 v.scales (first + i)) 0)]
          | none => []
        (v, fl, ws ++ sc)
    match v.redRow u with
    | none => (v, fl, ws)
    | some n =>
      let (v, f) := v.reduceRow n (Assoc.get [] v.rows n)
      let bytes := match v.redSpan n with
        | some (a, m) => [(a, v.redBytes.take m)]
        | none => []
      let v := match v.redSpan n with
        | some (_, m) => if cfgWhole v.word then v else { v with redBytes := v.redBytes.drop m }
        | none => v
      (v, fl ++ flag u f, ws ++ bytes)

/-- An engine's tick: its passes and its runs; the flags and the writes that come of them. A pass tags its bank at its issue
tick (R113, R115). -/
def Engine.tick (x : Engine) (k : Core) (core eng u : Nat) :
    Engine × List (Nat × Effect) × List (Nat × List Byte) :=
  let ps := x.passes.map fun p => p.tick k eng u
  let vs := x.vruns.map fun v => v.tick k x core eng u
  let x := (x.passes.filter fun p => decide (p.issue = u) && !p.bubble).foldl (fun x p =>
    if p.bank then { x with tag1 := pairInt p.fmtA p.fmtB } else { x with tag0 := pairInt p.fmtA p.fmtB }) x
  ({ x with passes := ps.map (·.1), vruns := vs.map (·.1) },
   ps.flatMap (·.2) ++ vs.flatMap (·.2.1), vs.flatMap (·.2.2))

/-- A SEND takes in the lines it reads (R243). -/
def SendSt.take (x : SendSt) (k : Core) (mask gst : Nat) : SendSt :=
  (x.readsAt mask gst).foldl (fun x l => { x with lines := Assoc.put 0 x.lines l (spadLine k (x.line + l)) }) x

/-- One deferred effect stands (R85, R89, R118, R150). What the checks consume is taken before (Core.checks). -/
def Core.applyEffect (k : Core) (e : Effect) : Core :=
  match e with
  | .sreg _ r v => { k with sregs := Assoc.put 0 k.sregs r (v % 2 ^ 64) }
  | .tokenAdd _ _ id n => { k with tokens := Assoc.put 0 k.tokens id (Nat.min 255 (Assoc.get 0 k.tokens id + n)) }
  | .tokenWait _ _ _ _ => k
  | .tokenBar _ _ _ => k
  | .creditAdd p n => { k with credits := Assoc.put 0 k.credits p (Nat.min 255 (Assoc.get 0 k.credits p + n)) }
  | .creditTake _ _ _ => k
  | .unbalanced _ _ _ _ => k
  | .pendCredit r p n =>
    let n := Nat.min 255 (Assoc.get 0 k.pendCredits (16 * r + p) + n)
    { k with pendCredits := Assoc.put 0 k.pendCredits (16 * r + p) n }
  | .cslot c w => { k with cslots := Assoc.put identityWord k.cslots c w }
  | .flags e chain b => { k with flags := raiseFlags k.flags e chain b }

/-- Where an effect stands in the order of a tick's end: of two writes to one register the earlier queue's comes last and prevails (R85). -/
def Effect.rank : Effect → Nat
  | .tokenWait _ _ _ _ => 0
  | .tokenBar _ _ _ => 0
  | .creditTake _ _ _ => 0
  | .unbalanced _ _ _ _ => 0
  | .tokenAdd _ _ _ _ => 1
  | .creditAdd _ _ => 1
  | .pendCredit _ _ _ => 1
  | .cslot _ _ => 1
  | .flags _ _ _ => 1
  | .sreg q _ _ => 8 - q

/-- The effects of tick u stand, in their order: what is consumed goes before what is added (R89). -/
def Core.applyAgenda (k : Core) (u : Nat) : Core :=
  let now := (k.agenda.filter fun e => e.1 ≤ u).map (·.2)
  let k := { k with tokens := (k.checks u).tokens, credits := (k.checks u).credits, agenda := k.agenda.filter fun e => e.1 > u }
  (List.range 9).foldl (fun k r => (now.filter fun e => e.rank = r).foldl (fun k e => k.applyEffect e) k) k

/-- A core at the end of tick u in which nothing is suppressed. -/
def State.endCore (s : State) (c : Nat) (k : Core) (u : Nat) : Core :=
  let es := k.engines.map fun e => (e.1, e.2.tick k c e.1 u)
  let sends := k.sends.map fun e => (e.1, e.2.map fun x => x.take k (s.route e.1).posMask (s.frame.start + u))
  let fx := es.flatMap fun e => e.2.2.1
  let ws := es.flatMap fun e => e.2.2.2
  let k' := { k with engines := es.map (fun e => (e.1, e.2.1)), sends := sends, agenda := k.agenda ++ fx }
  let k' := (k.writes.filter fun w => w.tick ≤ u).foldl (fun k w => spadWrite k w.addr w.bytes) k'
  let k' := ws.foldl (fun k w => spadWrite k w.1 w.2) k'
  k'.applyAgenda u

/-- What a tick leaves behind on a core: its registered accesses and past reads, writes and effects go. -/
def Core.clearTick (k : Core) (u : Nat) : Core :=
  { k with accesses := [], reads := k.reads.filter (fun r => r.tick > u),
           writes := k.writes.filter (fun w => w.tick > u), agenda := k.agenda.filter (fun e => e.1 > u) }

/-- The pieces of the DMA engines take the bytes that tick u reads for them (R173). -/
def State.takeReads (s : State) (k : Core) (u : Nat) : State :=
  (k.reads.filter fun r => r.tick ≤ u).foldl (fun s r =>
    let o := s.core r.owner
    s.setCore r.owner { o with pieces := o.pieces.map fun p =>
      if p.ch = r.ch ∧ p.index = r.index then { p with data := spadBytes k r.addr r.len } else p }) s

/-- What a bank's cells have of a pass by the end of the tick before abort tick a (R109, R115): a cell that the pass's first
element has reached starts from what it held or from zero, and adds what has reached it; the others are as they were. -/
def Pass.reached (p : Pass) (base : List Nat) (a : Nat) : List Nat :=
  (List.range 1024).map fun n =>
    let (_, i, j) := cellPlace p.split (n / 32) (n % 32)
    let held := cellAt base (n / 32) (n % 32)
    if a ≤ p.issue + i + j then held
    else
      let start := if p.acc then held else 0
      if p.mask.testBit (n / 32) then start
      else ((List.range (Nat.min p.kt (a - p.issue - i - j))).flatMap (stepsAt p)).foldl
        (fun b e => (cellStep p (n / 32) (n % 32) e.1 e.2 b).1) start

/-- Each bank keeps what its passes had accumulated before abort tick a, and they complete nothing more (R115, R381). -/
def Engine.abortPasses (x : Engine) (a : Nat) : Engine :=
  let x := (x.passes.filter fun p => !p.bubble).foldl (fun x p =>
    if p.bank then { x with bank1 := p.reached x.bank1 a } else { x with bank0 := p.reached x.bank0 a }) x
  { x with passes := x.passes.map fun p => { p with bubble := true } }

/-- A branch that a queue opened in abort tick a takes arm F (R93). -/
def QueueSt.abortBranch (q : QueueSt) (a : Nat) : QueueSt :=
  match q.branches with
  | b :: bs =>
    match b.armEnd with
    | some f => if b.tBrb = a then { q with pc := f, branches := { b with armEnd := none } :: bs } else q
    | none => q
  | [] => q

/-- What a core's work becomes in the abort tick (R93, R115, R381). -/
def Core.abortWork (k : Core) (a : Nat) : Core :=
  { k with engines := k.engines.map fun e => (e.1, e.2.abortPasses a),
           queues := k.queues.map fun e => (e.1, e.2.abortBranch a) }

/-- The passes and runs that are complete by tick t leave their results (R109, R130): a pass's cells become
its bank's, a reduction's result becomes the engine's. -/
def Engine.settle (x : Engine) (t : Nat) (dead : Bool) : Engine :=
  let x := (x.passes.filter fun p => p.doneAt ≤ t).foldl (fun x p =>
    if p.bubble ∨ dead then x
    else
      let cells := if p.cells.isEmpty then List.replicate 1024 0 else p.cells
      if p.bank then { x with bank1 := cells } else { x with bank0 := cells }) x
  let x := (x.vruns.filter fun v => v.doneAt ≤ t).foldl (fun x v =>
    if v.bubble ∨ dead ∨ v.rmode = 0 then x else { x with resVal := v.lastVal, resIdx := v.lastIdx }) x
  { x with passes := x.passes.filter (fun p => p.doneAt > t), vruns := x.vruns.filter fun v => v.doneAt > t }

/-- Every engine of a core settles. -/
def Core.settle (k : Core) (t : Nat) (dead : Bool) : Core :=
  { k with engines := k.engines.map fun e => (e.1, e.2.settle t dead) }

/-- Selection unit `u`. -/
def State.selUnit (s : State) (u : Nat) : Sel := Assoc.get {} s.srv.sel u

/-- The state with a selection unit replaced. -/
def State.setSel (s : State) (u : Nat) (x : Sel) : State := { s with srv := { s.srv with sel := Assoc.put {} s.srv.sel u x } }

/-- A running job takes in the lines it reads in tick u, each when it is first read (R193). -/
def State.captureSel (s : State) (unit u : Nat) : State :=
  let x := s.selUnit unit
  match x.run, x.job with
  | some r, some j =>
    if r.bubble ∨ u < j.tick then s
    else
      let k := s.core (16 * unit + j.core)
      let lines := (x.readsAt false u).foldl (fun m e =>
        if (Assoc.find m e.1).isSome then m else Assoc.insert m e.1 (spadLine k e.2)) r.lines
      s.setSel unit { x with run := some { r with lines := lines } }
  | _, _ => s

/-- The cores that are listed, in order. -/
def State.coreIds (s : State) : List Nat := s.cores.map (·.1)

/-- Accesses of a selection unit that cross the bridge to a die (R190): MEM_BUDGET beyond the budget. -/
def State.selCross (s : State) (unit c dir n u : Nat) : State :=
  if n = 0 then s
  else
    let (excess, s) := s.arrive (s.frame.start + u) [s.bridgeBudget dir (64 * n)]
    match excess with
    | some b => s.coreFault c 7 0xFFFFFFFF 0x1A unit b u
    | none => s

/-- The bridge bytes of a selection unit whose cores lie on the other die (R190): its reads towards the unit, and its result
records towards the cores. -/
def State.selBridge (s : State) (unit u : Nat) : State :=
  let x := s.selUnit unit
  let s := match x.job with
    | some j =>
      let c := 16 * unit + j.core
      if dieOf (s.regionOfCore c) = unit / 8 then s else s.selCross unit c (unit / 8) (x.readsAt (s.mutedAt u) u).length u
    | none => s
  (s.coreIds.filter fun c => decide (c / 16 = unit)).foldl (fun s c =>
    let n := ((s.core c).writes.filter fun w => decide (w.tick ≤ u) && decide (w.acc.cls = 5)).length
    if n = 0 ∨ dieOf (s.regionOfCore c) = unit / 8 then s else s.selCross unit c (1 - unit / 8) n u) s

/-- One access of the tick in its order (R159, R160): a read gives its piece the bytes, and an uncorrectable burst raises
ECC_DATA. The writes before it stand in the memory that it meets. -/
def State.meetAcc (u : Nat) (s : State) (a : SchedAcc) : State :=
  let fault (s : State) (bad : Bool) : State := if bad then s.coreFault a.core 3 a.pc 0x0E (a.ch % 16) a.off u else s
  match a.read with
  | some n =>
    let (bs, bad, s) := s.burstRead a.off n a.tweak true
    let k := s.core a.core
    fault (s.setCore a.core { k with pieces := k.pieces.map fun p =>
      if p.ch = a.ch ∧ p.index = a.index then { p with data := bs } else p }) bad
  | none =>
    if a.svc then s
    else
      let (bad, s) := s.memWrite a.off a.bytes a.tweak true
      fault s bad

/-- The tick's scheduled accesses meet memory in their order, which leaves memory itself as it was until they stand (R159). -/
def State.judgeSched (s : State) (u : Nat) : State :=
  if s.mem.sched.isEmpty then s
  else
    let m := s.mem
    let s := m.sched.foldl (State.meetAcc u) s
    { s with mem := { s.mem with cells := m.cells, tweaks := m.tweaks, badBursts := m.badBursts } }

/-- The charges and the faults of tick u on every core (R71, R74): what a JOIN found is a fault only where the tick has no
other, since JOIN is not checked in abort mode (R93). -/
def State.judgeTick (s : State) (u : Nat) : State :=
  let muted := s.mutedAt u
  let s := s.judgeSched u
  let before := s.cores
  let s := s.coreIds.foldl (fun s c =>
    let k := s.core c
    let acc := s.bankAccesses c k u
    let s := (s.chargeAt (s.regionOfCore c) u (s.tickCharge c k u)).tel 8 (accessCount acc)
    (s.tickFaults c k u).foldl (fun s f => s.coreFault c f.queue f.pc f.cause f.unit f.detail u) s) s
  if muted then s
  else
    let s := (List.range 16).foldl (fun s i => s.selBridge i u) s
    let s := before.foldl (fun s e => (e.2.joinFaults u).foldl (fun s f =>
      if s.abortedAt u then s else s.coreFault e.1 f.queue f.pc f.cause f.unit f.detail u) s) s
    if s.abortedAt u then s.mapCores fun k => k.saturate u else s

/-- One tick of every core: its accesses, their faults and charges, and, unless the tick is suppressed (R381), the effects;
in the abort tick what is in progress becomes a bubble; then the frame's time goes on. -/
def State.doTick (s : State) : State :=
  let u := s.frame.now
  let s := s.judgeTick u
  let s := if s.frame.abortTick = some u then s.mapCores fun k => k.abortWork u else s
  let dead := s.abortedAt u
  let s := if dead then s.dropSched
    else
      let s := s.applySched
      let s := (List.range 16).foldl (fun s i => s.captureSel i u) s
      let before := s.cores
      let s := s.coreIds.foldl (fun s c => s.setCore c (s.endCore c (s.core c) u)) s
      before.foldl (fun s e => s.takeReads e.2 u) s
  let s := s.coreIds.foldl (fun s c => s.setCore c (((s.core c).clearTick u).settle (u + 1) dead)) s
  s.setFrame { s.frame with now := u + 1 }

/-- Nothing of a core changes with time alone. -/
def Core.quiet (k : Core) : Bool :=
  k.agenda.isEmpty && k.accesses.isEmpty && k.reads.isEmpty && k.writes.isEmpty && k.sendList.isEmpty &&
    k.engines.all fun e => e.2.passes.isEmpty && e.2.vruns.isEmpty

/-- Nothing of any core changes with time alone. -/
def State.quiet (s : State) : Bool :=
  s.cores.all (fun e => e.2.quiet) && s.mem.sched.isEmpty && s.srv.sel.all fun e => e.2.run.isNone

/-- The abort tick is still to come within `n` ticks. -/
def State.abortAhead (s : State) (n : Nat) : Bool :=
  match s.frame.abortTick with
  | some a => decide (s.frame.now ≤ a) && decide (a < s.frame.now + n)
  | none => false

/-- `n` ticks pass; the ticks of a quiet device pass at once, but for the abort tick. -/
def State.runTicks (s : State) : Nat → State
  | 0 => s
  | n + 1 =>
    if s.quiet && !s.abortAhead (n + 1) then s.setFrame { s.frame with now := s.frame.now + (n + 1) }
    else s.doTick.runTicks n

/-- The frame's time goes on to the start of tick t; it never goes back. -/
def State.advance (s : State) (t : Nat) : State := s.runTicks (t - s.frame.now)

end Sys2Proof.Machine
end

