-- ==== Sys2Proof/Machine/Plane.lean ====
section
/-! DEFINITION. The service plane's packets and their routing (R238, R244, R245, R247, R248, R252). -/
namespace Sys2Proof.Machine

/-! ### Packets (R244) -/

/-- The virtual channel of a packet kind (R244). -/
def kindVc (kind : Nat) : Option Nat :=
  match kind with
  | 0x01 | 0x02 | 0x06 => some 3
  | 0x03 | 0x07 => some 2
  | 0x05 => some 1
  | 0x04 => some 0
  | _ => none

/-- The packet header's 16 bytes (R244). -/
def packetHeader (p : Packet) : List Byte :=
  bytesOf (p.src % 2 ^ 14) 2 ++ bytesOf p.kind 1 ++ bytesOf p.status 1 ++ bytesOf p.tag 2 ++ bytesOf p.len 2 ++ bytesOf p.addr 8

/-- A packet's bytes: its header and its data. -/
def packetBytes (p : Packet) : List Byte := packetHeader p ++ p.data

/-- The flits of a packet at `cap` bytes of payload each (R244). -/
def packetFlits (p : Packet) (cap : Nat := 240) : Nat := Nat.max 1 (ceilDiv (16 + p.data.length) cap)

/-- The payload of flit `k` of a packet at `cap` bytes each, filled with zeros. -/
def packetPayload (p : Packet) (k cap : Nat) : List Byte :=
  let bs := ((packetBytes p).drop (cap * k)).take cap
  bs ++ List.replicate (cap - bs.length) 0

/-- Bits [95:61] of a service flit's header (R244), for flit `k` of `n`. -/
def packetBits (p : Packet) (k n : Nat) : Nat :=
  p.vc % 4 * 2 ^ 61 + p.dest % 2 ^ 14 * 2 ^ 63 + (if k = 0 then 2 ^ 77 else 0) +
  (if k + 1 = n then 2 ^ 78 else 0) + (if p.bcast then 2 ^ 79 else 0) + p.tree % 16 * 2 ^ 80 +
  (if p.sampled then 2 ^ 84 else 0) + p.hops % 64 * 2 ^ 85

/-! ### Coordinates and directions (R238) -/

/-- Coordinate `d` (0 x, 1 y, 2 z) of a device ID. -/
def coord (id d : Nat) : Nat :=
  match d with
  | 0 => bitsOf id 0 4
  | 1 => bitsOf id 4 5
  | _ => bitsOf id 9 5

/-- The domain's size in a dimension, as last applied (R238, R239). -/
def State.dimSize (s : State) (d : Nat) : Nat :=
  match d with
  | 0 => s.fab.dims.1
  | 1 => s.fab.dims.2.1
  | _ => s.fab.dims.2.2

/-- A device ID with coordinate `d` replaced. -/
def withCoord (id d v : Nat) : Nat :=
  match d with
  | 0 => id - coord id 0 + v
  | 1 => id - coord id 1 * 16 + v * 16
  | _ => id - coord id 2 * 512 + v * 512

/-- A device ID lies within the domain's sizes (R238). -/
def State.inDims (s : State) (id : Nat) : Bool :=
  (List.range 3).all fun d => decide (coord id d < s.dimSize d)

/-- The bundle of a port: 0 +x, 1 −x, 2 +y, 3 −y, 4 +z, 5 −z. -/
def bundleOf (p : Nat) : Nat := p / 3

/-- The neighbour that a bundle reaches (R238). -/
def State.neighbour (s : State) (id bundle : Nat) : Nat :=
  let d := bundle / 2
  let n := Nat.max 1 (s.dimSize d)
  let c := coord id d
  withCoord id d (if bundle % 2 = 0 then (c + 1) % n else (c + n - 1) % n)

/-- The port that port `p` pairs with at the neighbour (R238). -/
def pairedPort (p : Nat) : Nat := if bundleOf p % 2 = 0 then p + 3 else p - 3

/-- A port is UP. -/
def State.portUp (s : State) (p : Nat) : Bool := decide (s.rget KL_PORT_STATUS.STATE p = 7)

/-- The productive bundles towards a device (R247). -/
def State.productive (s : State) (dest : Nat) : List Nat :=
  (List.range 3).flatMap fun d =>
    let n := Nat.max 1 (s.dimSize d)
    let a := coord s.ownId d
    let b := coord dest d
    let up := (b + n - a % n) % n
    if a = b then [] else (if 2 * up ≤ n then [2 * d] else []) ++ (if 2 * up ≥ n then [2 * d + 1] else [])

/-- The escape bundle towards a device: dimension order, + when the two directions are equal (R248). -/
def State.escapeBundle (s : State) (dest : Nat) : Option Nat := (s.productive dest).head?

/-- The UP ports of a bundle. -/
def State.upPorts (s : State) (bundle : Nat) : List Nat := [3 * bundle, 3 * bundle + 1, 3 * bundle + 2].filter s.portUp

/-! ### Queues (R245, R247) -/

/-- The flits queued for a port on a channel. -/
def State.queueDepth (s : State) (p vc : Nat) : Nat :=
  (((s.port p).queue.filter fun q => decide (q.pkt.vc = vc)).map fun q => packetFlits q.pkt).sum

/-- The port with the fewest flits queued on a channel; ties go to the lowest (R247). -/
def State.leastQueued (s : State) (vc : Nat) (ps : List Nat) : Option Nat :=
  match ps with
  | [] => none
  | p :: rest => some (rest.foldl (fun best q => if s.queueDepth q vc < s.queueDepth best vc then q else best) p)

/-- The stream bytes that a flit on a port carries: 240, or 224 where the port encrypts (R216, R228, log 21). A ring's flits take
no port (R366). -/
def State.flitCap (s : State) (p : Nat) : Nat := if s.rget KL_PORT_STATUS.ENC p = 1 ∧ s.ringMode = false then 224 else 240

/-- A packet fits whole into a buffer beyond a port: `rooms` has, of each port, the flits free in the packet's channel of the
neighbour's adaptive and escape buffers (R245; log 66). -/
def fitsBeyond (rooms : List (Nat × Nat × Nat)) (o n : Nat) (escape : Bool) : Bool :=
  match rooms.find? fun r => decide (r.1 = o) with
  | some (_, a, e) => decide (n ≤ if escape then e else a)
  | none => false

/-- The flits of a packet on a port. -/
def State.flitsOn (s : State) (o : Nat) (p : Packet) : Nat := packetFlits p (s.flitCap o)

/-- The escape hop from an arriving port over `o` continues in the ring of that dimension and direction (R248). -/
def sameRing (inPort o : Nat) (escape : Bool) : Bool := escape && decide (inPort < 18) && decide (bundleOf inPort / 2 = bundleOf o / 2) &&
  decide (bundleOf inPort ≠ bundleOf o)

/-- The UP ports that an adaptive hop may take: those of every productive bundle, or the one that the packet must leave on. -/
def State.adaptivePorts (s : State) (q : QPkt) : List Nat :=
  match q.via with
  | some o => [o].filter s.portUp
  | none => (s.productive q.pkt.dest).flatMap s.upPorts

/-- The UP ports that an escape hop may take (R248). -/
def State.escapePorts (s : State) (q : QPkt) : List Nat :=
  match q.via with
  | some o => [o].filter s.portUp
  | none => match s.escapeBundle q.pkt.dest with
    | some b => s.upPorts b
    | none => []

/-- The hop that a waiting packet can take now, and whether into an escape buffer (R247, R248): the adaptive buffer beyond the
port with the fewest queued flits if the packet fits there, else the escape buffer in dimension order, which must be empty
when the packet enters a ring. A packet in escape stays in escape. -/
def State.hopOf (s : State) (q : QPkt) (rooms : List (Nat × Nat × Nat)) : Option (Nat × Bool) :=
  let adaptive := if q.escape then none else
    (s.leastQueued q.pkt.vc (s.adaptivePorts q)).filter fun o => fitsBeyond rooms o (s.flitsOn o q.pkt) false
  match adaptive with
  | some o => some (o, false)
  | none =>
    ((s.leastQueued q.pkt.vc (s.escapePorts q)).filter fun o =>
      fitsBeyond rooms o (if sameRing q.inPort o q.escape then s.flitsOn o q.pkt else 32) true).map fun o => (o, true)

/-- A packet count of FAB_CNT_SNAP's live side goes up (R256). -/
def State.fabCount (s : State) (k : Nat) : State :=
  { s with fab := { s.fab with live := Assoc.put 0 s.fab.live k (Assoc.get 0 s.fab.live k + 1) } }

/-- A sample record goes to the ring (R252), with its tick: at most one for each port in 256 ticks. -/
def State.sampleRecord (s : State) (p : Packet) (inPort outPort : Nat) (escape : Bool) (tick : Nat) : State :=
  if ¬ p.sampled then s
  else
    let port := if outPort < 18 then outPort else inPort
    let x := s.port port
    let recent := match x.sampleTick with
      | some t => decide (tick < t + 256)
      | none => false
    if recent && decide (port < 18) then s.fabCount 6
    else
      let head := s.rget FAB_SAMPLE_HEAD.HEAD
      let v := tick % 2 ^ 64 + p.src % 2 ^ 16 * 2 ^ 64 + p.dest % 2 ^ 16 * 2 ^ 80 + p.tag % 2 ^ 16 * 2 ^ 96 +
        p.kind % 2 ^ 8 * 2 ^ 112 + inPort % 2 ^ 8 * 2 ^ 120 + outPort % 2 ^ 8 * 2 ^ 128 + p.hops % 2 ^ 8 * 2 ^ 136 +
        packetFlits p % 2 ^ 8 * 2 ^ 144 + ((if escape then 1 else 0) + (if p.bcast then 2 else 0)) * 2 ^ 152 +
        (if outPort < 18 then s.queueDepth outPort p.vc else 0) % 2 ^ 16 * 2 ^ 160
      let s := { s with fab := { s.fab with samples := Assoc.put 0 s.fab.samples head v } }
      let s := if port < 18 then s.setPort port { x with sampleTick := some tick } else s
      let s := if head + 1 = 32768 then s.event FAB_SAMPLE_HEAD.WRAP else s
      s.rset0 FAB_SAMPLE_HEAD.HEAD (head + 1)

/-- A packet waits for a port (R245, R247). -/
def State.enqueueAt (s : State) (p : Packet) (port : Nat) (escape : Bool) (inPort : Nat) : State :=
  let x := s.port port
  s.setPort port { x with queue := x.queue ++ [{ pkt := p, escape := escape, inPort := inPort, since := s.gst }] }

/-- The next slot of a port that comes UP: every 4 ticks at full width and rate, else every 8, 16 or 32 (R204). -/
def State.slotStep (s : State) (p : Nat) : Nat :=
  let n := Nat.max 1 (s.rget KL_PORT_STATUS.WIDTH p)
  let half := s.rget KL_PORT_STATUS.RATE p
  4 * (4 / n) * (1 + half)

/-- A port's KL_GRACE.GRACE, in units of 100 µs, as REFCLK edges (R226). -/
def State.graceEdges (s : State) (p : Nat) : Nat := usEdges (100 * s.rget KL_GRACE.GRACE p)

/-! ### Buffers (R245, R246) -/

/-- The packets that wait at an arriving port; 31 holds this device's own. -/
def State.waitingAt (s : State) (p : Nat) : List QPkt := if p < 18 then (s.port p).inbuf else s.fab.staging

/-- The state with what waits at an arriving port replaced. -/
def State.setWaiting (s : State) (p : Nat) (qs : List QPkt) : State :=
  if p < 18 then s.setPort p { s.port p with inbuf := qs } else { s with fab := { s.fab with staging := qs } }

/-- Two packets stand in one buffer: of the same channel, adaptive or escape. -/
def QPkt.sameBuffer (a b : QPkt) : Bool := decide (a.pkt.vc = b.pkt.vc) && decide (a.escape = b.escape)

/-- The flits that a buffer of an arriving port holds. -/
def State.bufferFlits (s : State) (p vc : Nat) (escape : Bool) : Nat :=
  (((s.waitingAt p).filter fun q => decide (q.pkt.vc = vc) && decide (q.escape = escape)).map fun q => s.flitsOn p q.pkt).sum

/-- A packet waits at an arriving port, in a buffer of 32 flits (R245), which its sender has found free: one that does not fit
is lost (log 66). This device's own packets wait at 31. -/
def State.park (s : State) (p : Nat) (q : QPkt) : State :=
  let ws := s.waitingAt p
  let q := { q with inPort := p, since := s.gst, head := if ws.any q.sameBuffer then 0 else s.clk.wall }
  if p < 18 ∧ 32 < s.bufferFlits p q.pkt.vc q.escape + s.flitsOn p q.pkt then s else s.setWaiting p (ws ++ [q])

/-- A packet with no place yet waits where it came in. -/
def State.parkAt (s : State) (p : Nat) (k : Packet) (escape : Bool) : State :=
  s.park p { pkt := k, escape := escape, inPort := p, since := s.gst }

/-- A packet leaves the place where it waited; the next of its buffer is now the first. -/
def State.unwait (s : State) (p : Nat) (q : QPkt) : State :=
  let first := decide ((s.waitingAt p).find? q.sameBuffer = some q)
  let ws := (s.waitingAt p).erase q
  match if first then ws.find? q.sameBuffer else none with
  | some r => s.setWaiting p (ws.map fun x => if x = r then { r with head := s.clk.wall } else x)
  | none => s.setWaiting p ws

/-- The first packets of a channel's two buffers, in the order in which they came. -/
def State.headsOf (s : State) (p vc : Nat) : List QPkt :=
  let ws := (s.waitingAt p).filter fun q => decide (q.pkt.vc = vc)
  ws.filter fun q => decide (ws.find? q.sameBuffer = some q)

/-- A channel-1 packet goes to its handler, or waits while the 64 buffers are full (R246). -/
def State.toHandler (s : State) (p : Nat) (k : Packet) : State :=
  if s.fab.handler < 64 then ({ s with fab := { s.fab with handler := s.fab.handler + 1 } }).emit (.packet 31 k)
  else s.parkAt p k false

/-- The handler has consumed a packet (R246). -/
def State.handled (s : State) : State := { s with fab := { s.fab with handler := s.fab.handler - 1 } }

/-- The host port drains the staging area as posted writes to PF0's memory, while it is a bus master (R246, R307). -/
def State.drainStage (s : State) : State :=
  if s.busMaster 0 then
    s.fab.hostStage.foldl (fun s e => s.emit (.hostWrite 0 e.1 e.2)) { s with fab := { s.fab with hostStage := [] } }
  else s

/-- A channel-0 packet sinks into the 4 MiB staging area, or waits while that has no room (R246). -/
def State.toStage (s : State) (p : Nat) (k : Packet) : State :=
  if (s.fab.hostStage.map fun e => e.2.length).sum + k.data.length ≤ 2 ^ 22 then
    ({ s with fab := { s.fab with hostStage := s.fab.hostStage ++ [(k.addr, k.data)] } }).drainStage
  else s.parkAt p k false

/-! ### Packets of this device's own (R244, R252) -/

/-- A packet of this device's own is made up (R244, R252): SRC, header sampling and the count. -/
def State.stampPacket (s : State) (p : Packet) : Packet × State :=
  let n := s.fab.originated + 1
  let sampled := decide (s.rget FAB_SAMPLE_CFG.ENABLE = 1) && decide (n % 2 ^ s.rget FAB_SAMPLE_CFG.RATE_LOG2 = 0)
  ({ p with src := s.ownId, hops := 0, sampled := sampled }, { s with fab := { s.fab with originated := n } }.fabCount 0)

/-- A packet that this device originates (R244, R252): header sampling and the count; it waits for its first hop. One to
this device itself leaves on 31 and comes back as a command (log 20). -/
def State.originate (s : State) (p : Packet) : State :=
  let (p, s) := s.stampPacket p
  if p.dest = s.ownId ∧ ¬ p.bcast then s.emit (.packet 31 p) else s.parkAt 31 p false

/-- A packet of this device's own waits to leave on one port. -/
def State.sendVia (s : State) (port : Nat) (p : Packet) : State :=
  (s.fabCount 0).park 31 { pkt := p, escape := false, inPort := 31, since := s.gst, via := some port }

/-- A new request tag (R244). -/
def State.newTag (s : State) : Nat × State :=
  (s.fab.nextTag, { s with fab := { s.fab with nextTag := (s.fab.nextTag + 1) % 65536 } })

/-- A packet is a request (R244). -/
def isRequest (kind : Nat) : Bool := kind = 0x01 || kind = 0x02 || kind = 0x06

/-- The response to a request, with a status and data (R244). -/
def responseTo (p : Packet) (status : Nat) (data : List Byte) : Packet :=
  { src := p.dest, dest := p.src, kind := 0x03, vc := 2, status := status, tag := p.tag, len := data.length,
    addr := p.addr, data := data }

/-! ### Broadcast trees (R250, R251) -/

/-- The place of a status in R251's order: OK, DATA_ERROR, NOT_PERMITTED, FLUSHED. -/
def statusRank (st : Nat) : Nat :=
  match st with
  | 0x00 => 0
  | 0x0C => 1
  | 0x04 => 2
  | 0x0E => 3
  | _ => 2

/-- The worse of two statuses (R251). -/
def worstStatus (a b : Nat) : Nat := if statusRank a < statusRank b then b else a

/-- A broadcast write has ended here: its BACK goes to the parent, or at the root to the command processors, as a
packet of this device to itself (R251). -/
def State.treeEnd (s : State) (w : TreeWait) : State :=
  let dest := if w.parent < 18 then s.rget KL_PORT_STATUS.PEER_ID w.parent else s.ownId
  let p : Packet := { src := s.ownId, dest := dest, kind := 0x07, vc := 2, status := w.status, tag := w.tag, len := 0,
                      addr := 0, data := [], tree := w.tree }
  if w.parent < 18 then s.sendVia w.parent p else s.emit (.packet 31 p)

/-- The broadcasts of this device that wait for a child's BACK, once for each child: its TREE_WAIT leases (R287). -/
def State.treeLeases (s : State) : Nat := (s.fab.trees.map fun w => w.waiting.length).sum

/-- ROLL_LEASES shows the leases that this device owns and serves (R289). The leases of its own command processors on the
Ranger are inside the device and are not counted (log 67). -/
def State.showLeases (s : State) : State :=
  let s := s.rset0 ROLL_LEASES.HELD (Nat.min 4095 (s.roll.leases.filter fun l => decide (l.owner = s.ownId)).length)
  let served := (s.roll.leases.filter fun l => decide (l.server = s.ownId)).length
  s.rset0 ROLL_LEASES.GRANTED (Nat.min 4095 (served + s.treeLeases))

/-- The waiting broadcasts change, and the leases with them. -/
def State.setTrees (s : State) (ws : List TreeWait) : State := ({ s with fab := { s.fab with trees := ws } }).showLeases

/-- A broadcast write's wait takes one more status: of child port `port`, or its own (`none`). -/
def State.treeStatus (s : State) (tree tag : Nat) (port : Option Nat) (status : Nat) : State :=
  match s.fab.trees.find? fun w => decide (w.tree = tree ∧ w.tag = tag) with
  | none => s
  | some w =>
    let w' := { w with waiting := (match port with
                  | some p => w.waiting.erase p
                  | none => w.waiting), status := worstStatus w.status status }
    let rest := s.fab.trees.filter fun x => ¬ decide (x.tree = tree ∧ x.tag = tag)
    if w'.waiting.isEmpty then (s.setTrees rest).treeEnd w' else s.setTrees (rest ++ [w'])

/-- A child port's subtrees end with FLUSHED (R251). -/
def State.treeFlush (s : State) (port : Nat) : State :=
  (s.fab.trees.filter fun w => w.waiting.contains port).foldl (fun s w => s.treeStatus w.tree w.tag (some port) 0x0E) s

/-- A held packet is completed to its source with FLUSHED (R226, R249): a request is answered, a broadcast's
child counts as flushed, any other packet is counted. -/
def State.flushPacket (s : State) (p : Packet) (port : Nat) : State :=
  if p.bcast then s.treeStatus p.tree p.tag (some port) 0x0E
  else if isRequest p.kind then (s.fabCount 5).originate (responseTo p 0x0E [])
  else s.fabCount 7

end Sys2Proof.Machine
end

