-- ==== Sys2Proof/Machine/Load.lean ====
section
/-! DEFINITION. The load checks of a plan image (R50 and the rules that extend it: R75, R77, R80, R84 to
R87, R91, R92, R153, R158, R187, R190, R191, R200, R204, R207, R228, R242, R266, R286, R319, R363, R365). -/
namespace Sys2Proof.Machine

/-- The status of a refused load, by reason (R50, R266). -/
def loadStatus (reason : Nat) : Nat :=
  match reason with
  | 0x00 => 0x00
  | 0x01 => 0x01
  | 0x02 => 0x07
  | 0x03 => 0x08
  | 0x04 => 0x07
  | 0x0B => 0x06
  | _ => 0x05

/-- The valid logical cores, in order. -/
def State.validCores (s : State) : List Nat := (List.range 256).filter fun c => s.coreValid c

/-- The cores that an image gives a section of a type: all valid ones for a parameterised image's streams. -/
def State.coresWith (s : State) (im : List Byte) (types : List Nat) : List Nat :=
  let here := (sections im).filter fun x => types.contains x.type
  if (header im).param && here.any (fun x => decide (x.core = 0)) then s.validCores
  else (List.range 256).filter fun c => here.any fun x => decide (x.core = c)

/-! ### Check 0x02: the image's form -/

/-- The header's fields have the values R48 gives them. -/
def headerOk (im : List Byte) : Bool :=
  let h := header im
  decide (256 ≤ im.length) && decide (h.magic = 0x4B524843) && decide (h.version = 1) && decide (h.hdrSize = 256) &&
  decide (h.imageSize = im.length) && decide (h.flags < 8) && (!h.multi || decide (h.deviceId < 16384)) &&
  decide (1 ≤ h.devices) && decide (h.devices ≤ 16384) && decide (1 ≤ h.frameLen) && decide (h.frameLen ≤ 2 ^ 26) &&
  decide (64 ≤ h.verdictTicks) && decide (h.verdictTicks ≤ 2 ^ 20) && decide (h.slots ≤ 4096) && decide (h.role ≤ 3) &&
  decide (h.commitMax ≤ 16384) && decide (h.table + 24 * h.sections ≤ im.length) &&
  ((im.drop 0x80).take 128).all (fun b => b = 0) &&
  !(h.param && h.multi) && !(h.fourChip && (h.multi || h.param))

/-- A section's place, type and length (R48, R49). -/
def sectionOk (im : List Byte) (x : Section) : Bool :=
  let h := header im
  decide (x.off % 64 = 0) && decide (x.off + x.len ≤ im.length) && decide (x.flags < 2) &&
  (knownTypes.contains x.type || decide (x.flags = 1)) &&
  (if 1 ≤ x.type ∧ x.type ≤ 5 then decide (x.len % 8 = 0)
   else if x.type = 0x10 then decide (x.len = 2 * h.slots)
   else if x.type = 0x11 then decide (x.len % 8 = 0)
   else if x.type = 0x12 then decide (x.len = 512)
   else if x.type = 0x50 then decide (x.len % 4 = 0)
   else if x.type = 0x60 then decide (x.len = 1024)
   else true)

/-- The effective FRAME_LEN: the header's, or the table's for the valid cores (R77). -/
def State.imageLen (s : State) (im : List Byte) : Nat :=
  if (header im).param then frameLenFor im s.validCores.length else (header im).frameLen

/-- The frame length that check 0x02 holds the streams and jobs against: the longest one (R48) where the table has none for
this number of cores, which check 0x05 refuses later (R77). -/
def State.formLen (s : State) (im : List Byte) : Nat := if s.imageLen im = 0 then 2 ^ 26 else s.imageLen im

/-- A route word names a legal route for the operation at a core (R87). -/
def routeWordOk (im : List Byte) (c : Nat) (op : Isa) : Bool :=
  match op with
  | .send r _ _ _ _ => (routeEntry im r.toNat).sendOf c
  | .recv r _ _ _ => (routeEntry im r.toNat).recvOf c
  | .cgive r _ _ => (routeEntry im r.toNat).sendOf c
  | _ => true

/-- The words of a stream, if every one decodes. -/
def decodeAll (ws : List Word) : Option (List IsaWord) := ws.mapM decodeIsa

/-- The issue ticks of a stream that passes the loader (R80, R84 to R87, R91, R92, R94, R95); none when it
does not. -/
def streamTicks (im : List Byte) (len c queue : Nat) (ws : List Word) : Option (List (Nat × Isa)) :=
  match decodeAll ws with
  | none => none
  | some ds =>
    if ds.all (fun w => wordOk queue (header im).formats w && routeWordOk im c w.op) &&
        blockOk ds (ds.length + 1) 0 ds.length 0 0 then
      match issueTicks ds len (len + 1) {} 0 with
      | some ts => if ts.all fun e => decide (workEnd e.1 e.2 ≤ len) then some ts else none
      | none => none
    else none

/-- Every stream of the image passes. -/
def State.streamsOk (s : State) (im : List Byte) : Bool :=
  (s.coresWith im [1, 2, 3, 4, 5]).all fun c => (List.range 5).all fun q =>
    match stream im c q with
    | none => true
    | some ws => (streamTicks im (s.formLen im) c q ws).isSome

/-- The parameter map's entries name slots, cores, registers and fields that exist; a parameterised
image's do not use p62 or p63 (R49, R77, R181; log 12). -/
def paramMapOk (im : List Byte) : Bool :=
  (paramMap im).all fun e =>
    decide (e.slot < (header im).slots) && decide (e.core < 256) && decide (e.preg < 64) && decide (1 ≤ e.field) &&
    decide (e.field ≤ 0x10) && decide (e.rsv = 0) && !((header im).param && decide (e.preg ≥ 62))

/-- Adds a route's positions to those taken on its port; none when one is already taken (R242). -/
def takePositions (taken : Option (Assoc Nat)) (r : Route) : Option (Assoc Nat) :=
  match taken with
  | none => none
  | some m =>
    if r.owns then
      if Assoc.get 0 m r.outPort &&& r.posMask = 0 then
        some (Assoc.put 0 m r.outPort (Assoc.get 0 m r.outPort ||| r.posMask))
      else none
    else some m

/-- The number of set bits among the low `n`. -/
def popCount (v n : Nat) : Nat := ((List.range n).filter fun k => v.testBit k).length

/-- The route table keeps R207, R242 and R286. -/
def State.routesOk (s : State) (im : List Byte) : Bool :=
  let rs := routes im
  let at' (k : Nat) : Route := rs.getD k {}
  (rs.zip (List.range rs.length)).all (fun e =>
    let r := e.1
    let k := e.2
    let peer := at' (k + 1)
    decide (r.kind ≤ 5) && decide (r.posMask = 0 ∨ ¬ (r.kind = 3 ∨ r.kind = 5)) && !(r.owns && decide (r.posMask = 0)) &&
    !(decide (r.kind = 1) && !r.mem && !s.coreValid r.lcore) &&
    !(decide (r.kind ≠ 1) && r.mem) && !(decide (r.kind ≠ 3) && r.twin) &&
    !(decide (r.kind = 5) && !(decide ((at' r.reply).kind = 1) && (at' r.reply).mem)) &&
    !(r.twin && !(if k % 2 = 0 then peer.twin && decide (peer.kind = 3) && decide (peer.lcore = r.lcore)
                  else (at' (k - 1)).twin))) &&
  (match rs.foldl takePositions (some []) with
   | none => false
   | some m => m.all fun e => decide (popCount e.2 16 ≤ 14)) &&
  (List.range 256).all fun c => (List.range 16).all fun ch =>
    match channelRoute im c ch with
    | none => true
    | some k => decide ((at' k).kind = 1) && !(at' k).mem

/-- The job table of one unit (R190, R191). -/
def State.jobsOk (s : State) (im : List Byte) (len u : Nat) : Bool :=
  let p58 := initialParam im (16 * u) 58
  let jobs := imageJobs im u
  decide (p58 < 2 ^ 24) && (jobs.isEmpty || s.coreValid (16 * u)) &&
  decide (64 * bitsOf p58 0 16 + 32 * jobs.length ≤ 2 ^ 22) &&
  jobs.all (fun j => j.ok && decide (j.tick + j.ticks ≤ len) && s.coreValid (16 * u + j.core) &&
    decide (j.lastLine ≤ 65535)) &&
  (jobs.zip (jobs.drop 1)).all fun e => decide (e.1.tick + e.1.ticks ≤ e.2.tick)

/-- Every job table, and what R187 and R200 ask of them together. -/
def State.jobTablesOk (s : State) (im : List Byte) : Bool :=
  let len := s.formLen im
  let all := (List.range 16).flatMap (imageJobs im)
  (List.range 16).all (s.jobsOk im len) && (decide ((header im).role ≠ 2) || all.isEmpty) &&
  decide (((all.filter (·.commit)).map fun j => 1 + 2 * j.npos).sum ≤ (header im).commitMax)

/-! ### Checks 0x05 to 0x0D -/

/-- Check 0x07: crossings, memory latencies, every port's measured hop delay, encryption, schedulable ports, placement. -/
def State.timingOk (s : State) (im : List Byte) : Bool :=
  let mt := timingMem im 0
  let mt2 := timingMem im 1
  let used := ((routes im).filter fun r => r.kind ≠ 0).flatMap fun r =>
    (if r.inPort = 31 then [] else [r.inPort]) ++ (if r.outPort = 31 then [] else [r.outPort])
  decide (2 ≤ timingXing im) && s.clk.xings.all (fun e => decide (e.2.lat ≤ timingXing im)) &&
  decide (s.rget MEM_TIMING.REQ_NEAR ≤ bitsOf mt 0 10) && decide (s.rget MEM_TIMING.REQ_FAR ≤ bitsOf mt 10 10) &&
  decide (s.rget MEM_TIMING.RD_NEAR ≤ bitsOf mt 20 10) && decide (s.rget MEM_TIMING.RD_FAR ≤ bitsOf mt 30 10) &&
  decide (s.rget MEM_TIMING.WR_NEAR ≤ bitsOf mt 40 10) && decide (s.rget MEM_TIMING.WR_FAR ≤ bitsOf mt 50 10) &&
  decide (s.rget MEM_TIMING2.WALK ≤ bitsOf mt2 0 10) && decide (s.rget MEM_TIMING2.HOP_NEAR ≤ bitsOf mt2 10 10) &&
  decide (s.rget MEM_TIMING2.HOP_FAR ≤ bitsOf mt2 20 10) && decide (s.rget MEM_STATUS.FULL_RATE = 1) &&
  (List.range 18).all (fun p => decide (s.rget KL_PORT_DELAY.HOP p ≤ timingHop im p)) &&
  used.all (fun p => decide (p < 18) && decide (s.rget KL_PORT_STATUS.SCHED p = 1) && decide (s.rget KL_PORT_STATUS.ENC p = timingEnc im p)) &&
  ((header im).param || (List.range (header im).lcores).all fun c =>
    match timingPlace im c with
    | none => true
    | some r => decide (s.physOf c = some r))

/-- The valid logical cores with the regions that run them, as they are now. -/
def State.corePlaces (s : State) : List (Nat × Nat) := s.validCores.map fun c => (c, s.regionOfCore c)

/-- The regions that a profile must cover for the cores of a load, in ascending order (R75): core regions that run a logical
core, memory regions and port regions; region 0 stands for every core in a parameterised image (R77). -/
def profileRegions (im : List Byte) (cores : List (Nat × Nat)) : List Nat :=
  if (header im).param then
    0 :: (List.range 288).filter fun r => decide (136 ≤ r % 144) && decide (r % 144 < 142)
  else (List.range 288).filter fun r =>
    (isCoreRegion r && cores.any fun e => decide (e.2 = r)) || (decide (136 ≤ r % 144) && decide (r % 144 < 142))

/-- The image's power profile for the cores of a load and a frame length, if it has one for every region (R75). -/
def profileFor (im : List Byte) (cores : List (Nat × Nat)) (len : Nat) : Option (List (Nat × RegionProfile)) :=
  takeRegions (intervalsOf len) (profileRegions im cores) (deviceData im 0x20)

/-- The image's power profile, as its load checks it. -/
def State.profile (s : State) (im : List Byte) : Option (List (Nat × RegionProfile)) :=
  profileFor im s.corePlaces (s.imageLen im)

/-- The region whose list a loaded image has for a region: a logical core that has moved since keeps its own (log 55). -/
def State.listRegion (s : State) (cores : List (Nat × Nat)) (r : Nat) : Nat :=
  match if isCoreRegion r then s.coreOfRegion r else none with
  | some c => ((cores.find? fun e => e.1 = c).map (·.2)).getD r
  | none => r

/-- The profile that applies to a region in a variant (R76, R77): the image was read for the cores of its load. -/
def State.regionProfile (s : State) (v r : Nat) : RegionProfile :=
  let x := s.variant v
  match profileFor x.image x.cores (s.rget PLAN_VAR_STATE.FRAME_LEN v) with
  | none => {}
  | some l =>
    let r := if (header x.image).param && isCoreRegion r then 0 else s.listRegion x.cores r
    match l.find? fun e => e.1 = r with
    | some e => e.2
    | none => {}

/-- The profile of the active variant that applies to a region. -/
def State.activeProfile (s : State) (r : Nat) : RegionProfile :=
  match s.plan.active with
  | some v => s.regionProfile v r
  | none => {}

/-- The limits of an interval, summed over the regions, in 1/16 PU (R75, R77). -/
def profileSum (im : List Byte) (cores : Nat) (prof : List (Nat × RegionProfile)) (m : Nat) : Nat :=
  (prof.map fun e => limitAt e.2.runs m * (if (header im).param ∧ e.1 = 0 then cores else 1)).sum

/-- The exit ticks of a region state (R317). -/
def exitTicks (st : Nat) : Nat :=
  match st with
  | 1 => 15
  | 2 => 150
  | 3 => 1500
  | 4 => 15000
  | 5 => 166640
  | _ => 0

/-- Two tick ranges `[a, b)` and `[c, d)` share a tick. -/
def overlaps (a b c d : Nat) : Bool := decide (a < d) && decide (c < b) && decide (a < b) && decide (c < d)

/-- The ticks that a core's queues and selection jobs need it awake (R319). -/
def State.awakeSpans (s : State) (im : List Byte) (c : Nat) : List (Nat × Nat) :=
  let len := s.imageLen im
  ((List.range 5).flatMap fun q =>
    match stream im c q with
    | none => []
    | some ws => match streamTicks im len c q ws with
      | none => []
      | some ts => ts.map fun e => (e.1, workEnd e.1 e.2)) ++
  ((imageJobs im (c / 16)).filter fun j => decide (16 * (c / 16) + j.core = c)).flatMap fun j =>
    j.accessTicks.map fun a => (j.tick + a.1, j.tick + a.2)

/-- A region's sleep list keeps R319. -/
def State.sleepsOk (s : State) (im : List Byte) (r : Nat) (sl : List Sleep) : Bool :=
  let len := s.imageLen im
  let cores := if (header im).param then s.validCores else (s.coreOfRegion r).toList
  let spans := if sl.isEmpty then [] else cores.flatMap (s.awakeSpans im)
  sl.all (fun e =>
    decide (e.rsv = 0) && decide (1 ≤ e.state) && decide (e.state ≤ 5) && decide (e.start < e.stop) && decide (e.stop ≤ len) &&
    (if e.state = 5 then decide (e.start = 0) && decide (e.stop = len)
     else decide (2 * exitTicks e.state ≤ e.stop - e.start)) &&
    spans.all fun a => !overlaps a.1 a.2 e.start e.stop) &&
  (sl.zip (sl.drop 1)).all fun e => decide (e.1.stop ≤ e.2.start)

/-- A profile's limits keep within the package allowance (R75, R322). -/
def State.allowanceOk (s : State) (im : List Byte) (cores : List (Nat × Nat)) (len : Nat) : Bool :=
  match profileFor im cores len with
  | none => false
  | some prof => (List.range (intervalsOf len)).all fun m =>
      decide (profileSum im cores.length prof m + 16 * 90 + 16 * 50 ≤ 16 * s.rget PWR_ALLOW.ALLOW_W)

/-- Check 0x08 (R75, R319). -/
def State.profileOk (s : State) (im : List Byte) : Bool :=
  s.allowanceOk im s.corePlaces (s.imageLen im) && match s.profile im with
  | none => false
  | some prof => prof.all fun e => s.sleepsOk im e.1 e.2.sleeps

/-- Check 0x0D: the Cairn's time (R266). -/
def State.cairnTimeOk (s : State) (im : List Byte) : Bool :=
  (List.range 16).all fun u =>
    decide (400 * (((imageJobs im u).filter (·.commit)).map (·.npos)).sum ≤ s.imageLen im + (header im).verdictTicks + 4096)

/-- The resident version of a library routine, 0 if absent (R99; log 9). -/
def State.routineVersion (s : State) (n : Nat) : Nat :=
  let v := Config.routineVersion (s.rget (if s.rgr.libPend then RGR_UPD.VER_OTHER else RGR_UPD.VER_ACTIVE) 3) n
  if [0x0001, 0x0002, 0x0003, 0x0004, 0x0010].contains n then Nat.max 1 v else v

/-- The bytes of the streams that an image puts into a core's plan store. -/
def streamBytes (im : List Byte) (c : Nat) : Nat :=
  ((List.range 5).map fun q => (sectionData im (q + 1) (streamCore im c)).length).sum

/-- The bytes of an image's other sections in the plan area. -/
def areaBytes (im : List Byte) : Nat :=
  (((sections im).filter fun x => knownTypes.contains x.type && !(decide (1 ≤ x.type) && decide (x.type ≤ 5))).map
    (·.len)).sum

/-- Check 0x0B: 384 KiB of plan store per core and 2 GiB of plan area, shared by the loaded variants. -/
def State.spaceOk (s : State) (im : List Byte) : Bool :=
  let ims := im :: ((List.range 4).map fun v => (s.variant v).image)
  ((List.range 256).all fun c => decide ((ims.map fun i => streamBytes i c).sum ≤ 393216)) &&
  decide ((ims.map areaBytes).sum ≤ 2 ^ 31)

/-- The image with its DIGEST field zero (R48). -/
def digestInput (im : List Byte) : List Byte := im.take 0x60 ++ List.replicate 32 0 ++ im.drop 0x80

/-- The digest matches the image. -/
def digestOk (im : List Byte) : Bool := decide (sha256 (digestInput im) = (im.drop 0x60).take 32)

/-- The formats the device has, as IDENT_FORMATS reads. -/
def State.formatsWord (s : State) : Nat :=
  s.rget IDENT_FORMATS.FP4 + 2 * s.rget IDENT_FORMATS.MXFP4 + 4 * s.rget IDENT_FORMATS.INT4 +
  8 * s.rget IDENT_FORMATS.E4M3 + 16 * s.rget IDENT_FORMATS.E5M2 + 32 * s.rget IDENT_FORMATS.E2M3 +
  64 * s.rget IDENT_FORMATS.E3M2 + 128 * s.rget IDENT_FORMATS.MXFP8 + 256 * s.rget IDENT_FORMATS.MXFP6 +
  512 * s.rget IDENT_FORMATS.MXINT8 + 1024 * s.rget IDENT_FORMATS.INT8 + 2048 * s.rget IDENT_FORMATS.BF16 +
  4096 * s.rget IDENT_FORMATS.FP16 + 8192 * s.rget IDENT_FORMATS.FP32

/-- The first load check that an image fails at a variant slot, by reason; 0 when it passes (R50). -/
def State.loadReason (s : State) (v : Nat) (im : List Byte) : Nat :=
  let h := header im
  let ims := sections im
  if s.rget PLAN_VAR_STATE.STATE v ≠ 0 then 0x01
  else if ¬ (headerOk im ∧ ims.all (sectionOk im)) then 0x02
  else if ¬ (s.streamsOk im ∧ paramMapOk im ∧ s.routesOk im ∧ s.jobTablesOk im) then 0x02
  else if ¬ digestOk im then 0x03
  else if h.multi ∧ ¬ (h.deviceId = s.rget IDENT_DOMAIN.DEVICE_ID ∧ s.rget IDENT_DOMAIN.ID_VALID = 1 ∧
      ims.any (fun x => x.type = 0x32)) then 0x04
  else if ims.any (fun x => perCore x.type && !s.coreValid x.core) ∨ h.lcores > s.rget IDENT_COUNTS.LCORES ∨
      (h.param ∧ s.imageLen im = 0) ∨ (h.fourChip ∧ s.validCores.length < 256) then 0x05
  else if h.formats &&& s.formatsWord ≠ h.formats ∨ h.rates &&& s.rget IDENT_TICK_RATES.RATES = 0 then 0x06
  else if ¬ s.timingOk im then 0x07
  else if ¬ s.profileOk im then 0x08
  else if ¬ s.cairnTimeOk im then 0x0D
  else if (libraryNeeds im).any fun e => decide (s.routineVersion e.1 < Nat.max 1 e.2) then 0x09
  else if s.frame.phase ≠ .idle ∧ h.verdictTicks + 4096 > s.frame.gap then 0x0A
  else if ¬ s.spaceOk im then 0x0B
  else 0x00

end Sys2Proof.Machine
end

