-- ==== Sys2Proof/Machine/Access.lean ====
section
/-! DEFINITION. Who may write a register (R7, R18, R20, R327) and the rejected-write log (R328). -/
namespace Sys2Proof.Machine

/-- KIND of a rejected-write entry (R328). -/
def agentKind : Agent → Nat
  | .pf0 => 0
  | .vf _ => 0
  | .cp _ => 1
  | .core _ => 2
  | .remote _ => 3
  | .jtag => 4

/-- SOURCE of a rejected-write entry (R328). The table names none for JTAG, so that one is free (log 50). -/
def State.agentSource (s : State) (a : Agent) : Nat × State :=
  match a with
  | .pf0 => (0, s)
  | .vf f => (f, s)
  | .cp n => (n, s)
  | .core n => (n, s)
  | .remote d => (d, s)
  | .jtag => (Config.freeNat s.draw.1 % 65536, s.draw.2)

/-- An entry of the rejected-write log (R328): a ring of 64. -/
def State.logReject (s : State) (a : Agent) (off : Nat) : State :=
  let h := s.rget RGR_REJ_HEAD.HEAD
  let e : RejEntry := { gst := s.gst, kind := agentKind a, source := (s.agentSource a).1, off := off }
  let s := (s.agentSource a).2
  let s := { s with rgr := { s.rgr with rej := Assoc.put {} s.rgr.rej h e } }
  (s.rset0 RGR_REJ_HEAD.HEAD (h + 1)).rsat RGR_REJ_HEAD.COUNT 0 1

/-- The agent's write to an offset has an effect: a VF's only in its own queue pages and in the selectors of the AUD
block, which it sees (R19, R20, R269), a remote device's only in the ROLL and TEL blocks (R18). -/
def agentWrites (a : Agent) (off : Nat) : Bool :=
  match a with
  | .vf _ => (decide (0x500000 ≤ off) && decide (off < 0x580000)) || decide (off = 0x800008) || decide (off = 0x800100) ||
      decide (0x1000000 ≤ off)
  | .remote _ => (decide (0x600000 ≤ off) && decide (off < 0x700000)) || (decide (0x900000 ≤ off) && decide (off < 0xA00000))
  | _ => true

/-- A register write by an agent: its effect, or a refusal, which a remote device's leaves in the log (R18,
R328). In Bivouac mode no register of these takes a write (R351). -/
def State.regWrite (s : State) (a : Agent) (off : Nat) (effect : State → State) : State :=
  if s.bivouac then s
  else if agentWrites a off then effect s
  else match a with
    | .remote _ => s.logReject a off
    | _ => s

end Sys2Proof.Machine
end

