-- ==== Sys2Proof/Machine/Commands.lean ====
section
/-! DEFINITION. The host's opcodes as R297's table has them, with what R295, R312 and R331 say of each: who
may issue it, which arguments it uses, whether CLOSE may stand on it, and where it runs. -/
namespace Sys2Proof.Machine

def cmdNop : CmdSpec := { opcode := 0x00, pf0 := false, args := 0, closes := true, failSafeOk := true, anyState := true }
def cmdPlanLoad : CmdSpec := { opcode := 0x01, pf0 := true, args := 0b111, asleepD1 := true }
def cmdPlanActivate : CmdSpec := { opcode := 0x02, pf0 := true, args := 0b11, asleepD1 := true }
def cmdPlanUnload : CmdSpec := { opcode := 0x03, pf0 := true, args := 0b1 }
def cmdFrameRun : CmdSpec := { opcode := 0x04, pf0 := true, args := 0b111, asleepD1 := true }
def cmdFrameStop : CmdSpec := { opcode := 0x05, pf0 := true, args := 0b1 }
def cmdFrameWait : CmdSpec := { opcode := 0x06, pf0 := false, args := 0b1 }
def cmdSlotBind : CmdSpec := { opcode := 0x10, pf0 := true, args := 0b11, closes := true, inSet := true }
def cmdSlotUnbind : CmdSpec := { opcode := 0x11, pf0 := true, args := 0b1, closes := true, inSet := true }
def cmdParamPatch : CmdSpec := { opcode := 0x12, pf0 := true, args := 0b11, closes := true, inSet := true }
def cmdCtxCreate : CmdSpec := { opcode := 0x20, pf0 := true, args := 0b111 }
def cmdCtxSet : CmdSpec := { opcode := 0x21, pf0 := false, args := 0b111, closes := true }
def cmdCtxDestroy : CmdSpec := { opcode := 0x22, pf0 := false, args := 0b1 }
def cmdPageMap : CmdSpec := { opcode := 0x28, pf0 := true, args := 0b11111, closes := true, inSet := true }
def cmdPageUnmap : CmdSpec := { opcode := 0x29, pf0 := true, args := 0b11011, closes := true, inSet := true }
def cmdPageMove : CmdSpec := { opcode := 0x2A, pf0 := true, args := 0b111, closes := true, inSet := true }
def cmdDmaCopy : CmdSpec := { opcode := 0x30, pf0 := false, args := 0b111111 }
def cmdStatsRead : CmdSpec := { opcode := 0x38, pf0 := false, args := 0b111, failSafeOk := true }
def cmdCairnRead : CmdSpec := { opcode := 0x39, pf0 := false, args := 0b1111, failSafeOk := true }
def cmdSvcRun : CmdSpec := { opcode := 0x40, pf0 := true, args := 0b111, asleepD1 := true }
def cmdLinkReset : CmdSpec := { opcode := 0x48, pf0 := true, args := 0b1 }
def cmdPowerSet : CmdSpec := { opcode := 0x50, pf0 := true, args := 0b1, anyState := true }
def cmdUpdateStage : CmdSpec := { opcode := 0x58, pf0 := true, args := 0b111 }
def cmdUpdateConfirm : CmdSpec := { opcode := 0x59, pf0 := true, args := 0b1 }

end Sys2Proof.Machine
end

