-- ==== Sys2Proof/Machine/Context.lean ====
section
/-! DEFINITION. Contexts (spec/09): CTX_CREATE, CTX_SET, CTX_DESTROY and SRV_CTX_SEL, with the shadow writes of
a patch set (R64, R183). -/
namespace Sys2Proof.Machine

/-! ### Waiting for the commit engine (R182) -/

/-- The commit engine owns the descriptors: from a decision tick to its apply tick (R182). -/
def State.commitOwns (s : State) : Bool := decide (s.frame.phase = .decided)

/-- A command on descriptors waits until the apply tick while the commit engine owns them (R182). -/
def State.orDefer (s : State) (c : Instr) (run : State) : State :=
  if s.commitOwns then s.setFrame { s.frame with deferred := s.frame.deferred ++ [c] } else run

/-- Context `id` has a committed token whose Cairn record is not complete (R267). -/
def State.trailBusy (s : State) (id : Nat) : Bool := s.srv.cairn.any fun t => decide (t.ctx = id)

/-- A command that reads or replaces a context's trail waits also until that context has no pending record
(R267). -/
def State.orWait (s : State) (c : Instr) (id : Nat) (run : State) : State :=
  if s.commitOwns || s.trailBusy id then s.setFrame { s.frame with deferred := s.frame.deferred ++ [c] } else run

/-! ### Shadow writes (R64) -/

/-- The number of entries of the open set, as PLAN_PATCH_STATE shows it. -/
def State.syncOpen (s : State) : State :=
  let o := s.frame.openSet
  s.rset0 PLAN_PATCH_STATE.OPEN_ENTRIES (Nat.min (2 ^ 17 - 1) (o.params.length + o.binds.length + o.writes.length))

/-- A shadow write of register `k` of core `c` enters the open set (R64). -/
def State.shadowWrite (s : State) (c k v : Nat) : State :=
  let o := s.frame.openSet
  (s.setFrame { s.frame with openSet := { o with params := Assoc.put none o.params (64 * c + k) (some (v % 2 ^ 64)) } }).syncOpen

/-- A shadow write of a slot enters the open set (R64). -/
def State.shadowBind (s : State) (v n id : Nat) : State :=
  let o := s.frame.openSet
  (s.setFrame { s.frame with openSet := { o with binds := Assoc.put none o.binds (4096 * v + n) (some id) } }).syncOpen

/-- Table writes enter the open set (R65, R66). -/
def State.shadowTables (s : State) (ws : List TableWrite) : State :=
  let o := s.frame.openSet
  (s.setFrame { s.frame with openSet := { o with writes := o.writes ++ ws } }).syncOpen

/-- The value of a field code for a context, or for an unbound slot or a free context (R181). -/
def State.fieldValue (s : State) (id code : Nat) : Nat :=
  if id = 0 ∨ (s.ctx id).field .state = 0 then unboundValue code else (s.ctx id).mapValue code

/-- The parameter-map entries of a slot of a variant. -/
def State.slotMap (s : State) (v n : Nat) : List MapEntry := (paramMap (s.variant v).image).filter fun e => e.slot = n

/-- The mapped fields of a slot's context go into the shadow banks of the cores that the variant's map names (R64). -/
def State.resolveShadow (s : State) (v n id : Nat) : State :=
  (s.slotMap v n).foldl (fun s e => s.shadowWrite e.core e.preg (s.fieldValue id e.field)) s

/-- The mapped fields of a slot's context go into the live banks (R52, R184, R282). -/
def State.resolveLive (s : State) (v n id : Nat) : State :=
  (s.slotMap v n).foldl (fun s e =>
    let k := s.core e.core
    s.setCore e.core { k with pLive := Assoc.put 0 k.pLive e.preg (s.fieldValue id e.field % 2 ^ 64) }) s

/-! ### Field checks (R180) -/

/-- A binary32 number is a NaN. -/
def nan32 (v : Nat) : Bool := decide (bitsOf v 23 8 = 255) && decide (bitsOf v 0 23 ≠ 0)

/-- A binary32 number is finite. -/
def finite32 (v : Nat) : Bool := decide (bitsOf v 23 8 ≠ 255)

/-- A page-table register's tag is the ID and its table lies within a table pool. -/
def tableOk (pt id : Nat) : Bool :=
  decide (ptTag pt = id) && decide (ptLog2 pt ≤ 24) && inPool (ptBase pt) (8 * 2 ^ ptLog2 pt)

/-- A descriptor passes R180 for an ID. -/
def Ctx.ok (c : Ctx) (id : Nat) : Bool :=
  let temp := c.field .temp
  let rep := c.field .rep
  !(nan32 temp) && !(bitAt temp 31 && decide (temp % 2 ^ 31 ≠ 0)) &&
  finite32 rep && !(bitAt rep 31) && decide (rep % 2 ^ 31 ≠ 0) &&
  finite32 (c.field .freq) && finite32 (c.field .pres) && decide (c.field .topk ≤ 64) &&
  !(decide (bitsOf (c.field .spec) 3 2 = 2) && decide (c.field .spec % 8 > 4)) &&
  tableOk (c.field .pt) id && (decide (c.field .rpt = 0) || tableOk (c.field .rpt) id)

/-- The bits of each word that the descriptor table names; every other bit is 0 (R179). -/
def ctxWordMask (k : Nat) : Nat :=
  match k with
  | 0 => 0x0001FFFF03FFFFFF
  | 5 => 0x0000001F000FFFFF
  | 6 => 0x0000007FFFFFFFFF
  | 8 => 0x00003FFFFFFFFFFF
  | 9 => 0x000FFFFF000FFFFF
  | 10 => 0x000FFFFF000FFFFF
  | 15 => 0
  | _ => 2 ^ 64 - 1

/-- The sixteen words of a descriptor image. -/
def imageWord (desc : List Byte) (k : Nat) : Nat := leAt desc (8 * k) 8

/-- The number of descriptors that are not free. -/
def State.syncUsed (s : State) : State := s.rset0 SRV_CTX_USED.COUNT s.srv.ctxs.length

/-- TOPK as the image gives it is above 64, which its masked field would hide (R180). -/
def badTopk (desc : List Byte) (mask : Nat) : Bool := bitAt mask 6 && decide (bitsOf (imageWord desc 6) 32 32 > 64)

/-! ### CTX_CREATE (R178 to R180, R264) -/

/-- A new descriptor: the image's fields with the command's ID and function, and STATE 1. -/
def newCtx (id func : Nat) (desc trail : List Byte) : Ctx :=
  let c : Ctx := { words := (List.range 16).foldl (fun m k => Assoc.put 0 m k (imageWord desc k &&& ctxWordMask k)) [],
                   trail := natOfBytes (trail.take 32) }
  ((c.setField .id id).setField .state 1).setField .func func

/-- CTX_CREATE's effect. -/
def State.ctxCreate (s : State) (h : HostCmd) (desc trail : List Byte) : State × CmdEnd :=
  let id := bitsOf h.a0 0 16
  let c := newCtx id (bitsOf h.a0 16 8) desc (if h.a2 = 0 then [] else trail)
  if h.a0 ≥ 2 ^ 24 then (s, .done 0x03 0 0 0)
  else if id = 0 ∨ (s.ctx id).field .state ≠ 0 then (s, .done 0x04 0 0 0)
  else if ¬ c.ok id ∨ badTopk desc 0x40 = true then (s, .done 0x03 0 0 0)
  else ((s.setCtx id c).syncUsed, .done 0 0 0 0)

/-- CTX_CREATE (R178 to R180). -/
def execCtxCreate (h : HostCmd) (desc trail : List Byte) (s : State) : Result :=
  .next (s.orDefer (.ctxCreate h desc trail) (s.runCmd h cmdCtxCreate (.ctxCreate h desc trail) fun s => s.ctxCreate h desc trail))

/-! ### CTX_SET (R180, R183, R264, R299) -/

/-- The Commit bytes of each word, as a mask of its bits (R179, R299). -/
def commitBits (k : Nat) : Nat :=
  match k with
  | 0 => 0xFFFF000000000000
  | 2 => 2 ^ 64 - 1
  | 3 => 2 ^ 64 - 1
  | 5 => 0x00000000FFFFFFFF
  | 8 => 0xFFFFFFFF00000000
  | 9 => 2 ^ 64 - 1
  | 10 => 2 ^ 64 - 1
  | _ => 0

/-- Word `k` after CTX_SET: the image's bits where they may be written. -/
def setWord (old new k : Nat) (bound : Bool) : Nat :=
  let keep := if bound then commitBits k else 0
  (old &&& keep) ||| ((new &&& ctxWordMask k) &&& (2 ^ 64 - 1 - keep))

/-- The words that CTX_SET leaves: words 1 to 14 by the mask, and the CLASS byte of word 0 for PF0 (R299). -/
def Ctx.set (c : Ctx) (mask : Nat) (desc : List Byte) (bound pf0 : Bool) : Ctx :=
  let words := (List.range 14).foldl (fun m i =>
    let k := i + 1
    if bitAt mask k then Assoc.put 0 m k (setWord (c.word k) (imageWord desc k) k bound) else m) c.words
  let c := { c with words := words }
  if bitAt mask 0 ∧ pf0 = true then c.setField .cls (bitsOf (imageWord desc 0) 24 8 % 4) else c

/-- The status with which a function's naming of a context is refused: 0 when it may (R180, R297); BUSY while a reset
VF's unbind is pending (R305). -/
def State.ctxAccess (s : State) (func id : Nat) : Nat :=
  let c := s.ctx id
  if func ≠ 0 ∧ (c.field .state = 0 ∨ c.field .func ≠ func) then 0x04
  else if id = 0 then 0x04
  else if c.field .state = 0 then 0x13
  else if s.unbindPending id then 0x01
  else 0

/-- The slots of the active variant that hold a context in the shadow table take its new values (R183). -/
def State.ctxChanged (s : State) (id : Nat) : State :=
  match s.plan.active with
  | none => s
  | some v => (s.slotKeys v).eraseDups.foldl (fun s n => if s.shadowSlot v n = id then s.resolveShadow v n id else s) s

/-- CTX_SET's effect. -/
def State.ctxSet (s : State) (h : HostCmd) (desc trail : List Byte) : State × CmdEnd :=
  let id := bitsOf h.a0 0 16
  let mask := bitsOf h.a0 16 16
  let c := s.ctx id
  let bound := decide (c.field .state = 2)
  let acc := s.ctxAccess h.func id
  if h.a0 ≥ 2 ^ 32 then (s, .done 0x03 0 0 0)
  else if acc ≠ 0 then (s, .done acc 0 0 0)
  else if h.func ≠ 0 ∧ mask &&& 0xBE0F ≠ 0 then (s, .done 0x04 0 0 0)
  else if bound = true ∧ (mask &&& 0x060C ≠ 0 ∨ h.a2 ≠ 0) then (s, .done 0x01 0 0 0)
  else
    let new := c.set mask desc bound (decide (h.func = 0))
    if ¬ new.ok id ∨ badTopk desc mask = true then (s, .done 0x03 0 0 0)
    else
      let new := if h.a2 = 0 then new else { new with trail := natOfBytes (trail.take 32) }
      let s := s.setCtx id new
      (if bound then s.ctxChanged id else s, .done 0 0 0 0)

/-- CTX_SET (R180, R183, R299). -/
def execCtxSet (h : HostCmd) (desc trail : List Byte) (s : State) : Result :=
  .next (s.orWait (.ctxSet h desc trail) (h.a0 % 2 ^ 16) (s.runCmd h { cmdCtxSet with inSet := decide ((s.ctx (h.a0 % 2 ^ 16)).field .state = 2) } (.ctxSet h desc trail)
    fun s => s.ctxSet h desc trail))

/-! ### CTX_DESTROY (R180) -/

/-- CTX_DESTROY's effect. -/
def State.ctxDestroy (s : State) (h : HostCmd) : State × CmdEnd :=
  let id := bitsOf h.a0 0 16
  let acc := s.ctxAccess h.func id
  if h.a0 ≥ 2 ^ 16 then (s, .done 0x03 0 0 0)
  else if acc ≠ 0 then (s, .done acc 0 0 0)
  else if (s.ctx id).field .state = 2 then (s, .done 0x01 0 0 0)
  else ((s.setCtx id {}).syncUsed, .done 0 0 0 0)

/-- CTX_DESTROY (R180). -/
def execCtxDestroy (h : HostCmd) (s : State) : Result :=
  .next (s.orWait (.ctxDestroy h) (h.a0 % 2 ^ 16) (s.runCmd h cmdCtxDestroy (.ctxDestroy h) fun s => s.ctxDestroy h))

/-! ### SRV_CTX_SEL (R202) -/

/-- The descriptor named in SRV_CTX_SEL is latched (R202); the null descriptor is 0 in every field except MASK (R178, R181). -/
def State.latchCtx (s : State) : State :=
  let c := s.ctx (s.rget SRV_CTX_SEL.ID)
  let s := s.rset0 SRV_CTX_SEL.VALID (if c.field .state = 0 then 0 else 1)
  (List.range 16).foldl (fun s k =>
    s.rset SRV_CTX_DATA.DATA k (if s.rget SRV_CTX_SEL.ID = 0 ∧ k = 11 then unboundValue 0x0C else c.word k)) s

/-- A write of SRV_CTX_SEL: the latch waits while the commit engine owns the descriptors (R182, R202). -/
def State.ctxSelWrite (s : State) (value : Nat) : State :=
  let s := s.rset0 SRV_CTX_SEL.ID value
  if s.commitOwns then { s with srv := { s.srv with ctxSelWait := true } } else s.latchCtx

/-- SRV_CTX_SEL (R202). -/
def execSrvCtxSel (agent : Agent) (value : Nat) (s : State) : Result :=
  .next (s.regWrite agent 0x401000 fun s => s.ctxSelWrite value)

end Sys2Proof.Machine
end

