-- ==== Sys2Proof/Machine/MemSvc.lean ====
section
/-! DEFINITION. The service side of memory (spec/08): the hub cache and its stream trackers (R166, R167), context
memory (R185), the page commands (R162, R185), and the controller's own work (R153, R161). -/
namespace Sys2Proof.Machine

/-! ### Hub cache and trackers (R166, R167) -/

/-- The requesters of R167 as numbers, no two alike: a command processor, a service DMA channel, a remote device. A host queue's
commands read through one of these (log 14). -/
def reqCp (n : Nat) : Nat := 4 * n + 1
def reqDma (die ch : Nat) : Nat := 4 * (16 * die + ch) + 2
def reqRemote (dev : Nat) : Nat := 4 * dev + 3

/-- A requester is firmware: a command processor, whose prefetches may reach a reserved area (R156, R167). -/
def reqFirmware (req : Nat) : Bool := decide (req % 4 = 1)

/-- Tracker `t` of memory region `r`. -/
def State.tracker (s : State) (r t : Nat) : Tracker := Assoc.get {} s.mem.trackers (64 * r + t)

/-- The state with a tracker replaced. -/
def State.setTracker (s : State) (r t : Nat) (x : Tracker) : State :=
  { s with mem := { s.mem with trackers := Assoc.put {} s.mem.trackers (64 * r + t) x } }

/-- A line that leaves its set unused halves the depth of the tracker that prefetched it (R167, log 14). -/
def State.evicted (s : State) (burst : Nat) : State :=
  let halve (x : Tracker) : Tracker :=
    if x.ahead.contains burst then { x with ahead := x.ahead.filter (· ≠ burst), depth := Nat.max 1 (x.depth / 2) } else x
  { s with mem := { s.mem with trackers := s.mem.trackers.map fun e => (e.1, halve e.2) } }

/-- A line comes to the front of its set; the least recently used of 17 leaves (R166). -/
def State.hubInsert (s : State) (burst tweak : Nat) : State :=
  let old := (Assoc.get [] s.mem.hub (hubSet burst)).filter fun e => e ≠ (burst, tweak)
  let set := (burst, tweak) :: old
  let s := { s with mem := { s.mem with hub := Assoc.put [] s.mem.hub (hubSet burst) (set.take 16) } }
  (set.drop 16).foldl (fun s e => s.evicted e.1) s

/-- A demand hit to a prefetched line doubles its tracker's depth (R167). -/
def State.trackerHit (s : State) (burst : Nat) : State :=
  let hit (x : Tracker) : Tracker :=
    if x.ahead.contains burst then
      { x with ahead := x.ahead.filter (· ≠ burst), last := burst, lastHit := s.gst,
               depth := Nat.min (s.rget MEM_PF_CFG.MAX_DEPTH) (2 * x.depth) }
    else x
  { s with mem := { s.mem with trackers := s.mem.trackers.map fun e => (e.1, hit e.2) } }

/-- The tracker that a new stream of a region takes: a free one, else the one least recently hit (R167). -/
def State.pickTracker (s : State) (r : Nat) : Nat :=
  match (List.range 64).find? fun t => !(s.tracker r t).busy with
  | some t => t
  | none => (List.range 64).foldl (fun best t =>
      if (s.tracker r t).lastHit < (s.tracker r best).lastHit then t else best) 0

/-- A service read miss: its distance from the requester's last one, and a new tracker when it repeats with a
stride of 1 to 64 bursts (R167). -/
def State.trackerMiss (s : State) (burst tweak req : Nat) : State :=
  let old := Assoc.find s.mem.misses req
  let dist : Int := match old with
    | some (b, _) => (burst : Int) - b
    | none => 0
  let again := match old with
    | some (_, d) => decide (d = dist) && decide (1 ≤ dist.natAbs) && decide (dist.natAbs ≤ 64)
    | none => false
  let s := { s with mem := { s.mem with misses := Assoc.insert s.mem.misses req (burst, dist) } }
  if again then
    let r := regionOfStack (stackOf (64 * burst))
    s.setTracker r (s.pickTracker r) { requester := req, tweak := tweak, last := burst, stride := dist, depth := 4,
                                       lastHit := s.gst, busy := true }
  else s

/-- The hub cache holds a line: both its burst and its tweak match (R166). -/
def State.hubHas (s : State) (burst tweak : Nat) : Bool := (Assoc.get [] s.mem.hub (hubSet burst)).contains (burst, tweak)

/-- A service read within one burst (R159, R160, R166, R167): a hit gives the cached plaintext; a miss reads the burst, and an
uncorrectable one fills no line. -/
def State.svcBurst (s : State) (off n tweak req : Nat) : List Byte × Bool × State :=
  let b := off / 64
  if s.hubHas b tweak then ((s.trackerHit b).hubInsert b tweak).orderedRead off n tweak false true
  else
    let (bs, bad, s) := (s.trackerMiss b tweak req).orderedRead off n tweak false false
    (bs, bad, if bad then s else s.hubInsert b tweak)

/-- A service read of bytes under a tweak (R159, R160, R166): the bytes and whether a burst was uncorrectable. -/
def State.svcRead (s : State) (off n tweak req : Nat) : List Byte × Bool × State :=
  (burstParts (n + 1) off n).foldl (fun (a : List Byte × Bool × State) e =>
    let (bs, bad, s) := a.2.2.svcBurst e.1 e.2 tweak req
    (a.1 ++ bs, a.2.1 || bad, s)) ([], false, s)

/-- A service write within one burst: after every scheduled access to the burst in its tick (R159). -/
def State.svcBurstWrite (s : State) (off : Nat) (bs : List Byte) (tweak : Nat) : Bool × State :=
  if s.mem.sched.any fun a => decide (a.off / 64 = off / 64) then
    let (bad, v) := s.applySched.burstWrite off bs tweak false
    if bad then (true, { s with regs := v.regs, raised := v.raised, mem := { s.mem with ueLive := v.mem.ueLive } })
    else (false, s.addSched { off := off, tweak := tweak, bytes := bs, svc := true })
  else s.burstWrite off bs tweak false

/-- A service write of bytes under a tweak: write-through, no allocation (R166). -/
def State.svcWrite (s : State) (off : Nat) (bs : List Byte) (tweak : Nat) : Bool × State :=
  (burstParts (bs.length + 1) off bs.length).foldl (fun (a : Bool × State) e =>
    let (bad, s) := a.2.svcBurstWrite e.1 ((bs.drop (e.1 - off)).take e.2) tweak
    (a.1 || bad, s)) (false, s)

/-- A translation on the service path (R385): the physical offset, or the status. Its walk reads the entry through the hub
cache (R166). -/
def State.svcTranslate (s : State) (pt v : Nat) (write : Bool) (req : Nat) : (Nat ⊕ Nat) × State :=
  if ¬ ptIndexOk pt v then (.inr 0x04, s)
  else
    let (bs, bad, s) := s.svcRead (ptEntryAt pt v) 8 physTweak req
    if bad then (.inr 0x0C, s)
    else match ptCheck pt v (natOfBytes bs) write with
      | .inl p => (.inl p, s)
      | .inr _ => (.inr 0x04, s)

/-- The next burst that a tracker would prefetch, if R167 lets it: within its depth, its 16 KiB granule for a
context stream, the memory, and outside a reserved area. -/
def nextAhead (x : Tracker) : Option Nat :=
  let b : Int := x.last + x.stride * (x.ahead.length + 1)
  let n := b.toNat
  if ¬ x.busy ∨ x.ahead.length ≥ x.depth ∨ b < 0 ∨ 64 * n + 64 > installed then none
  else if x.tweak ≠ physTweak ∧ n / 256 ≠ x.last / 256 then none
  else if inReserved (64 * n) 64 ∧ reqFirmware x.requester = false then none
  else some n

/-- PREFETCH (R167). -/
def execPrefetch (r tracker : Nat) (s : State) : Result :=
  onUnit s (decide (r < 288) && decide (tracker < 64)) (
    let x := s.tracker r tracker
    match nextAhead x with
    | some n =>
      if s.rget MEM_PF_CFG.ENABLE = 1 then
        let s := s.setTracker r tracker { x with ahead := x.ahead ++ [n] }
        if s.mem.badBursts.contains n then s else s.hubInsert n x.tweak
      else s
    | none => s)

/-- TRACKER_IDLE (R167). -/
def execTrackerIdle (r tracker : Nat) (s : State) : Result :=
  onUnit s (decide (r < 288) && decide (tracker < 64)) (
    let x := s.tracker r tracker
    if x.busy ∧ s.gst ≥ x.lastHit + 2 ^ s.rget MEM_PF_CFG.IDLE_LOG2 then s.setTracker r tracker {} else s)

/-! ### The controller's own work (R153, R161) -/

/-- REFRESH: it takes free slots only and moves no scheduled access (R153). -/
def execRefresh (stack : Nat) (s : State) : Result := onUnit s (decide (stack < 12)) s

/-- RETRAIN: it takes free slots only and moves no scheduled access (R153). -/
def execRetrain (stack : Nat) (s : State) : Result := onUnit s (decide (stack < 12)) s

/-- A granule that has reached 16 corrected errors in the scrub pass is recorded (R161). -/
def State.foundHot (s : State) (burst : Nat) : State :=
  let s := (s.rset0 MEM_ECC_LAST.BURST burst).rset0 MEM_ECC_LAST.UE 0
  let s := (s.rset0 MEM_ECC_LAST.SCHED 0).rset0 MEM_ECC_LAST.STACK (stackOf (64 * burst))
  s.event MEM_ECC_LAST.VALID

/-- A corrected error is counted for its stack and its granule (R161). -/
def State.foundCe (s : State) (burst : Nat) : State :=
  let k := stackOf (64 * burst)
  let n := Assoc.get 0 s.mem.corrected (burst / 256) + 1
  let s := { s with mem := { s.mem with ceLive := Assoc.put 0 s.mem.ceLive k (Assoc.get 0 s.mem.ceLive k + 1),
                                        corrected := Assoc.put 0 s.mem.corrected (burst / 256) n } }
  if n = 16 then s.foundHot burst else s

/-- One burst scrubbed; a pass that has read every burst ends (R161, MEM_STATUS.SCRUB_PASSES). -/
def State.scrubbedOne (s : State) : State :=
  if s.mem.scrubbed + 1 ≥ installed / 64 then
    { s with mem := { s.mem with scrubbed := 0, corrected := [] } }.rsat MEM_STATUS.SCRUB_PASSES 0 1
  else { s with mem := { s.mem with scrubbed := s.mem.scrubbed + 1 } }

/-- A scrubbed burst's effect. -/
def State.scrub (s : State) (burst : Nat) (find : EccFind) : State :=
  let s := match find with
    | .clean => s
    | .corrected => s.foundCe burst
    | .uncorrectable =>
      { s with mem := { s.mem with badBursts := if s.mem.badBursts.contains burst then s.mem.badBursts
                                                else s.mem.badBursts ++ [burst] } }.foundUe burst false
  s.scrubbedOne

/-- PATROL_SCRUB (R161): a burst of the stack. -/
def execPatrolScrub (stack burst : Nat) (find : EccFind) (s : State) : Result :=
  onUnit s (decide (stack < 12))
    (if stackOf (64 * burst) = stack ∧ 64 * burst < installed then s.scrub burst find else s)

/-! ### Context memory (R185) -/

/-- One access of a command processor within one burst of a context's memory (R164, R166, R385): the bytes or the status that
ends it. A null table gives zeros (R165). -/
def State.ctxBurst (s : State) (id va n : Nat) : (List Byte ⊕ Nat) × State :=
  let pt := (s.ctx id).field .pt
  if ¬ ptValid pt then (.inl (List.replicate n 0), s)
  else match s.svcTranslate pt va false (reqCp 0) with
    | (.inr st, s) => (.inr st, s)
    | (.inl p, s) =>
      let (bs, bad, s) := s.svcRead p n (ctxTweak id) (reqCp 0)
      (if bad then .inr 0x0C else .inl bs, s)

/-- Bytes of a context's memory, as the commit engine and firmware read them: the bytes up to the access that fails, the
status of that one or 0, and the state. -/
def State.ctxRead (s : State) (id va n : Nat) : List Byte × Nat × State :=
  (burstParts (n + 1) va n).foldl (fun (a : List Byte × Nat × State) e =>
    if a.2.1 ≠ 0 then (a.1 ++ List.replicate e.2 0, a.2.1, a.2.2)
    else match a.2.2.ctxBurst id e.1 e.2 with
      | (.inl bs, s) => (a.1 ++ bs, 0, s)
      | (.inr st, s) => (a.1 ++ List.replicate e.2 0, st, s)) ([], 0, s)

/-- One write of a command processor within one burst of a context's memory: its status. A null table discards it. -/
def State.ctxBurstWrite (s : State) (id va : Nat) (bs : List Byte) : Nat × State :=
  let pt := (s.ctx id).field .pt
  if ¬ ptValid pt then (0, s)
  else match s.svcTranslate pt va true (reqCp 0) with
    | (.inr st, s) => (st, s)
    | (.inl p, s) =>
      let (bad, s) := s.svcWrite p bs (ctxTweak id)
      (if bad then 0x0C else 0, s)

/-- Bytes written to a context's memory: the status of the first access that fails, which ends it, or 0 (R385). -/
def State.ctxWrite (s : State) (id va : Nat) (bs : List Byte) : Nat × State :=
  (burstParts (bs.length + 1) va bs.length).foldl (fun (a : Nat × State) e =>
    if a.1 ≠ 0 then a else a.2.ctxBurstWrite id e.1 ((bs.drop (e.1 - va)).take e.2)) (0, s)

/-! ### Table writes (R65 to R68, R162, R185) -/

/-- The bytes in one granule (R163). -/
def granule : Nat := 16384

/-- A granule's bursts take a tweak and hold zeros (R162). -/
def State.zeroGranule (s : State) (g tweak : Nat) : State :=
  let lo := g * granule
  let cells := s.mem.cells.filter fun e => !(decide (lo ≤ e.1) && decide (e.1 < lo + granule))
  let tweaks := (List.range 256).foldl (fun m b => Assoc.put (freshTweak (256 * g + b)) m (256 * g + b) tweak) s.mem.tweaks
  { s with mem := { s.mem with cells := cells, tweaks := tweaks,
                               badBursts := s.mem.badBursts.filter fun b => b / 256 ≠ g } }

/-- A page-table entry (R163): V, W, granule and tag. -/
def ptEntry (w : Bool) (g id : Nat) : Nat := 1 + (if w then 2 else 0) + g % 2 ^ 34 * 2 ^ 14 + id * 2 ^ 48

/-- PAGE_MOVE's work: the granule is read under its tweak and written to its new place, then the entry names
it (R162). An uncorrectable burst or entry ends it with DATA_ERROR, with the entry as it was (R160). -/
def State.moveGranule (s : State) (id entry g : Nat) : Nat × State :=
  let (es, bad, s) := s.svcRead entry 8 physTweak (reqCp 0)
  let e := natOfBytes es
  let old := bitsOf e 14 34
  if bad then (0x0C, s)
  else if bitAt e 0 then
    let (bs, bad, s) := s.svcRead (old * granule) granule (ctxTweak id) (reqCp 0)
    if bad then (0x0C, s)
    else
      let s := (s.svcWrite (g * granule) bs (ctxTweak id)).2
      let (bad, s) := s.svcWrite entry (bytesOf (ptEntry (bitAt e 1) g id) 8) physTweak
      (if bad then 0x0C else 0, s)
  else (0, s)

/-- A table write takes effect (R66 to R68): its status (R160, R385). -/
def State.applyTable (s : State) (w : TableWrite) : Nat × State :=
  match w.kind with
  | 0 =>
    let (bad, s) := s.svcWrite w.addr (bytesOf w.value 8) physTweak
    (if bad then 0x0C else 0, s)
  | 1 => s.ctxWrite w.ctx w.addr (bytesOf w.value 8)
  | _ => s.moveGranule w.ctx w.addr w.value

/-- A page command's table writes: of the open set for a bound context, at once for another (R65, R66). The status is that
of the first that fails. -/
def State.tableWrites (s : State) (id : Nat) (ws : List TableWrite) : Nat × State :=
  if (s.ctx id).field .state = 2 then (0, s.shadowTables ws)
  else ws.foldl (fun (a : Nat × State) w =>
    let (st, s) := a.2.applyTable w
    (if a.1 = 0 then st else a.1, s)) (0, s)

/-- The bytes of a summary record whose vector has `v` bytes (R185). -/
def recordBytes (v : Nat) : Nat := 64 * ceilDiv (v + 8) 64

/-- The address of page j's locator (R185): it follows the summary vector, whose length the plan chooses and no command
carries (log 18). -/
def State.locatorAt (s : State) (c : Ctx) (j : Nat) : Nat :=
  let digest := match s.plan.active with
    | some v => leAt (s.variant v).image 0x60 32
    | none => 0
  let v := Config.summaryBytes digest
  bitsOf (c.field .layout) 32 16 * granule + recordBytes v * j + v

/-! ### PAGE_MAP, PAGE_UNMAP, PAGE_MOVE (R162, R185) -/

/-- The locator write of PAGE_MAP and PAGE_UNMAP, if ARG3 asks for one. -/
def State.locatorWrite (s : State) (c : Ctx) (h : HostCmd) : List TableWrite :=
  if bitAt h.a3 31 then
    [{ ctx := c.field .id, kind := 1, addr := s.locatorAt c (bitsOf h.a3 0 16), value := h.a4 % 2 ^ 64 }]
  else []

/-- ARG0 to ARG4's reserved bits are 0. -/
def pageArgsOk (h : HostCmd) : Bool :=
  decide (h.a0 < 2 ^ 16) && decide (bitsOf h.a1 25 7 = 0) && decide (h.a1 < 2 ^ 48) && decide (h.a2 < 2 ^ 34) &&
  decide (bitsOf h.a3 16 15 = 0) && decide (h.a3 < 2 ^ 32) && !(!(bitAt h.a3 31) && decide (h.a4 ≠ 0))

/-- PAGE_MAP and PAGE_UNMAP's shared checks: the status, 0 when they pass. -/
def State.pageStatus (s : State) (h : HostCmd) : Nat :=
  let c := s.ctx (bitsOf h.a0 0 16)
  let n := bitsOf h.a1 32 16
  if ¬ pageArgsOk h then 0x03
  else if c.field .state = 0 then 0x13
  else if s.unbindPending (bitsOf h.a0 0 16) then 0x01
  else if n = 0 ∨ n > 4096 ∨ bitsOf h.a1 0 24 + n > 2 ^ ptLog2 (c.field .pt) then 0x03
  else 0

/-- A locator that gives a page to another device's RPT puts it under a REMOTE_PAGES lease (R185, R287). -/
def State.locatorLease (s : State) (id : Nat) (h : HostCmd) : State :=
  let l : Lease := { kind := 0, owner := s.rget IDENT_DOMAIN.DEVICE_ID, server := bitsOf h.a4 0 14, item := id }
  if bitAt h.a3 31 && bitAt h.a4 14 && bitAt h.a4 15 && decide (l.server ≠ l.owner) && !s.roll.leases.contains l then
    ({ s with roll := { s.roll with leases := s.roll.leases ++ [l] } }).showLeases
  else s

/-- PAGE_MAP's effect: zeros under the new tweak, then the entries and the locator (R162). -/
def State.pageMap (s : State) (h : HostCmd) : State × CmdEnd :=
  let id := bitsOf h.a0 0 16
  let c := s.ctx id
  let n := bitsOf h.a1 32 16
  let g := bitsOf h.a2 0 34
  let st := s.pageStatus h
  if st ≠ 0 then (s, .done st 0 0 0)
  else if (g + n) * granule > installed ∨ inReserved (g * granule) (n * granule) = true then (s, .done 0x04 0 0 0)
  else
    let s := (List.range n).foldl (fun s k => s.zeroGranule (g + k) (ctxTweak id)) s
    let ws := (List.range n).map fun k =>
      { ctx := id, kind := 0, addr := ptBase (c.field .pt) + 8 * (bitsOf h.a1 0 24 + k),
        value := ptEntry (bitAt h.a1 24) (g + k) id }
    let (st, s) := (s.locatorLease id h).tableWrites id (ws ++ s.locatorWrite c h)
    (s, .done st 0 0 0)

/-- A page command's specification: its change enters a set only for a bound context (R66, R296). -/
def State.pageSpec (s : State) (h : HostCmd) (k : CmdSpec) : CmdSpec :=
  { k with inSet := decide ((s.ctx (h.a0 % 2 ^ 16)).field .state = 2) }

/-- PAGE_MAP (R162, R185). -/
def execPageMap (h : HostCmd) (s : State) : Result :=
  .next (s.orDefer (.pageMap h) (s.runCmd h (s.pageSpec h cmdPageMap) (.pageMap h) fun s => s.pageMap h))

/-- A REMOTE_PAGES lease over a context ends at its PAGE_UNMAP (spec/13, lease kinds). -/
def State.endPageLeases (s : State) (id : Nat) : State :=
  ({ s with roll := { s.roll with leases := s.roll.leases.filter fun l => ¬ (l.kind = 0 ∧ l.item = id) } }).showLeases

/-- PAGE_UNMAP's effect: invalid entries and the locator (R165). -/
def State.pageUnmap (s : State) (h : HostCmd) : State × CmdEnd :=
  let id := bitsOf h.a0 0 16
  let c := s.ctx id
  let st := s.pageStatus h
  if bitAt h.a1 24 then (s, .done 0x03 0 0 0)
  else if st ≠ 0 then (s, .done st 0 0 0)
  else
    let ws := (List.range (bitsOf h.a1 32 16)).map fun k =>
      { ctx := id, kind := 0, addr := ptBase (c.field .pt) + 8 * (bitsOf h.a1 0 24 + k), value := 0 }
    let (st, s) := ((s.endPageLeases id).locatorLease id h).tableWrites id (ws ++ s.locatorWrite c h)
    (s, .done st 0 0 0)

/-- PAGE_UNMAP (R165, R185). -/
def execPageUnmap (h : HostCmd) (s : State) : Result :=
  .next (s.orDefer (.pageUnmap h) (s.runCmd h (s.pageSpec h cmdPageUnmap) (.pageUnmap h) fun s => s.pageUnmap h))

/-- PAGE_MOVE's effect (R162). -/
def State.pageMove (s : State) (h : HostCmd) : State × CmdEnd :=
  let id := bitsOf h.a0 0 16
  let c := s.ctx id
  let i := bitsOf h.a1 0 24
  let g := bitsOf h.a2 0 34
  let entry := ptBase (c.field .pt) + 8 * i
  if h.a0 ≥ 2 ^ 16 ∨ h.a1 ≥ 2 ^ 24 ∨ h.a2 ≥ 2 ^ 34 then (s, .done 0x03 0 0 0)
  else if c.field .state = 0 then (s, .done 0x13 0 0 0)
  else if s.unbindPending id then (s, .done 0x01 0 0 0)
  else if i ≥ 2 ^ ptLog2 (c.field .pt) ∨ (s.mem.badBursts.contains (entry / 64) = false ∧ bitAt (s.memNat entry 8) 0 = false) then (s, .done 0x03 0 0 0)
  else if (g + 1) * granule > installed ∨ inReserved (g * granule) granule = true then (s, .done 0x04 0 0 0)
  else
    let (st, s) := s.tableWrites id [{ ctx := id, kind := 2, addr := entry, value := g }]
    (s, .done st 0 0 0)

/-- PAGE_MOVE (R162). -/
def execPageMove (h : HostCmd) (s : State) : Result :=
  .next (s.orDefer (.pageMove h) (s.runCmd h (s.pageSpec h cmdPageMove) (.pageMove h) fun s => s.pageMove h))

end Sys2Proof.Machine
end

