-- ==== Sys2Proof/Machine/Plans.lean ====
section
/-! DEFINITION. Plans (spec/03): loading, activating and unloading variants (R50 to R54, R77), the slot and
parameter commands (R64), the fault log's tail (R72) and its records (R71). -/
namespace Sys2Proof.Machine

/-! ### PLAN_LOAD (R50, R51, R321) -/

/-- The image's fields as the PLAN_VAR registers show them (R78). -/
def State.showVariant (s : State) (v : Nat) (im : List Byte) : State :=
  let h := header im
  let s := (s.rset PLAN_VAR_STATE.ROLE v h.role).rset PLAN_VAR_STATE.FOURCHIP v (if h.fourChip then 1 else 0)
  let s := (s.rset PLAN_VAR_STATE.PARAM v (if h.param then 1 else 0)).rset PLAN_VAR_STATE.MULTI v (if h.multi then 1 else 0)
  let s := (s.rset PLAN_VAR_STATE.SLOTS v h.slots).rset PLAN_VAR_STATE.FRAME_LEN v (s.imageLen im)
  let s := (s.rset PLAN_VAR_ID.PLAN_ID v h.planId).rset PLAN_VAR_VTICKS.VERDICT_TICKS v h.verdictTicks
  (List.range 4).foldl (fun s k => s.rset PLAN_VAR_DIGEST.DIGEST (4 * v + k) (leAt im (0x60 + 8 * k) 8)) s

/-- A variant holds region `r` at P5 for its whole frame (R319, R321). -/
def State.holdsP5 (s : State) (v r : Nat) : Bool := (s.regionProfile v r).sleeps.any fun e => e.state = 5

/-- The core regions that a variant uses and that stand at P5 (R321). -/
def State.sleepers (s : State) (v : Nat) : List Nat :=
  coreRegions.filter fun r => decide (s.rget PWR_REGION.PSTATE r = 5) && (s.coreOfRegion r).isSome && !s.holdsP5 v r

/-- A region comes to P0 for a load (R27, R321). -/
def State.wakeForLoad (s : State) (r : Nat) : State := (s.setRegion r { s.region r with sleep := none }).regionTo r 0

/-- A slot has its image, with every slot UNBOUND (R50, log 11) and for the cores that are valid now (R77). REASON returns to 0:
the spec only says what a refusal or a failure puts there (log 56). -/
def State.takeImage (s : State) (v : Nat) (im : List Byte) : State :=
  ((s.setVariant v { image := im, cores := s.corePlaces }).showVariant v im).rset PLAN_VAR_STATE.REASON v 0

/-- An image that passed its checks becomes READY (R50). -/
def State.variantReady (s : State) (v : Nat) (im : List Byte) : State := (s.takeImage v im).rset PLAN_VAR_STATE.STATE v 2

/-- A slot is LOADING until the regions at P5 that its image uses have recalibrated (R321). -/
def State.variantLoading (s : State) (v : Nat) (im : List Byte) (h : HostCmd) : State :=
  let s := (s.takeImage v im).rset PLAN_VAR_STATE.STATE v 1
  let s := (s.sleepers v).foldl (fun s r => s.wakeForLoad r) s
  { s with plan := { s.plan with loads := s.plan.loads ++ [(v, h)] } }

/-- The regions that a load waits for. -/
def State.loadWaits (s : State) (v : Nat) : Bool :=
  s.rgr.leaving.any fun e => isCoreRegion e.1 && (s.coreOfRegion e.1).isSome && !s.holdsP5 v e.1

/-- The loads whose regions have recalibrated: their slots are READY and their commands complete (R50, R321). -/
def State.endLoads (s : State) : State :=
  let due := s.plan.loads.filter fun e => !s.loadWaits e.1
  let s := { s with plan := { s.plan with loads := s.plan.loads.filter fun e => s.loadWaits e.1 } }
  due.foldl (fun s e => (s.rset PLAN_VAR_STATE.STATE e.1 2).finish e.2 cmdPlanLoad 0 0 0 0) s

/-- The loads into a slot, or all of them, end FLUSHED: the slot is unloaded or lost. -/
def State.dropLoads (s : State) (p : Nat → Bool) : State :=
  let due := s.plan.loads.filter fun e => p e.1
  let s := { s with plan := { s.plan with loads := s.plan.loads.filter fun e => !p e.1 } }
  due.foldl (fun s e => s.reply e.2 0x01 0x0E 0 0 0) s

/-- A load that fails leaves the slot EMPTY with the reason; a slot that was not EMPTY stays as it is (R50). -/
def State.loadFailed (s : State) (v reason : Nat) : State :=
  let s := s.rset PLAN_VAR_STATE.REASON v reason
  if reason = 1 then s else s.rset PLAN_VAR_STATE.STATE v 0

/-- PLAN_LOAD with the image's bytes (R50). -/
def State.loadImage (s : State) (v : Nat) (im : List Byte) (h : HostCmd) : State × CmdEnd :=
  let reason := s.loadReason v im
  if reason = 0 then
    if (s.takeImage v im).sleepers v = [] then (s.variantReady v im, .done 0 0 0 0) else (s.variantLoading v im h, .later)
  else (s.loadFailed v reason, .done (loadStatus reason) reason 0 0)

/-- PLAN_LOAD's effect: an image in device memory is read there (R50, R297). -/
def State.planLoad (s : State) (h : HostCmd) (image : List Byte) : State × CmdEnd :=
  let v := bitsOf h.a0 0 2
  if h.a0 ≥ 2 ^ 9 ∨ bitsOf h.a0 2 6 ≠ 0 then (s, .done 0x03 0 0 0)
  else if bitAt h.a0 8 then
    if h.a1 + h.a2 > installed ∨ inReserved h.a1 h.a2 = true then (s, .done 0x04 0 0 0)
    else
      let (bs, bad, s) := s.memRead h.a1 h.a2 physTweak false
      if bad then (s, .done 0x0C 0 0 0) else s.loadImage v bs h
  else s.loadImage v (image.take h.a2) h

/-- PLAN_LOAD (R50, R51). -/
def execPlanLoad (h : HostCmd) (image : List Byte) (s : State) : Result :=
  .next (s.runCmd h cmdPlanLoad (.planLoad h image) fun s => s.planLoad h image)

/-! ### Activation (R52, R77, R191, R282) -/

/-- A core's rank among the cores of a load (R77). -/
def Variant.rank (x : Variant) (c : Nat) : Nat := (x.cores.filter fun e => decide (e.1 < c)).length

/-- The initial value of register `k` of core `c` when a variant becomes active (R52): n and the core's rank as they were at
its load in p62 and p63 of a parameterised image (R77). -/
def Variant.startParam (x : Variant) (c k : Nat) : Nat :=
  if (header x.image).param ∧ k = 62 then x.cores.length
  else if (header x.image).param ∧ k = 63 then x.rank c
  else initialParam x.image c k

/-- A core takes a variant's preload and initial parameters (R52). -/
def State.loadCore (s : State) (x : Variant) (c : Nat) : State :=
  let k := (preload x.image c).foldl (fun k e => spadWrite k (64 * e.1) e.2) (s.core c)
  s.setCore c { k with pLive := Assoc.putRange 0 k.pLive 0 ((List.range 64).map fun i => x.startParam c i) }

/-- Every mapped register of a variant takes its field's value from the live slot table (R181, R282). -/
def State.resolveAll (s : State) (v : Nat) : State :=
  (paramMap (s.variant v).image).foldl (fun s e =>
    let k := s.core e.core
    s.setCore e.core { k with pLive := Assoc.put 0 k.pLive e.preg (s.fieldValue (s.liveSlot v e.slot) e.field % 2 ^ 64) }) s

/-- The slot table template becomes the variant's live table; an entry that names a free context, or one that an earlier slot
holds, stays UNBOUND (R182). -/
def State.loadTemplate (s : State) (v : Nat) : State :=
  let im := (s.variant v).image
  (List.range (header im).slots).foldl (fun s n =>
    let id := slotTemplate im n
    let twice := (List.range n).any fun m => decide (slotTemplate im m = id)
    let id := if (s.ctx id).field .state = 0 ∨ twice = true then 0 else id
    let x := s.variant v
    let s := s.setVariant v { x with slots := Assoc.put 0 x.slots n id }
    if id = 0 then s else s.setCtx id ((s.ctx id).setField .state 2)) s

/-- The lines of core `c`'s scratchpad from which selection unit `u` reads its table. -/
def State.unitTable (s : State) (u : Nat) : List Nat :=
  if s.coreValid (16 * u) then
    let k := s.core (16 * u)
    let p58 := Assoc.get 0 k.pLive 58
    (List.range (bitsOf p58 16 8)).map fun n => natOfBytes (spadBytes k (64 * bitsOf p58 0 16 + 32 * n) 32)
  else []

/-- Every selection unit copies its job table (R190, R191). -/
def State.copyTables (s : State) : State :=
  (List.range 16).foldl (fun s u =>
    let table := s.unitTable u
    let line := if s.coreValid (16 * u) then bitsOf (Assoc.get 0 (s.core (16 * u)).pLive 58) 0 16 else 0
    let s := s.setSel u { s.selUnit u with table := table, next := 0, run := none }
    (s.rset SRV_SEL_STATE.JOBS u table.length).rset SRV_SEL_STATE.TABLE_LINE u line) s

/-- A variant becomes active: preloads, initial parameters, with PLAN_ACTIVATE the slot table template, and the
job tables; the former one becomes READY (R52, R191, R282). -/
def State.makeActive (s : State) (v : Nat) (template : Bool) : State :=
  let s := match s.plan.active with
    | some old => if s.rget PLAN_VAR_STATE.STATE old = 3 then s.rset PLAN_VAR_STATE.STATE old 2 else s
    | none => s
  let s := { s with plan := { s.plan with active := some v } }
  let s := (s.rset PLAN_VAR_STATE.STATE v 3).rset0 PLAN_FRAME_CTRL.ACTIVE v
  let s := s.validCores.foldl (fun s c => s.loadCore (s.variant v) c) s
  let s := if template then s.loadTemplate v else s
  ((s.resolveAll v).copyTables).settleAll

/-- An apply tick that PLAN_ACTIVATE and FRAME_STOP may name (R52, R55, R62): none when it may not be named. While no
frames run (RUN = 0, which it is until T0: log 54), 0 names the next one. -/
def State.namedApply (s : State) (tick : Nat) : Option Nat :=
  if tick = 0 then (if s.running then none else some (s.applyAfter s.gst))
  else if tick > s.gst ∧ s.applyAfter (tick - 1) = tick then some tick else none

/-- PLAN_ACTIVATE's effect: the activation waits for its apply tick (R52). -/
def State.planActivate (s : State) (h : HostCmd) : State × CmdEnd :=
  if h.a0 ≥ 4 then (s, .done 0x03 0 0 0)
  else if s.rget PLAN_VAR_STATE.STATE h.a0 ≠ 2 then (s, .done 0x04 0 0 0)
  else
    match s.namedApply h.a1 with
    | none => (s, .done 0x04 0 0 0)
    | some a =>
      if s.frame.activates.any (fun e => e.1 = a) then (s, .done 0x01 0 0 0)
      else (s.setFrame { s.frame with activates := s.frame.activates ++ [(a, h.a0, h)] }, .later)

/-- PLAN_ACTIVATE (R52). -/
def execPlanActivate (h : HostCmd) (s : State) : Result := .next (s.runCmd h cmdPlanActivate (.planActivate h) fun s => s.planActivate h)

/-! ### PLAN_UNLOAD (R53) -/

/-- A patch set without its binds of a variant. -/
def PatchSet.forget (p : PatchSet) (v : Nat) : PatchSet := { p with binds := p.binds.filter fun e => e.1 / 4096 ≠ v }

/-- A variant slot is emptied, and what was bound only in it is bound no more. REASON returns to 0 with the slot's other
fields (log 56). -/
def State.emptyVariant (s : State) (v : Nat) : State :=
  let s := s.showVariant v []
  let s := ((s.rset PLAN_VAR_STATE.STATE v 0).rset PLAN_VAR_STATE.REASON v 0).setVariant v {}
  let f := s.frame
  let s := s.setFrame { f with openSet := f.openSet.forget v, closedSet := f.closedSet.map fun c => c.forget v,
                               holdAfterStop := false }
  let s := { s with plan := { s.plan with active := if s.plan.active = some v then none else s.plan.active } }
  s.settleAll

/-- PLAN_UNLOAD's effect (R53). An activation that waits for its tick finds the slot EMPTY then. -/
def State.planUnload (s : State) (h : HostCmd) : State × CmdEnd :=
  if h.a0 ≥ 4 then (s, .done 0x03 0 0 0)
  else if s.plan.active = some h.a0 ∧ s.frame.phase ≠ .idle then (s, .done 0x04 0 0 0)
  else ((s.dropLoads fun v => decide (v = h.a0)).emptyVariant h.a0, .done 0 0 0 0)

/-- PLAN_UNLOAD (R53, R62): it settles the contexts of its slots, so it waits while the commit engine owns the descriptors
(R182). -/
def execPlanUnload (h : HostCmd) (s : State) : Result :=
  .next (s.orDefer (.planUnload h) (s.runCmd h cmdPlanUnload (.planUnload h) fun s => s.planUnload h))

/-! ### DIGEST_RECHECK (R54) -/

/-- The recheck of one variant: a mismatch is fault 0x13 on the active one and FAILED on a READY one. -/
def State.recheck (s : State) (v : Nat) : State :=
  let st := s.rget PLAN_VAR_STATE.STATE v
  if (st ≠ 2 ∧ st ≠ 3) ∨ digestOk (s.variant v).image = true then s
  else if st = 3 then s.raiseFault { cause := 0x13, region := regionCode 143, detail := v } s.ftick
  else (s.rset PLAN_VAR_STATE.STATE v 5).rset PLAN_VAR_STATE.REASON v 0x0C

/-- DIGEST_RECHECK (R54). -/
def execDigestRecheck (s : State) : Result := .next ((List.range 4).foldl (fun s v => s.recheck v) s)

/-! ### Slots and parameters (R64, R182) -/

/-- ARG0 of SLOT_BIND and SLOT_UNBIND has its reserved bits 0. -/
def slotArgOk (a : Nat) : Bool := decide (bitsOf a 2 14 = 0) && decide (a < 2 ^ 28)

/-- The status with which SLOT_BIND and SLOT_UNBIND refuse a variant and slot; 0 when they may go on. -/
def State.slotStatus (s : State) (h : HostCmd) : Nat :=
  let v := bitsOf h.a0 0 2
  if ¬ slotArgOk h.a0 then 0x03
  else if s.rget PLAN_VAR_STATE.STATE v = 0 then 0x01
  else if bitsOf h.a0 16 12 ≥ s.rget PLAN_VAR_STATE.SLOTS v then 0x03
  else 0

/-- SLOT_BIND's effect (R64, R182, R305). -/
def State.slotBind (s : State) (h : HostCmd) : State × CmdEnd :=
  let v := bitsOf h.a0 0 2
  let n := bitsOf h.a0 16 12
  let id := h.a1
  let st := s.slotStatus h
  if st ≠ 0 then (s, .done st 0 0 0)
  else if id ≥ 2 ^ 16 then (s, .done 0x03 0 0 0)
  else if s.unbindPending id then (s, .done 0x01 0 0 0)
  else
    let state := (s.ctx id).field .state
    if ¬ (state = 1 ∨ state = 2) ∨ (s.slotKeys v).any (fun m => decide (m ≠ n) && decide (s.shadowSlot v m = id)) = true then
      (s, .done 0x01 0 0 0)
    else
      let s := (s.shadowBind v n id).resolveShadow v n id
      (s.setCtx id ((s.ctx id).setField .state 2), .done 0 0 0 0)

/-- SLOT_BIND (R64). -/
def execSlotBind (h : HostCmd) (s : State) : Result :=
  .next (s.orDefer (.slotBind h) (s.runCmd h cmdSlotBind (.slotBind h) fun s => s.slotBind h))

/-- SLOT_UNBIND's effect (R64). -/
def State.slotUnbind (s : State) (h : HostCmd) : State × CmdEnd :=
  let v := bitsOf h.a0 0 2
  let n := bitsOf h.a0 16 12
  let st := s.slotStatus h
  if st ≠ 0 then (s, .done st 0 0 0)
  else ((s.shadowBind v n 0).resolveShadow v n 0, .done 0 0 0 0)

/-- SLOT_UNBIND (R64). -/
def execSlotUnbind (h : HostCmd) (s : State) : Result :=
  .next (s.orDefer (.slotUnbind h) (s.runCmd h cmdSlotUnbind (.slotUnbind h) fun s => s.slotUnbind h))

/-- PARAM_PATCH's effect (R64). -/
def State.paramPatch (s : State) (h : HostCmd) : State × CmdEnd :=
  let c := bitsOf h.a0 0 8
  if h.a0 ≥ 2 ^ 14 ∨ s.coreValid c = false then (s, .done 0x03 0 0 0)
  else (s.shadowWrite c (bitsOf h.a0 8 6) h.a1, .done 0 0 0 0)

/-- PARAM_PATCH (R64). -/
def execParamPatch (h : HostCmd) (s : State) : Result := .next (s.runCmd h cmdParamPatch (.paramPatch h) fun s => s.paramPatch h)

/-! ### PLAN_FAULT_HEAD (R72) -/

/-- A write of TAIL sets UNREAD; OVF is cleared by a 1. -/
def State.faultTail (s : State) (value : Nat) : State :=
  let tail := bitsOf value 8 6
  let s := s.rset0 PLAN_FAULT_HEAD.TAIL tail
  let s := s.rset0 PLAN_FAULT_HEAD.UNREAD ((s.rget PLAN_FAULT_HEAD.HEAD + 64 - tail) % 64)
  if bitAt value 31 then s.clearBits PLAN_FAULT_HEAD.OVF 0 1 else s

/-- PLAN_FAULT_HEAD (R72). -/
def execPlanFaultHead (agent : Agent) (value : Nat) (s : State) : Result :=
  .next (s.regWrite agent 0x40300 fun s => s.faultTail value)

/-! ### Fault records (R71, R72) -/

/-- A fault record's 32 bytes (R71). -/
def FaultRec.bytes (f : FaultRec) : List Byte :=
  bytesOf f.gst 8 ++ bytesOf f.ftick 4 ++ bytesOf f.pc 4 ++ bytesOf f.cause 1 ++ bytesOf f.queue 1 ++ bytesOf f.region 2 ++
  bytesOf f.lcore 2 ++ bytesOf f.variant 1 ++ bytesOf f.flags 1 ++ bytesOf f.origin 2 ++ bytesOf f.unit 2 ++
  bytesOf f.detail 4

/-- The unread records of the fault log, the oldest first (R72). -/
def State.faultBytes (s : State) : List Byte :=
  (List.range (s.rget PLAN_FAULT_HEAD.UNREAD)).flatMap fun i =>
    (Assoc.get ({} : FaultRec) s.plan.log ((s.rget PLAN_FAULT_HEAD.TAIL + i) % 64)).bytes

end Sys2Proof.Machine
end

