-- ==== Sys2Proof/Machine/Boundary.lean ====
section
/-! DEFINITION. What a frame boundary does (spec/03, boundaries): power averages (R74 to R76), the snapshots of
the decision tick (R73), the commit list (R57, R200, R201), the replies that wait (R296, R298), the patch set
(R65 to R68), the refresh (R184), the VF unbinds (R304) and the map change (R14). -/
namespace Sys2Proof.Machine

/-! ### Power (R74 to R76, R317, R320) -/

/-- A core region's static charge in a state (R317). -/
def stateCharge (st : Nat) : Nat :=
  match st with
  | 0 => 80
  | 1 => 8
  | 2 => 1
  | _ => 0

/-- The ticks that `[a, b)` and `[c, d)` share. -/
def sharedTicks (a b c d : Nat) : Nat := Nat.min b d - Nat.max a c

/-- A sleep's charge within `[a, b)`: the P0 static charge on the entry and exit ticks, its state's between
them (R320). -/
def Sleep.charge (e : Sleep) (a b : Nat) : Nat :=
  let x := if e.state = 5 then 0 else exitTicks e.state
  let lo := Nat.min e.stop (e.start + x)
  let hi := Nat.max lo (e.stop - x)
  80 * (sharedTicks a b e.start lo + sharedTicks a b hi e.stop) + stateCharge e.state * sharedTicks a b lo hi

/-- Region `r`'s static charges over frame ticks `[a, b)` (R74, R317): a core region that runs a logical core,
two stacks of a memory region, the ports that are up of a port region. -/
def State.staticCharge (s : State) (r a b : Nat) : Nat :=
  if isCoreRegion r then
    if (s.coreOfRegion r).isNone then 0
    else if s.rget PWR_REGION.PSTATE r ≠ 0 ∧ s.rget PWR_REGION.SCHED r = 0 then (b - a) * stateCharge (s.rget PWR_REGION.PSTATE r)
    else
      let sl := (s.activeProfile r).sleeps
      let asleep := (sl.map fun e => sharedTicks a b e.start e.stop).sum
      120 * ((b - a) - asleep) + (sl.map fun e => e.charge a b).sum
  else if 136 ≤ r % 144 ∧ r % 144 < 139 then 16000 * (b - a)
  else if 139 ≤ r % 144 ∧ r % 144 < 142 then
    2000 * ((List.range 18).filter fun p => decide (regionOfPort p = r) && s.portUp p).length * (b - a)
  else 0

/-- The last tick of interval `m` of the frame, exclusive (R75). -/
def State.intervalEnd (s : State) (m : Nat) : Nat := Nat.min (4096 * (m + 1)) s.frameLen

/-- Region `r`'s charge of interval `m` up to frame tick `t`, exclusive. -/
def State.intervalCharge (s : State) (r m t : Nat) : Nat :=
  Assoc.get 0 (s.region r).charges m + s.staticCharge r (4096 * m) (Nat.min t (s.intervalEnd m))

/-- The regions that the plan is charged in (R75). -/
def State.chargedRegions (s : State) : List Nat :=
  (List.range 288).filter fun r => (isCoreRegion r && (s.coreOfRegion r).isSome) || (decide (136 ≤ r % 144) && decide (r % 144 < 142))

/-- The active profile's limit of region `r` in interval `m`, in 1/16 PU. -/
def State.regionLimit (s : State) (r m : Nat) : Nat := limitAt (s.activeProfile r).runs m

/-- A charge exceeds a limit over an interval of `n` ticks (R76). -/
def chargeOver (charge limit n : Nat) : Bool := decide (16 * charge > limit * n * 1000)

/-- The greatest average and the least headroom of region `r` in the frame, in 1/16 PU (R76). -/
def State.powerSnap (s : State) (r : Nat) : Nat × Nat :=
  (List.range (intervalsOf s.frameLen)).foldl (fun a m =>
    let n := s.intervalEnd m - 4096 * m
    let c := s.intervalCharge r m (s.intervalEnd m)
    let avg := 16 * c / (n * 1000)
    let lim := s.regionLimit r m
    (Nat.max a.1 (Nat.min 65535 avg), Nat.min a.2 (if chargeOver c lim n then 0 else lim - avg))) (0, 65535)

/-! ### Snapshots (R47, R73, R151, R161, R202, R257, R269) -/

/-- The cores' numeric flags (R151). -/
def State.latchFlags (s : State) : State :=
  s.mapCores fun k => { k with flagsSnap := k.flags, flags := 0 }

/-- The link counters of every port and of the Guyline (R236, R237); the greatest occupancy of the next frame starts from the
present one. -/
def State.latchLinks (s : State) : State :=
  let s := (List.range 18).foldl (fun s p =>
    let x := s.port p
    let s := (List.range 8).foldl (fun s k => s.rset KL_CNT_SNAP.VALUE (512 * p + k) (Assoc.get 0 x.live k)) s
    s.setPort p { x with live := Assoc.put 0 [] 7 x.replay.length }) s
  let g := s.gl
  let s := (s.rset0 GL_CNT_SNAP.CODE_ERR (Nat.min g.codeErr 65535)).rset0 GL_CNT_SNAP.CRC_ERR (Nat.min g.crcErr 65535)
  let s := (s.rset0 GL_CNT_SNAP.RELOCKS (Nat.min g.relocks 255)).rset0 GL_CNT_SNAP.MARKERS (Nat.min g.markers 255)
  let s := s.rset0 GL_CNT_SNAP.DROPPED (Nat.min g.dropped 65535)
  { s with gl := { g with codeErr := 0, crcErr := 0, relocks := 0, markers := 0, dropped := 0 } }

/-- The fabric's and the memory's counters (R161, R256). -/
def State.latchPlane (s : State) : State :=
  let s := (List.range 8).foldl (fun s k => s.rset FAB_CNT_SNAP.VALUE k (Assoc.get 0 s.fab.live k)) s
  let s := (List.range 12).foldl (fun s k =>
    let s := (s.rset MEM_ECC_SNAP.CE k (Assoc.get 0 s.mem.ceLive k)).rset MEM_ECC_SNAP.UE k (Nat.min 65535 (Assoc.get 0 s.mem.ueLive k))
    s.rset MEM_ECC_SNAP.HOT k (if s.mem.hot.contains k then 1 else 0)) s
  { s with fab := { s.fab with live := [] }, mem := { s.mem with ceLive := [], ueLive := [], hot := [] } }

/-- The selection units' counters, each saturating at its field's greatest value (R202). -/
def State.latchSel (s : State) : State :=
  (List.range 16).foldl (fun s u =>
    let x := s.selUnit u
    let s := (s.rset SRV_SEL_SNAP.JOBS u (Nat.min 255 x.jobs)).rset SRV_SEL_SNAP.BUBBLES u (Nat.min 255 x.bubbles)
    let s := (s.rset SRV_SEL_SNAP.PROPOSED u (Nat.min 65535 x.proposed)).rset SRV_SEL_SNAP.ACCEPTED u (Nat.min 65535 x.accepted)
    let s := (s.rset SRV_SEL_SNAP.COMMITTED u (Nat.min 65535 x.committed)).rset SRV_SEL_SNAP2.NAN u (Nat.min 65535 x.nan)
    let s := (s.rset SRV_SEL_SNAP2.EMPTY u (Nat.min 255 x.empty)).rset SRV_SEL_SNAP2.DROPPED u (Nat.min 255 x.dropped)
    s.setSel u { x with jobs := 0, bubbles := 0, proposed := 0, accepted := 0, committed := 0, nan := 0, empty := 0,
                        dropped := 0 }) s

/-- The power averages of every region (0 and the greatest headroom where the plan is charged nothing), the charges of telemetry count 9, and the regions' debts (R47, R76, R257, R325). -/
def State.latchPower (s : State) : State :=
  let snaps := (List.range 288).map fun r => (r, if s.chargedRegions.contains r then s.powerSnap r else (0, 65535))
  let static := (s.chargedRegions.map fun r => s.staticCharge r 0 s.frameLen).sum
  let s := s.telCharge static
  let s := { s.rset0 PWR_MEASURE.PEAK_W s.pwr.peak with pwr := { s.pwr with peak := 0 } }
  let s := snaps.foldl (fun s e => (s.rset PLAN_PWR_SNAP.PEAK e.1 e.2.1).rset PLAN_PWR_SNAP.HEADROOM e.1 e.2.2) s
  (List.range 288).foldl (fun s r =>
    (s.rset CLK_REGION_DEBT.MAX_LAST r (s.rget CLK_REGION_DEBT.MAX_LIVE r)).rset CLK_REGION_DEBT.MAX_LIVE r 0) s

/-- The telemetry counts (R257) and the Cairn's (R269). -/
def State.latchTel (s : State) : State :=
  let s := (List.range 12).foldl (fun s k => s.rset TEL_CNT_SNAP.VALUE k (Assoc.get 0 s.fab.tel k)) s
  let s := (s.rset0 AUD_SNAP.RECORDS s.srv.records).rset0 AUD_SNAP.LAST_DONE s.srv.lastDone
  { s with fab := { s.fab with tel := [], telMilli := 0 }, srv := { s.srv with records := 0, lastDone := 0 } }

/-- The frame's own record, and last of all the generation (R73). -/
def State.latchFrame (s : State) : State :=
  let f := s.frame
  let s := s.rset0 PLAN_SNAP_FRAME.SEQ (s.rget PLAN_FRAME_SEQ.SEQ)
  let s := (s.rset0 PLAN_SNAP_INFO.VERDICT f.verdict).rset0 PLAN_SNAP_INFO.CAUSE (f.first.map (·.cause)|>.getD 0)
  let s := (s.rset0 PLAN_SNAP_INFO.FAULTS (Nat.min 65535 f.faults)).rset0 PLAN_SNAP_INFO.CONFIG (s.rget PLAN_CONFIG.LIVE)
  s.rinc PLAN_SNAP_GEN.GEN 0

/-- Every per-frame counter is copied to its snapshot and starts again from 0 (R73). -/
def State.latch (s : State) : State :=
  s.latchFlags.latchLinks.latchPower.latchPlane.latchSel.latchTel.latchFrame

/-! ### The commit list (R57, R185, R200, R201, R262, R265) -/

/-- The commit list in its order: by unit, then by job, then as the job added them (R200). -/
def insertCommit (e : Nat × CommitEntry) : List (Nat × CommitEntry) → List (Nat × CommitEntry)
  | [] => [e]
  | x :: xs => if e.1 < x.1 then e :: x :: xs else x :: insertCommit e xs

/-- The commit list sorted. -/
def sortCommits (l : List (Nat × CommitEntry)) : List (Nat × CommitEntry) := l.foldl (fun acc e => insertCommit e acc) []

/-- The count page with one more of a token: none when it is full (R201). -/
def addCount (page : List Nat) (token : Nat) : Option (List Nat) :=
  match page with
  | [] => some [token + 2 ^ 20]
  | e :: rest =>
    if e % 2 ^ 20 = token then some ((token + Nat.min 4095 (bitsOf e 20 12 + 1) * 2 ^ 20) :: rest)
    else if token < e % 2 ^ 20 then some ((token + 2 ^ 20) :: e :: rest)
    else (addCount rest token).map (e :: ·)

/-- A COUNT entry (R201). -/
def State.commitCount (s : State) (id token unit : Nat) : State :=
  let c := s.ctx id
  let n := c.field .ncount
  let va := bitsOf (c.field .layout) 0 16 * granule
  let (bs, _, s) := s.ctxRead id va (4 * n)
  let page := wordsOf 4 bs
  match addCount page token with
  | none => s
  | some page' =>
    if page'.length > 8192 then
      let x := s.selUnit unit
      (s.setCtx id (c.setField .flags 1)).setSel unit { x with dropped := x.dropped + 1 }
    else (s.setCtx id (c.setField .ncount page'.length)).ctxWrite id va (page'.flatMap fun w => bytesOf w 4) |>.2

/-- An ADVANCE entry (R200). -/
def Ctx.advance (c : Ctx) (n : Nat) (last : Option Nat) (cand : Option (List Nat)) : Ctx :=
  let c := c.setField .pos (c.field .pos + n)
  let c := c.setField .steps (c.field .steps + 1)
  let c := match last with
    | some t => c.setField .last t
    | none => c
  match cand with
  | some ts =>
    let c := { c with words := Assoc.put 0 c.words 9 (ts.getD 0 0 + ts.getD 1 0 * 2 ^ 32) }
    { c with words := Assoc.put 0 c.words 10 (ts.getD 2 0 + ts.getD 3 0 * 2 ^ 32) }
  | none => c

/-- A committed token takes its place in its lane (R262, R265). -/
def State.cairnToken (s : State) (id token pos unit : Nat) : State :=
  let c := s.ctx id
  let h := s.activeImage
  let lane := s.srv.cairn.filter fun t => decide (t.lane = unit)
  let t : CairnTok := { lane := unit, order := lane.length, ctx := id, token := token, pos := pos,
                        steps := c.field .steps - 1, seed := c.field .seed, frame := s.rget PLAN_FRAME_SEQ.SEQ,
                        config := s.rget PLAN_CONFIG.LIVE, variant := s.plan.active.getD 0, digest := leAt h 0x60 32,
                        weights := leAt h 0x40 32, decided := s.decideTick }
  ({ s with srv := { s.srv with cairn := s.srv.cairn ++ [t] } }).rset0 AUD_HEAD.PENDING (s.srv.cairn.length + 1)

/-- One entry of the commit list is published (R200, R201). -/
def State.publish (s : State) (unit : Nat) (e : CommitEntry) : State :=
  match e with
  | .advance id n last cand =>
    let s := s.setCtx id ((s.ctx id).advance n last cand)
    s.setFrame { s.frame with updated := s.frame.updated ++ [id] }
  | .count id token => s.commitCount id token unit
  | .output id token pos unit =>
    let c := s.ctx id
    let va := bitsOf (c.field .layout) 16 16 * granule + 4 * (pos % 4096)
    (s.ctxWrite id va (bytesOf (token % 2 ^ 20 + c.field .steps % 4096 * 2 ^ 20) 4)).2.cairnToken id token pos unit

/-- The first `n` entries of the list that are not published yet are (R57). -/
def State.publishN (s : State) (n : Nat) : State :=
  (s.frame.commits.take n).foldl (fun s e => s.publish (e.1 / 256) e.2)
    (s.setFrame { s.frame with commits := s.frame.commits.drop n, published := s.frame.published + n })

/-- The entries whose ticks have come are published: eight in each tick after the decision tick (R57, log 23). -/
def State.publishDue (s : State) : State :=
  if s.frame.phase = .decided ∧ s.frame.commits ≠ [] then s.publishN (8 * (s.gst - s.decideTick) - s.frame.published) else s

/-- At A the commit engine is done (R57). -/
def State.publishAll (s : State) : State := s.publishN s.frame.commits.length

/-! ### Replies that wait (R296, R298) -/

/-- The replies due at this frame's decision tick. -/
def State.answerWaits (s : State) : State :=
  let seq := s.rget PLAN_FRAME_SEQ.SEQ
  let status := if s.failSafe then 0x0F else if s.frame.committed then 0x00 else 0x10
  let due := s.frame.waits.filter fun w => w.seq = some seq
  let s := s.setFrame { s.frame with waits := s.frame.waits.filter fun w => ¬ (w.seq = some seq) }
  due.foldl (fun s w =>
    if w.isFrameWait then s.reply w.cmd w.opcode status 0 seq (s.rget PLAN_STEP.STEP)
    else s.reply w.cmd w.opcode status 0 w.r0 w.r1) s

/-- The commands that wait on the closed set are answered FLUSHED (R296). -/
def State.flushClosed (s : State) : State :=
  let due := s.frame.waits.filter fun w => w.set = 2
  let s := s.setFrame { s.frame with waits := s.frame.waits.filter fun w => ¬ (w.set = 2) }
  due.foldl (fun s w => s.reply w.cmd w.opcode 0x0E 0 w.r0 w.r1) s

/-! ### Table writes (R67, R68) -/

/-- The table writes whose ticks have come are made; a two-phase set then awaits its second phase. -/
def State.flushTables (s : State) : State :=
  if s.frame.tableWrites.isEmpty then s
  else
    let due := s.frame.tableWrites.filter fun e => decide (e.1 ≤ s.gst)
    let left := s.frame.tableWrites.filter fun e => decide (e.1 > s.gst)
    let s := due.foldl (fun (s : State) (e : Nat × TableWrite) => (s.applyTable e.2).2) (s.setFrame { s.frame with tableWrites := left })
    if left.isEmpty ∧ s.rget PLAN_PATCH_STATE.PHASE = 2 then s.rset0 PLAN_PATCH_STATE.PHASE 3 else s

/-- A set's table writes start at an apply tick, one in each tick (R67, R68). The kept page-table entries of the
DMA engines are dropped (R165). -/
def State.startTables (s : State) (ws : List TableWrite) (tick : Nat) : State :=
  if ws.isEmpty then s
  else
    let drop (k : Core) : Core := { k with dma := k.dma.map fun (e : Nat × DmaCh) => (e.1, { e.2 with kept := none }) }
    let s := s.mapCores drop
    let new := ((List.range ws.length).zip ws).map fun (e : Nat × TableWrite) => (tick + e.1, e.2)
    (s.setFrame { s.frame with tableWrites := s.frame.tableWrites ++ new }).flushTables

/-! ### The patch set (R65 to R68) -/

/-- The closed set is dropped with a result, and none of its table writes is made any more (R66, R68). -/
def State.dropSet (s : State) (result : Nat) : State :=
  let s := s.setFrame { s.frame with closedSet := none, tableWrites := [] }
  let s := (s.rset0 PLAN_PATCH_STATE.CLOSED 0).rset0 PLAN_PATCH_STATE.PHASE 0
  let s := (s.rset0 PLAN_PATCH_STATE.RESULT result).rset0 PLAN_CONFIG.STAGED 0
  s.flushClosed.settleAll

/-- The shadow values of a set become live in one tick on every core (R65). -/
def State.swap (s : State) (c : PatchSet) : State :=
  let s := c.params.foldl (fun (s : State) (e : Nat × Option Nat) =>
    match e.2 with
    | some v => s.setCore (e.1 / 64) { s.core (e.1 / 64) with pLive := Assoc.put 0 (s.core (e.1 / 64)).pLive (e.1 % 64) v }
    | none => s) s
  let s := c.binds.foldl (fun (s : State) (e : Nat × Option Nat) =>
    match e.2 with
    | some id => s.setVariant (e.1 / 4096) { s.variant (e.1 / 4096) with slots := Assoc.put 0 (s.variant (e.1 / 4096)).slots (e.1 % 4096) id }
    | none => s) s
  let waits := s.frame.waits.map fun w => if w.set = 2 then { w with set := 0 } else w
  let s := s.setFrame { s.frame with closedSet := none, waits := waits }
  let s := (s.rset0 PLAN_CONFIG.LIVE c.config).rset0 PLAN_CONFIG.STAGED 0
  let s := (s.rset0 PLAN_PATCH_STATE.CLOSED 0).rset0 PLAN_PATCH_STATE.PHASE 0
  (s.rset0 PLAN_PATCH_STATE.RESULT 1).settleAll

/-- An address lies in the table of a page-table register, or in a granule that the table maps (R163, R164). -/
def State.reaches (s : State) (pt addr : Nat) : Bool :=
  ptValid pt && ((decide (ptBase pt ≤ addr) && decide (addr < ptBase pt + 8 * 2 ^ ptLog2 pt)) ||
    (List.range (2 ^ ptLog2 pt)).any fun k =>
      match ptCheck pt (granule * k) (s.memNat (ptBase pt + 8 * k) 8) false with
      | .inl phys => decide (phys / granule = addr / granule)
      | .inr _ => false)

/-- Where a table write lands: a locator's address goes through its context's table (R185). -/
def State.writeTarget (s : State) (w : TableWrite) : Nat :=
  if w.kind = 1 then
    let pt := (s.ctx w.ctx).field .pt
    match ptCheck pt w.addr (s.memNat (ptEntryAt pt w.addr) 8) true with
    | .inl phys => phys
    | .inr _ => w.addr
  else w.addr

/-- A table write of the set targets an entry that a context bound in the live configuration owns, or that its tables
reach (R68). -/
def State.hitsLive (s : State) (c : PatchSet) : Bool :=
  c.writes.any fun w =>
    s.boundLive w.ctx || s.srv.ctxs.any fun e => s.boundLive e.1 &&
      (s.reaches (e.2.field .pt) (s.writeTarget w) || s.reaches (e.2.field .rpt) (s.writeTarget w))

/-- Step 4 of R58 at an apply tick: the closed set, single-phase or by its phases (R66 to R68). An apply tick while the
writes of its first phase still run is none of its ticks. -/
def State.applySet (s : State) (tick : Nat) : State :=
  match s.frame.closedSet with
  | none => s
  | some c =>
    let ready := decide (s.plan.active = some c.variant) &&
      (decide (s.frame.phase = .idle) || decide (s.frame.phase = .waiting) || s.frame.committed)
    let first := decide (s.rget PLAN_PATCH_STATE.PHASE = 1)
    if ¬ ready ∨ (first = false ∧ s.frame.tableWrites.isEmpty = false) then s
    else if c.epoch ≠ s.rget ROLL_EPOCH.EPOCH then s.dropSet 2
    else if c.writes.length ≤ 1024 then (s.swap c).startTables c.writes tick
    else if first then
      if s.hitsLive c then s.dropSet 3
      else (s.rset0 PLAN_PATCH_STATE.PHASE 2).startTables c.writes tick
    else s.swap c

/-! ### Refresh (R184) -/

/-- The live registers of the slots whose contexts the commit list updated take the new values; the shadow
follows the live value where no set has written it (R184). -/
def State.refresh (s : State) : State :=
  match s.plan.active with
  | none => s
  | some v =>
    (paramMap (s.variant v).image).foldl (fun s e =>
      let id := s.liveSlot v e.slot
      if id ≠ 0 ∧ s.frame.updated.contains id = true then
        let k := s.core e.core
        s.setCore e.core { k with pLive := Assoc.put 0 k.pLive e.preg (s.fieldValue id e.field % 2 ^ 64) }
      else s) s

/-! ### Unbinds (R58, R287, R304) -/

/-- A set's binds of a context become unbinds of their slots, with the values of an unbound slot. -/
def State.dropBinds (s : State) (c : PatchSet) (id : Nat) : PatchSet × Nat :=
  let hits := c.binds.filter fun e => e.2 = some id
  let binds := c.binds.map fun e => if e.2 = some id then (e.1, some 0) else e
  let params := hits.foldl (fun m e =>
    (s.slotMap (e.1 / 4096) (e.1 % 4096)).foldl (fun m x =>
      Assoc.put none m (64 * x.core + x.preg) (some (unboundValue x.field))) m) c.params
  ({ c with binds := binds, params := params }, hits.length)

/-- A context leaves every live and shadow slot table; its slots run as bubbles (R58, R304). -/
def State.unbindCtx (s : State) (id : Nat) : State :=
  let (o, n1) := s.dropBinds s.frame.openSet id
  let (c, n2) := match s.frame.closedSet with
    | some c => let (c, n) := s.dropBinds c id; (some c, n)
    | none => (none, 0)
  let s := s.setFrame { s.frame with openSet := o, closedSet := c }
  let s := s.rset0 PLAN_PATCH_STATE.DROPPED (Nat.min 511 (s.rget PLAN_PATCH_STATE.DROPPED + n1 + n2))
  let s := (List.range 4).foldl (fun s v =>
    let x := s.variant v
    let hit := (x.slots.filter fun e => e.2 = id).map (·.1)
    let s := s.setVariant v { x with slots := x.slots.filter fun e => e.2 ≠ id }
    if s.plan.active = some v then hit.foldl (fun s n => s.resolveLive v n 0) s else s) s
  if (s.ctx id).field .state = 2 then s.setCtx id ((s.ctx id).setField .state 1) else s

/-- The contexts to unbind at an apply tick: those of reset VFs, and those that lost their pages (R287, R304). -/
def State.dueUnbinds (s : State) (tick : Nat) : List Nat :=
  (s.srv.ctxs.filter fun e => s.host.unbind.contains (e.2.field .func)).map (·.1) ++
    (s.roll.unbinds.filter fun e => decide (e.1 ≤ tick)).map (·.2)

/-- Step 3 of R58. -/
def State.applyUnbinds (s : State) (tick : Nat) : State :=
  let ids := s.dueUnbinds tick
  let s := s.rset0 PLAN_PATCH_STATE.DROPPED 0
  let s := ids.foldl (fun s id => s.unbindCtx id) s
  let s := if s.host.unbind.isEmpty then s else s.event HOST_EVENT.UNBIND_DONE
  { s with host := { s.host with unbind := [] },
           roll := { s.roll with unbinds := s.roll.unbinds.filter fun e => ¬ (e.1 ≤ tick) } }

/-! ### Map change (R13, R14, R364) -/

/-- The active variant uses logical core `c`. -/
def State.usesCore (s : State) (c : Nat) : Bool :=
  match s.plan.active with
  | none => false
  | some v =>
    let im := (s.variant v).image
    (header im).param || (sections im).any fun x => perCore x.type && decide (x.core = c)

/-- A READY variant with a pinned entry for a logical core that has moved becomes FAILED (R363). -/
def State.failPinned (s : State) (c : Nat) : State :=
  (List.range 4).foldl (fun s v =>
    let im := (s.variant v).image
    if s.rget PLAN_VAR_STATE.STATE v = 2 ∧ (header im).param = false ∧ c < (header im).lcores ∧ (timingPlace im c).isSome = true then
      (s.rset PLAN_VAR_STATE.STATE v 5).rset PLAN_VAR_STATE.REASON v 0x07
    else s) s

/-- Step 5 of R58: a retirement that no core of the active variant stands in the way of (R364). -/
def State.applyMap (s : State) : State :=
  match s.rgr.retire with
  | none => s
  | some (old, spare) =>
    match s.coreOfRegion old with
    | none => s
    | some c =>
      if s.usesCore c then s
      else
        let new := if spare < 288 then some spare else none
        let s := { s with coreMap := Assoc.insert s.coreMap c new,
                          pcores := Assoc.insert (if spare < 288 then Assoc.insert s.pcores spare 0 else s.pcores) old 3,
                          rgr := { s.rgr with retire := none, retired := s.rgr.retired ++ [(old, spare)] } }
        let s := s.rset0 IDENT_COUNTS.LCORES s.validCores.length
        let s := s.rinc IDENT_MAP_GEN.GEN 0
        let s := s.rset0 RGR_RETIRE.PENDING 0
        ((if spare < 288 then s.rset0 RGR_RETIRE.RESULT 1 else s).journal).failPinned c

end Sys2Proof.Machine
end

