-- ==== Sys2Proof/Machine/Cairn.lean ====
section
/-! DEFINITION. The Cairn engine (spec/12): records, trails and the ring (R262 to R268), CAIRN_READ and
AUD_TRAIL_SEL (R267, R269). -/
namespace Sys2Proof.Machine

/-- The 128-byte preimage of a token's record (R262), with the trail T(x). -/
def preimage (t : CairnTok) (trail : Nat) : List Byte :=
  bytesOf (t.token % 2 ^ 20) 4 ++ bytesOf t.ctx 2 ++ bytesOf 1 2 ++ bytesOf t.steps 8 ++ bytesOf t.digest 32 ++
  bytesOf t.weights 32 ++ bytesOf trail 32 ++ bytesOf t.seed 8 ++ bytesOf t.pos 8

/-- C(x), the Cairn record (R262). -/
def cairnRecord (t : CairnTok) (trail : Nat) : List Byte := sha256 (preimage t trail)

/-- T(x + 1): the trail with a record folded in (R263). -/
def foldTrail (trail : Nat) (record : List Byte) : Nat := natOfBytes (sha256 (bytesOf trail 32 ++ record))

/-- A ring entry's 64 bytes (R268). -/
def ringEntry (t : CairnTok) (record : List Byte) : List Byte :=
  record ++ bytesOf t.frame 8 ++ bytesOf t.pos 8 ++ bytesOf t.config 4 ++ bytesOf t.ctx 2 ++ bytesOf t.variant 1 ++
  bytesOf t.lane 1 ++ bytesOf (t.token % 2 ^ 20) 4 ++ List.replicate 4 0

/-- The tick after which a token's record and fold are complete (R265). -/
def CairnTok.doneAt (t : CairnTok) : Nat := t.decided + 400 * (t.order + 1) - 1

/-- The trail named in AUD_TRAIL_SEL is latched (R267, R269). -/
def State.latchTrail (s : State) : State :=
  let c := s.ctx (s.rget AUD_TRAIL_SEL.ID)
  let s := s.rset0 AUD_TRAIL_SEL.VALID (if c.field .state = 0 then 0 else 1)
  (List.range 4).foldl (fun s k => s.rset AUD_TRAIL.DATA k (bitsOf c.trail (64 * k) 64)) s

/-- A waiting latch of a trail is made when its context has no pending record (R267). -/
def State.tryTrailLatch (s : State) : State :=
  if s.srv.trailSelWait && !(s.trailBusy (s.rget AUD_TRAIL_SEL.ID)) then
    { s with srv := { s.srv with trailSelWait := false } }.latchTrail
  else s

/-- A token's record and fold are complete: the context's trail, the ring, whose oldest entry it may
overwrite, and its head (R262, R263, R268). -/
def State.cairnDone (s : State) (t : CairnTok) : State :=
  let c := s.ctx t.ctx
  let rec' := cairnRecord t c.trail
  let head := s.rget AUD_HEAD.HEAD
  let full := (Assoc.find s.srv.ring head).isSome
  let s := s.setCtx t.ctx { c with trail := foldTrail c.trail rec' }
  let s := { s with srv := { s.srv with cairn := s.srv.cairn.filter (· ≠ t), records := s.srv.records + 1,
                                        lastDone := Nat.max s.srv.lastDone (t.doneAt - t.decided),
                                        ring := Assoc.insert s.srv.ring head (natOfBytes (ringEntry t rec')) } }
  let s := if full then s.event AUD_HEAD.WRAP else s
  ((s.rset0 AUD_HEAD.HEAD (head + 1)).rset0 AUD_HEAD.PENDING s.srv.cairn.length).tryTrailLatch

/-! ### CAIRN_READ (R267, R268, R297) -/

/-- A ring entry's bytes; zeros where nothing has been written. -/
def State.ringBytes (s : State) (i : Nat) : List Byte := bytesOf (Assoc.get 0 s.srv.ring i) 64

/-- The context that a ring entry names. -/
def State.ringCtx (s : State) (i : Nat) : Nat := bitsOf (Assoc.get 0 s.srv.ring i) (8 * 0x34) 16

/-- The ring entry of a context's position, the latest one. -/
def State.ringFind (s : State) (id pos : Nat) : Option Nat :=
  let head := s.rget AUD_HEAD.HEAD
  ((List.range 65536).map fun k => (head + 65535 - k) % 65536).find? fun i =>
    (Assoc.find s.srv.ring i).isSome && decide (s.ringCtx i = id) && decide (bitsOf (Assoc.get 0 s.srv.ring i) (8 * 0x28) 64 = pos)

/-- The bytes that CAIRN_READ by ring index gives a function: zeros for other functions' contexts (R297). -/
def State.ringFor (s : State) (func i : Nat) : List Byte :=
  if func ≠ 0 ∧ (s.ctx (s.ringCtx i)).field .func ≠ func then List.replicate 64 0 else s.ringBytes i

/-- The entries of `n` positions from the first, up to one that is no longer held. -/
def State.ringSpan (s : State) (id pos : Nat) : Nat → List Byte
  | 0 => []
  | n + 1 => match s.ringFind id pos with
    | some i => s.ringBytes i ++ s.ringSpan id (pos + 1) n
    | none => []

/-- CAIRN_READ's effect. -/
def State.cairnRead (s : State) (h : HostCmd) : State × CmdEnd :=
  let id := bitsOf h.a0 0 16
  if h.a0 ≥ 2 ^ 17 then (s, .done 0x03 0 0 0)
  else if bitAt h.a0 16 then
    if id ≠ 0 ∨ h.a1 ≥ 65536 ∨ h.a2 > 65536 then (s, .done 0x03 0 0 0)
    else
      let bs := (List.range h.a2).flatMap fun k => s.ringFor h.func ((h.a1 + k) % 65536)
      (s.emit (.hostWrite h.func h.a3 bs), .done 0 0 h.a2 0)
  else
    let acc := s.ctxAccess h.func id
    if acc ≠ 0 then (s, .done acc 0 0 0)
    else
      let bs := s.ringSpan id h.a1 (Nat.min h.a2 65536)
      if bs.isEmpty ∧ h.a2 ≠ 0 then (s, .done 0x13 0 0 0)
      else (s.emit (.hostWrite h.func h.a3 bs), .done 0 0 (bs.length / 64) 0)

/-- CAIRN_READ (R267): one by context waits for that context's records, save in the fail-safe state (R331). -/
def execCairnRead (h : HostCmd) (s : State) : Result :=
  .next (
    if bitAt h.a0 16 || s.failSafe then s.runCmd h cmdCairnRead (.cairnRead h) fun s => s.cairnRead h
    else s.orWait (.cairnRead h) (h.a0 % 2 ^ 16) (s.runCmd h cmdCairnRead (.cairnRead h) fun s => s.cairnRead h))

/-! ### AUD_TRAIL_SEL (R267, R269) -/

/-- A write of AUD_TRAIL_SEL: the latch waits while the context has a pending record. -/
def State.trailSelWrite (s : State) (value : Nat) : State :=
  let s := s.rset0 AUD_TRAIL_SEL.ID value
  { s with srv := { s.srv with trailSelWait := true } }.tryTrailLatch

/-- AUD_TRAIL_SEL (R267). -/
def execAudTrailSel (agent : Agent) (value : Nat) (s : State) : Result :=
  .next (s.regWrite agent 0x800100 fun s => s.trailSelWrite value)

end Sys2Proof.Machine
end

