-- ==== Sys2Proof/Machine/Operands.lean ====
section
/-! DEFINITION. The operand forms of an instruction (spec/04): register specifiers, immediates, line
addresses, the fourteen scalar operations and the branch conditions. -/
namespace Sys2Proof.Machine

/-- The value a register specifier reads: s0 to s31, zero, or p0 to p63; every other specifier reads 0 and
no image that loads names one (R84). -/
def Core.reg (k : Core) (r : RegSpec) : Word :=
  if r.toNat < 0x20 then BitVec.ofNat 64 (Assoc.get 0 k.sregs r.toNat)
  else if r.toNat < 0x40 then 0#64
  else BitVec.ofNat 64 (Assoc.get 0 k.pLive (r.toNat - 0x40))

/-- The second operand of a scalar operation: b = rb + sext(imm). -/
def Core.operandB (k : Core) (rb : RegSpec) (imm : BitVec 23) : Word := k.reg rb + imm.signExtend 64

/-- A scalar operation's value (R87's table): shifts use b[5:0]; MIN, MAX and SLT are signed. -/
def Alu.value (op : Alu) (a b : Word) : Word :=
  match op with
  | .add => a + b
  | .sub => a - b
  | .mul => a * b
  | .and => a &&& b
  | .or => a ||| b
  | .xor => a ^^^ b
  | .shl => a <<< (b.toNat % 64)
  | .shr => a >>> (b.toNat % 64)
  | .sra => a.sshiftRight (b.toNat % 64)
  | .min => if a.slt b then a else b
  | .max => if a.slt b then b else a
  | .slt => if a.slt b then 1#64 else 0#64
  | .sltu => if a.ult b then 1#64 else 0#64
  | .seq => if a = b then 1#64 else 0#64

/-- A branch condition (R91's table). -/
def condHolds (cond : Nat) (a b : Word) : Bool :=
  match cond % 8 with
  | 0 => decide (a = b)
  | 1 => decide (a ≠ b)
  | 2 => a.slt b
  | 3 => !(a.slt b)
  | 4 => a.ult b
  | 5 => !(a.ult b)
  | 6 => fless (a.toNat % 2 ^ 32) (b.toNat % 2 ^ 32)
  | _ => fgeq (a.toNat % 2 ^ 32) (b.toNat % 2 ^ 32)

/-- LDI's value: the whole register, or its upper half over the lower half it holds (R87's table). -/
def ldiValue (old : Word) (h : Bool) (imm : BitVec 32) : Word :=
  if h then imm ++ old.extractLsb' 0 32 else imm.signExtend 64

/-- The scratchpad word that LDS and STS address: ra + sext(imm) (R88). -/
def Core.wordIndex (k : Core) (ra : RegSpec) (imm : BitVec 23) : Word := k.reg ra + imm.signExtend 64

/-- The KT, LEN and like fields in which 0 stands for the greatest value plus one. -/
def orFull (v full : Nat) : Nat := if v = 0 then full else v

end Sys2Proof.Machine
end

