-- ==== Sys2Proof/Machine/Issue.lean ====
section
/-! DEFINITION. How an instruction issues: plan-class code at the ticks of R79, with its effects at the end
of the tick (R85, R89, R381, R382), and service-class code in the service windows (R97, R98). -/
namespace Sys2Proof.Machine

/-! ### Plan-class code -/

/-- The queue that an instruction issues on. -/
def State.queue (s : State) (x : Issue) : QueueSt := Assoc.get {} (s.core x.core).queues x.queue

/-- The state with that queue replaced. -/
def State.setQueue (s : State) (x : Issue) (q : QueueSt) : State :=
  let k := s.core x.core
  s.setCore x.core { k with queues := Assoc.put {} k.queues x.queue q }

/-- An instruction's issue tick: its gap for a stream's first, else the previous issue tick + 1 + gap (R79). -/
def State.issueTick (s : State) (x : Issue) : Nat :=
  match (s.queue x).last with
  | none => x.gap
  | some l => l + 1 + x.gap

/-- A queue issues while a frame runs, on a core that the map holds, until its END (R15, R80). -/
def State.canIssue (s : State) (x : Issue) : Bool :=
  decide (s.frame.phase = .inFrame) && s.coreValid x.core && !(s.queue x).done

/-- A plan-class instruction issues: the frame's time goes on to its issue tick, its effect is registered,
and its queue goes on. -/
def State.issue (s : State) (x : Issue) (effect : State → Nat → State)
    (flow : State → QueueSt → Nat → QueueSt := fun _ q _ => q.next) : State :=
  if s.canIssue x then
    let t := s.issueTick x
    let s := (s.advance t).tel 0 1
    let s' := effect s t
    s'.setQueue x { flow s (s'.queue x) t with last := some t }
  else s

/-- The command that issues a scalar operation. -/
def Alu.command (op : Alu) (x : Issue) (rd ra rb : RegSpec) (imm : BitVec 23) : Instr :=
  match op with
  | .add => .add x rd ra rb imm
  | .sub => .sub x rd ra rb imm
  | .mul => .mul x rd ra rb imm
  | .and => .and x rd ra rb imm
  | .or => .or x rd ra rb imm
  | .xor => .xor x rd ra rb imm
  | .shl => .shl x rd ra rb imm
  | .shr => .shr x rd ra rb imm
  | .sra => .sra x rd ra rb imm
  | .min => .min x rd ra rb imm
  | .max => .max x rd ra rb imm
  | .slt => .slt x rd ra rb imm
  | .sltu => .sltu x rd ra rb imm
  | .seq => .seq x rd ra rb imm

/-- The command that issues an instruction word's operation (R86, R87). -/
def Isa.command (op : Isa) (x : Issue) : Instr :=
  match op with
  | .alu op rd ra rb imm => op.command x rd ra rb imm
  | .ldi rd h imm => .ldi x rd h imm
  | .lds rd ra imm => .lds x rd ra imm
  | .sts rs ra imm => .sts x rs ra imm
  | .nop => .nop (.plan x)
  | .endQ => .endQ x
  | .loop count body => .loop x count.toNat body.toNat
  | .brb cond ra rb alen blen => .brb x cond.toNat ra rb alen.toNat blen.toNat
  | .join ticks sigs => .join x ticks.toNat sigs.toNat
  | .bru cond ra rb offset => .bru x cond.toNat ra rb offset
  | .lcall routine => .lcall x routine.toNat
  | .sig token n => .sig x token.toNat n.toNat
  | .wait token n => .wait x token.toNat n.toNat
  | .bar mask => .bar x mask
  | .mpass emask split bank acc fmtA fmtB rA rB kt => .mpass x emask split bank acc fmtA.toNat fmtB.toNat rA rB kt.toNat
  | .vcfg slot line => .vcfg x slot.toNat line.toNat
  | .vrun emask slot src rSrc rDst rRed len rmode => .vrun x emask slot.toNat src.toNat rSrc rDst rRed len.toNat rmode.toNat
  | .reds sd eng which => .reds x sd eng.toNat which
  | .dma ch done desc => .dma x ch.toNat done.toNat desc.toNat
  | .send route rAddr count pool done => .send x route.toNat rAddr count.toNat pool.toNat done.toNat
  | .recv route rAddr count done => .recv x route.toNat rAddr count.toNat done.toNat
  | .cgive route pool n => .cgive x route.toNat pool.toNat n.toNat

/-- The command of a 64-bit instruction word on a queue of a core (R86, R87): none for a word that is no instruction. -/
def wordCommand (core queue : Nat) (svc : Bool) (w : Word) : Option Instr :=
  (decodeIsa w).map fun d => d.op.command { core := core, queue := queue, gap := d.gap.toNat, svc := svc }

/-- The command that a queue issues next: the word at its pc in its stream of the active variant (R79). -/
def State.nextCommand (s : State) (core queue : Nat) : Option Instr :=
  match stream s.activeImage core queue with
  | none => none
  | some ws => (ws[(Assoc.get ({} : QueueSt) (s.core core).queues queue).pc / 8]?).bind (wordCommand core queue false)

/-- The command that a core's service call issues next: the word at its index in the service buffer (R97). -/
def State.nextService (s : State) (core : Nat) : Option Instr :=
  ((s.core core).svc.code[(s.core core).svc.index]?).bind (wordCommand core 0 true)

/-- An effect of core c at the end of tick t. -/
def State.push (s : State) (c t : Nat) (e : Effect) : State :=
  let k := s.core c
  s.setCore c { k with agenda := k.agenda ++ [(t, e)] }

/-- An access to a bank of core c in the tick in progress. -/
def State.access (s : State) (c : Nat) (a : BankAccess) : State :=
  let k := s.core c
  s.setCore c { k with accesses := k.accesses ++ [a] }

/-- A write to core c's scratchpad at the end of a tick. -/
def State.pendWrite (s : State) (c : Nat) (w : PendWrite) : State :=
  let k := s.core c
  s.setCore c { k with writes := k.writes ++ [w] }

/-- A schedule fault of an instruction at its issue tick (R71). -/
def State.instrFault (s : State) (x : Issue) (cause unit detail t : Nat) : State :=
  s.coreFault x.core x.queue (s.queue x).pc cause unit detail t

/-- An instruction's signals count towards its queue's (R92). -/
def withSigs (n : Nat) : State → QueueSt → Nat → QueueSt := fun _ q _ => { q.next with sigs := q.sigs + n }

/-! ### Service-class code (R97 to R101) -/

/-- The service window of the boundary in progress: from A + 1,024 to F' - 65 (R97). -/
def State.inWindow (s : State) : Bool :=
  !s.running || (decide (s.frame.phase = .applied) && decide (s.applyAt + 1024 ≤ s.gst) && decide (s.gst + 65 ≤ s.nextFrame))

/-- The ticks that remain of the service window: a window while no frames run ends at T0, if one is set; none when it has no
end. -/
def State.windowLeft (s : State) : Option Nat :=
  if s.running then some (s.nextFrame - 64 - s.gst)
  else if s.frame.phase = .waiting then some (s.frame.t0 - s.gst) else none

/-- Core c's service call runs, in a service window (R97), waits for no routine, and its region does not recalibrate
(R361). -/
def State.svcReady (s : State) (c : Nat) : Bool :=
  let v := (s.core c).svc
  decide (v.state = 1) && s.inWindow && v.waitingCall.isNone && !s.recalibrating (s.regionOfCore c)

/-- The service call of core c ends with a status (R98, R99): s0 to s7 go to CORE_SVC_RESULT and the
command completes. -/
def State.svcEnd (s : State) (c status : Nat) : State :=
  let k := s.core c
  let rs := (List.range 8).map fun i => Assoc.get 0 k.sregs i
  let s := s.setCore c { k with svc := { k.svc with state := 3, status := status, results := rs, cmd := none, waitingCall := none } }
  match k.svc.cmd with
  | some h => s.finish h cmdSvcRun status 0 (Assoc.get 0 k.sregs 0) (Assoc.get 0 k.sregs 1)
  | none => s

/-- One service-class instruction runs: its effect on the core, or the status with which it ends the call
(R98). -/
def State.svcStep (s : State) (x : Issue) (f : Core → Core × Option Nat) : State :=
  if s.svcReady x.core then
    match f (s.core x.core) with
    | (_, some status) => s.svcEnd x.core status
    | (k, none) => s.setCore x.core { k with svc := { k.svc with index := k.svc.index + 1 } }
  else s

/-- An opcode that service-class code may not hold ends the call with NOT_PERMITTED (R98). -/
def State.svcRefuse (s : State) (x : Issue) : State := s.svcStep x fun k => (k, some 0x04)

/-- An instruction that only plan-class code may hold: the plan's effect, or the end of a service call. -/
def State.planOnly (s : State) (x : Issue) (effect : State → Nat → State)
    (flow : State → QueueSt → Nat → QueueSt := fun _ q _ => q.next) : State :=
  if x.svc then s.svcRefuse x else s.issue x effect flow

/-- A scratchpad word lies in the service area of a core (R98). -/
def Core.inArea (k : Core) (w : Nat) : Bool :=
  decide (k.svc.base ≤ w / 8) && decide (w / 8 < k.svc.base + k.svc.count) && decide (w < 524288)

/-- Lines `a .. a + n - 1` lie in the service area of a core (R98). -/
def Core.linesInArea (k : Core) (a n : Nat) : Bool :=
  decide (k.svc.base ≤ a) && decide (a + n ≤ k.svc.base + k.svc.count) && decide (a + n ≤ 65536)

/-- The register that a destination specifier names takes a value; zero and the p registers take nothing
(R84, spec/04's register table). -/
def Core.setReg (k : Core) (r : RegSpec) (v : Word) : Core :=
  if r.toNat < 0x20 then { k with sregs := Assoc.put 0 k.sregs r.toNat v.toNat } else k

/-- A plan-class write of a register at the end of tick t (R85). -/
def State.pushReg (s : State) (x : Issue) (t : Nat) (r : RegSpec) (v : Word) : State :=
  if r.toNat < 0x20 then s.push x.core t (.sreg x.queue r.toNat v.toNat) else s

/-- An instruction of a core that the device has; of any other number nothing happens (log 48). -/
def onCore (s : State) (x : Issue) (next : State) : Result := onUnit s (decide (x.core < 256)) next

end Sys2Proof.Machine
end

