-- ==== Sys2Proof/Machine/Dma.lean ====
section
/-! DEFINITION. The cores' DMA engines (spec/08): the DMA instruction with its descriptor and checks (R171,
R172), and its pieces: their issue, their walks, their arrival at memory and their landing (R157 to R165, R173). -/
namespace Sys2Proof.Machine

/-! ### Descriptors (R171) -/

/-- One side of a descriptor as its two words and the core's registers give it (R171). -/
def Core.sideOf (k : Core) (w0 w1 : Nat) : DmaSide :=
  let r := (k.reg (BitVec.ofNat 7 (bitsOf w0 50 7))).toNat
  { base := bitsOf w0 0 48 + bitsOf r 0 48, space := bitsOf w0 48 2, remote := bitAt w0 57, dev := bitsOf r 50 14,
    xlate := bitAt w0 58, rsv := bitsOf w0 59 5, len := orFull (bitsOf w1 0 16) 65536,
    count := orFull (bitsOf w1 16 16) 65536, stride := bitsOf w1 32 24,
    pt := if bitAt w0 58 then Assoc.get 0 k.pLive (bitsOf w1 56 6) else 0, prio := bitsOf w1 62 2 }

/-- The start of line i of a side (R171). -/
def DmaSide.line (x : DmaSide) (i : Nat) : Nat := x.base + i * x.stride

/-- The address of byte `o` of a side's stream (R171). -/
def DmaSide.byteAt (x : DmaSide) (o : Nat) : Nat := x.line (o / x.len) + o % x.len

/-- The bytes that a side holds. -/
def DmaSide.size (x : DmaSide) : Nat := x.len * x.count

/-- g: the largest power of two that divides both LENs, at most 64 (R172). -/
def pieceSize (a b : DmaSide) : Nat :=
  ([64, 32, 16, 8, 4, 2].find? fun g => decide (a.len % g = 0) && decide (b.len % g = 0)).getD 1

/-- The core of a scratchpad-window offset (R16). -/
def windowCore (off : Nat) : Nat := off / 2 ^ 22

/-- The first line of a side that is no multiple of g (R172, check 3). -/
def DmaSide.misaligned (x : DmaSide) (g : Nat) : Option Nat :=
  if x.base % g ≠ 0 then some x.base
  else if x.count > 1 ∧ x.stride % g ≠ 0 then some (x.line 1) else none

/-- A line of a side keeps check 4 of R172. -/
def State.lineOk (s : State) (x : DmaSide) (a : Nat) : Bool :=
  decide (a + x.len ≤ 2 ^ 48) && (x.xlate ||
    (if x.space = 0 then decide (a + x.len ≤ installed) && !inReserved a x.len
     else if x.space = 1 then
       decide (a + x.len ≤ 2 ^ 30) && decide (windowCore a = windowCore (a + x.len - 1)) &&
         (x.remote || s.coreValid (windowCore a))
     else decide (a + x.len ≤ 2 ^ 24)))

/-- The first line of a side that breaks check 4 of R172. -/
def State.badLine (s : State) (x : DmaSide) : Option Nat :=
  (List.range x.count).findSome? fun i => if s.lineOk x (x.line i) then none else some (x.line i)

/-- Checks 1 to 4 of R172: the check's number and the offending line's address. -/
def State.sidesFault (s : State) (a b : DmaSide) : Option (Nat × Nat) :=
  let bad1 (x : DmaSide) (dst : Bool) : Bool :=
    decide (x.rsv ≠ 0) || decide (x.space = 3) || (x.xlate && decide (x.space ≠ 0)) || (dst && decide (x.prio ≠ 0))
  if bad1 a false then some (1, a.base)
  else if bad1 b true then some (1, b.base)
  else if a.size ≠ b.size then some (2, a.base)
  else
    let g := pieceSize a b
    match firstSome [a.misaligned g, b.misaligned g] with
    | some l => some (3, l)
    | none => (firstSome [s.badLine a, s.badLine b]).map fun l => (4, l)
where
  firstSome (l : List (Option Nat)) : Option Nat := l.findSome? id

/-- The core whose scratchpad holds every line of a side, if one core's does. -/
def DmaSide.coreOf (x : DmaSide) : Option Nat :=
  if x.space = 1 ∧ ¬ x.remote ∧ windowCore x.base = windowCore (x.line (x.count - 1)) then some (windowCore x.base)
  else none

/-- Check 5 of R172: one side is the issuing core's scratchpad, the other one that a plan may name; a remote
source needs a request route (log 15). The result is the offending line. -/
def State.planSides (s : State) (c ch : Nat) (a b : DmaSide) : Option Nat :=
  let near (x : DmaSide) : Bool := !x.remote && (decide (x.space = 0) || x.coreOf.isSome)
  if a.coreOf = some c then (if near b then none else some b.base)
  else if b.coreOf = some c then
    if near a then none
    else if a.remote && decide (a.space ≤ 1) && (channelRoute s.activeImage c ch).isSome then none
    else some a.base
  else some a.base

/-- The checks of a plan-class descriptor (R172): cause and DETAIL. -/
def State.dmaFault (s : State) (c ch : Nat) (a b : DmaSide) : Option (Nat × Nat) :=
  let code (n l : Nat) : Nat := n * 2 ^ 28 + l % 2 ^ 28
  match s.sidesFault a b with
  | some (n, l) => some (if n = 2 ∨ n = 3 then 0x10 else 0x0F, code n l)
  | none => (s.planSides c ch a b).map fun l => (0x0F, code 5 l)

/-! ### The DMA instruction -/

/-- Channel `ch` of a core. -/
def Core.channel (k : Core) (ch : Nat) : DmaCh := Assoc.get {} k.dma ch

/-- The core with a channel replaced. -/
def Core.setChannel (k : Core) (ch : Nat) (d : DmaCh) : Core := { k with dma := Assoc.put {} k.dma ch d }

/-- The work under a key is not complete at tick t (R81): pieces remain to issue or to land. A channel's work stands under
the channel's number, and under the number + 16 i where it overlaps earlier work as a bubble (R382). -/
def Core.keyBusy (k : Core) (key t : Nat) : Bool :=
  let d := k.channel key
  decide (d.next < d.total) || (d.src.remote && decide (d.landed < d.total)) ||
    k.pieces.any fun p => decide (p.ch = key) && decide (p.landAt > t)

/-- The keys under which a channel has work. -/
def Core.channelKeys (k : Core) (ch : Nat) : List Nat := (k.dma.map (·.1)).filter fun key => decide (key % 16 = ch % 16)

/-- A channel is busy at tick t (R81). -/
def Core.channelBusy (k : Core) (ch t : Nat) : Bool := (k.channelKeys ch).any fun key => k.keyBusy key t

/-- The key of a channel's next work: its own number, or the first that no overlapped work holds (R382). -/
def Core.freeKey (k : Core) (ch t : Nat) : Nat :=
  ((List.range (k.dma.length + 1)).map fun i => ch + 16 * i).find? (fun key => !k.keyBusy key t) |>.getD ch

/-- The unit of a DMA access in R169's order: logical core, then channel. -/
def dmaUnit (c ch : Nat) : Nat := 16 * c + ch % 16

/-- The request of a remote source (R175): one flit in the next slot of the channel's request route. Its
payload is the source side with its registers added (log 15). -/
def State.remoteRequest (s : State) (c ch t : Nat) (d : DmaCh) : State :=
  match channelRoute s.activeImage c (ch % 16) with
  | none => s
  | some r =>
    let slot := nextSlot (s.route r).posMask (s.frame.start + t + 8)
    let x := d.src
    let body := bytesOf (x.base % 2 ^ 48 + x.space * 2 ^ 48 + (if x.xlate then 2 ^ 58 else 0)) 8 ++
      bytesOf (x.len % 2 ^ 16 + (x.count % 2 ^ 16) * 2 ^ 16 + x.stride * 2 ^ 32) 8 ++ bytesOf x.pt 8 ++
      bytesOf d.dst.len 8 ++ bytesOf (s.rget IDENT_DOMAIN.DEVICE_ID) 2
    let k := s.core c
    let q : SendSt := { issue := t, line := 0, count := 1, sent := 0, done := 0, hold := d.bubble, slot := slot,
                        last := slot, fixed := some body }
    s.setCore c { k with sends := Assoc.put none k.sends (r + 4096 * (1 + ch % 16)) (some q) }

/-- A channel starts on a descriptor (R173); pieces of a remote source come with its flits (R175). -/
def State.startDma (s : State) (x : Issue) (ch done : Nat) (a b : DmaSide) (bubble : Bool) (t : Nat) : State :=
  let k := s.core x.core
  let key := k.freeKey ch t
  let g := pieceSize a b
  let n := a.size / g
  let d : DmaCh := { src := a, dst := b, prio := a.prio, bubble := bubble, pc := (s.queue x).pc, issued := t, total := n,
                     next := if a.remote then n else 0, size := g, done := done, lastLand := (k.channel ch).lastLand,
                     kept := (k.channel ch).kept }
  let s := s.setCore x.core (k.setChannel key d)
  if a.remote && (channelRoute s.activeImage x.core ch).isSome then s.remoteRequest x.core key t d
  else if a.remote then s.setCore x.core (k.setChannel key { d with total := 0, next := 0 }) else s

/-- DMA at its issue tick (R171, R172, R382): one that a check refuses or that finds its channel busy runs as a bubble whose
pieces overlap the earlier work (log 15). -/
def State.dmaAt (s : State) (x : Issue) (ch done desc t : Nat) : State :=
  let k := s.core x.core
  let s := s.access x.core { cls := 3, issued := t, unit := dmaUnit x.core ch, kind := 0, line := desc / 2 }
  let bytes := spadBytes k (32 * desc) 32
  let a := k.sideOf (leAt bytes 0 8) (leAt bytes 8 8)
  let b := k.sideOf (leAt bytes 16 8) (leAt bytes 24 8)
  let fault : Option (Nat × Nat) :=
    if s.mutedAt t then none
    else if spadBad k (32 * desc) 32 then some (0x0E, 32 * desc)
    else match s.dmaFault x.core ch a b with
      | some f => some f
      | none => if k.channelBusy ch t then some (0x02, 2 ^ 31 + 0x03) else none
  let s := match fault with
    | some (cause, detail) => s.instrFault x cause ch detail t
    | none => s
  s.startDma x ch done a b (s.mutedAt t || fault.isSome) t

/-- DMA (R171 to R173). -/
def execDma (x : Issue) (ch done desc : Nat) (s : State) : Result :=
  onCore s x (s.planOnly x (fun s t => s.dmaAt x ch done desc t) (withSigs 1))

/-! ### The issue of a piece (R173) -/

/-- The die that logical core `c` runs on. -/
def State.dieOfCore (s : State) (c : Nat) : Nat := dieOf (s.regionOfCore c)

/-- HOP between two cores (R158). -/
def State.hop (s : State) (c e : Nat) : Nat :=
  if s.dieOfCore c = s.dieOfCore e then s.rget MEM_TIMING2.HOP_NEAR else s.rget MEM_TIMING2.HOP_FAR

/-- An offset's stack lies on core c's die. -/
def State.nearMem (s : State) (c off : Nat) : Bool := decide (off / dieBytes = s.dieOfCore c)

/-- REQ (R158). -/
def State.reqTicks (s : State) (near : Bool) : Nat := if near then s.rget MEM_TIMING.REQ_NEAR else s.rget MEM_TIMING.REQ_FAR

/-- RD or WR (R158). -/
def State.landTicks (s : State) (near toMem : Bool) : Nat :=
  if toMem then (if near then s.rget MEM_TIMING.WR_NEAR else s.rget MEM_TIMING.WR_FAR)
  else (if near then s.rget MEM_TIMING.RD_NEAR else s.rget MEM_TIMING.RD_FAR)

/-- WALK (R158). -/
def State.walkTicks (s : State) : Nat := s.rget MEM_TIMING2.WALK

/-- The bursts of a piece (R157): a write of fewer than 64 bytes is a read-modify-write. -/
def Piece.bursts (p : Piece) : Nat := if p.toMem ∧ p.len < 64 then 2 else 1

/-- Whether the physical place that a virtual piece comes to is near; near where it has none. -/
def State.nearVirt (s : State) (c pt v : Nat) (write : Bool) : Bool :=
  match ptCheck pt v (s.memNat (ptEntryAt pt v) 8) write with
  | .inl p => s.nearMem c p
  | .inr _ => true

/-- A place that memory has: a bubble of a refused descriptor may name another, at which it makes no burst (log 15). -/
def inMemory (a n : Nat) : Bool := decide (a + n ≤ installed)

/-- The scratchpad read of a piece at tick t, on core `e` (R173). -/
def State.pieceRead (s : State) (c e : Nat) (d : DmaCh) (p : Piece) (addr t : Nat) : State :=
  if s.coreValid e = false then s else
  let k := s.core e
  let pc := if e = c then d.pc else 0xFFFFFFFF
  let acc : BankAccess := { cls := 3, issued := d.issued, unit := dmaUnit c p.ch, kind := 1, line := addr / 64, pc := pc }
  s.setCore e { k with reads := k.reads ++ [{ tick := t, acc := acc, addr := addr, len := p.len, owner := c, ch := p.ch,
                                              index := p.index }] }

/-- The piece that channel `ch` issues at tick t, with its ticks; the scratchpad read it makes; the charge of
a null side (R158, R165, R173). -/
def State.issuePiece (s : State) (c ch t : Nat) : State :=
  let k := s.core c
  let d := k.channel ch
  let o := d.next * d.size
  let sa := d.src.byteAt o
  let da := d.dst.byteAt o
  let p : Piece := { ch := ch, index := d.next, issue := t, len := d.size, pc := d.pc, dead := d.bubble || s.mutedAt t,
                     dstCore := if d.dst.space = 1 ∧ d.dst.remote = false ∧ s.coreValid (windowCore da) = true then some (windowCore da) else none,
                     dstAddr := da % 2 ^ 22 }
  let toMem := decide (d.dst.space = 0)
  let memSide := if toMem then d.dst else d.src
  let ma := if toMem then da else sa
  let p : Piece :=
    if d.src.space = 1 ∧ d.dst.space = 1 then
      let e := if windowCore sa = c then windowCore da else windowCore sa
      let h := s.hop c e
      { p with landAt := if e = c then t + 2 else if windowCore sa = c then t + h else t + 2 * h,
               arriveAt := if s.dieOfCore e = s.dieOfCore c then none else some (t + h) }
    else if memSide.space ≠ 0 ∨ memSide.remote = true then { p with landAt := t + 2 }
    else if memSide.xlate then
      let near := !(ptValid memSide.pt) || s.nearVirt c memSide.pt ma toMem
      let p := { p with mem := true, toMem := toMem, landAt := t + s.walkTicks + s.landTicks near toMem }
      if ptValid memSide.pt then
        { p with virt := some (memSide.pt, ma), tag := ctxTweak (ptTag memSide.pt), walkAt := some (t + s.walkTicks) }
      else { p with performed := true, data := List.replicate d.size 0 }
    else
      let near := s.nearMem c ma
      { p with mem := true, toMem := toMem, phys := if inMemory ma d.size then some ma else none, tag := physTweak,
               arriveAt := if inMemory ma d.size then some (t + s.reqTicks near) else none, landAt := t + s.landTicks near toMem }
  let d := { d with next := d.next + 1, lastLand := if d.next = 0 then p.landAt else Nat.max d.lastLand p.landAt }
  let k := { k.setChannel ch d with pieces := k.pieces ++ [p], dmaTick := t + 1,
                                    dmaLast := Assoc.put 15 k.dmaLast d.prio (ch % 16) }
  let s := s.setCore c k
  let s := if p.mem && p.performed then
    s.chargeAt (144 * s.dieOfCore c + 136) (t + s.walkTicks + s.reqTicks true) (1536 * p.bursts) else s
  if d.src.space = 1 ∧ d.src.remote = false then
    s.pieceRead c (windowCore sa) d p (sa % 2 ^ 22) (if windowCore sa = c then t else t + s.hop c (windowCore sa))
  else s

/-- The channels that are active at tick t (R173). -/
def Core.activeAt (k : Core) (t : Nat) : List (Nat × DmaCh) :=
  k.dma.filter fun e => decide (e.2.next < e.2.total) && decide (e.2.issued < t)

/-- The channel whose piece a core issues at tick t (R173): the lowest PRIO, then the first after the one that
last issued at that PRIO. -/
def Core.pickChannel (k : Core) (t : Nat) : Option Nat :=
  let act := k.activeAt t
  match (List.range 4).find? fun p => act.any fun e => decide (e.2.prio = p) with
  | none => none
  | some p =>
    let last := Assoc.get 15 k.dmaLast p
    let here := (act.filter fun e => decide (e.2.prio = p)).map (·.1)
    ((List.range 16).map fun i => (last + 1 + i) % 16).findSome? fun c => here.find? fun key => decide (key % 16 = c)

/-- The tick at which a core issues its next piece. -/
def Core.pieceTick (k : Core) : Option Nat :=
  match (k.dma.filter fun e => decide (e.2.next < e.2.total)).map fun e => e.2.issued + 1 with
  | [] => none
  | t :: ts => some (Nat.max k.dmaTick (ts.foldl Nat.min t))

/-- A step at a tick that core c's state names: nothing unless a frame runs and such a tick is there. -/
def State.atTick (s : State) (tick : Option Nat) (f : State → Nat → State) : State :=
  match tick with
  | some t => if s.frame.phase = .inFrame then f (s.advance t) t else s
  | none => s

/-- DMA_PIECE (R173): the core's next piece issues. -/
def execDmaPiece (core : Nat) (s : State) : Result :=
  onUnit s (decide (core < 256))
    (s.atTick (s.core core).pieceTick fun s t =>
      match (s.core core).pickChannel t with
      | some ch => s.issuePiece core ch t
      | none => s)

/-! ### Walks (R164) -/

/-- The least of the numbers that are there. -/
def leastSome (l : List (Option Nat)) : Option Nat :=
  match l.filterMap id with
  | [] => none
  | t :: ts => some (ts.foldl Nat.min t)

/-- A piece of a core is replaced; pieces have channel and number as their names. -/
def Core.setPiece (k : Core) (p : Piece) : Core :=
  { k with pieces := k.pieces.map fun q => if q.ch = p.ch ∧ q.index = p.index then p else q }

/-- A schedule fault of a piece: its channel in UNIT, queue D and the DMA's PC (R164). -/
def State.pieceFault (s : State) (c : Nat) (p : Piece) (cause detail t : Nat) : State :=
  if s.mutedAt t then s else s.coreFault c 3 p.pc cause (p.ch % 16) detail t

/-- The entry that a walk gives (R164): the kept one, or the one that a burst reads, charged and counted
against the budgets, the bridge's too where the table lies on the other die (R157, log 16). The result is the entry or the
fault's cause and DETAIL. A bubble's walk keeps its charge and moves nothing (R381). -/
def State.walkEntry (s : State) (c : Nat) (p : Piece) (pt v t : Nat) (dead : Bool) : (Nat ⊕ (Nat × Nat)) × State :=
  let d := (s.core c).channel p.ch
  let i := v / 2 ^ 14
  if ¬ ptIndexOk pt v then (.inr (0x0F, v % 2 ^ 32), s)
  else
    match d.kept with
    | some (pt', i', e) => if pt' = pt ∧ i' = i then (.inl e, s) else burst i
    | none => burst i
where
  /-- The walk's burst. -/
  burst (i : Nat) : (Nat ⊕ (Nat × Nat)) × State :=
    let a := ptEntryAt pt v
    let s := s.chargeAt (regionOfStack (stackOf a)) t 1536
    let own := s.dieOfCore c
    let bridge := if a / dieBytes = own then [] else [s.bridgeBudget own 64]
    let (excess, s) := if dead then (none, s) else s.arrive (s.frame.start + t) (s.burstBudgets a 1 ++ bridge)
    match excess with
    | some n => (.inr (0x1A, budgetDetail n a), s)
    | none =>
      if !dead && s.mem.badBursts.contains (a / 64) then (.inr (0x0D, v % 2 ^ 32), s.foundUe (a / 64) true)
      else
        let e := s.memNat a 8
        let k := s.core c
        let d := k.channel p.ch
        (.inl e, s.setCore c (k.setChannel p.ch { d with kept := some (pt, i, e) }))

/-- A walk's end: the piece's place and ticks, or its fault (R164). -/
def State.walkPiece (s : State) (c : Nat) (p : Piece) (t : Nat) : State :=
  match p.virt with
  | none => s
  | some (pt, v) =>
    let place (s : State) (p : Piece) (phys : Nat) : State :=
      let near := s.nearMem c phys
      let p := { p with walkAt := none, phys := some phys, arriveAt := some (t + s.reqTicks near),
                        landAt := t + s.landTicks near p.toMem }
      s.setCore c ((s.core c).setPiece p)
    let lost (s : State) : State :=
      let p := { p with walkAt := none, dead := true, performed := true }
      s.setCore c ((s.core c).setPiece p)
    let dead := p.dead || s.mutedAt t
    match s.walkEntry c p pt v t dead with
    | (.inr (cause, detail), s) => lost (if dead then s else s.pieceFault c p cause detail t)
    | (.inl e, s) =>
      match ptCheck pt v e p.toMem with
      | .inl phys => place s { p with dead := dead } phys
      | .inr cause => lost (if dead then s else s.pieceFault c p cause (v % 2 ^ 32) t)

/-- The first piece of a core that a tick of its kind names, in the order of R159: tick, channel, number. -/
def Core.pieceAt (k : Core) (tick : Piece → Option Nat) (t : Nat) : Option Piece :=
  (k.pieces.filter fun p => decide (tick p = some t)).foldl (fun best p =>
    match best with
    | none => some p
    | some q => if p.ch < q.ch ∨ (p.ch = q.ch ∧ p.index < q.index) then some p else best) none

/-- A core's next event of a kind on its pieces. -/
def State.pieceEvent (s : State) (c : Nat) (tick : Piece → Option Nat) (f : State → Piece → Nat → State) : State :=
  s.atTick (leastSome ((s.core c).pieces.map tick)) fun s t =>
    match (s.core c).pieceAt tick t with
    | some p => f s p t
    | none => s

/-- PAGE_TABLE_WALK (R164). -/
def execPageTableWalk (core : Nat) (s : State) : Result :=
  onUnit s (decide (core < 256)) (s.pieceEvent core (·.walkAt) fun s p t => s.walkPiece core p t)

/-! ### Arrivals (R157, R159) -/

/-- The bridge's budget that a piece counts against: the bytes go to the die of their destination. -/
def State.pieceBridge (s : State) (c : Nat) (p : Piece) : List Budget :=
  let own := s.dieOfCore c
  match p.phys with
  | some a =>
    if a / dieBytes = own then []
    else [s.bridgeBudget (if p.toMem then 1 - own else own) p.len]
  | none => [s.bridgeBudget (if p.dstCore = some c then own else 1 - own) p.len]

/-- A burst is performed at memory, in its place in the order of its tick (R159, R160, R162). -/
def State.performBurst (s : State) (c : Nat) (p : Piece) (a : Nat) : State :=
  (s.tel 5 p.len).addSched { off := a, tweak := p.tag, bytes := if p.toMem then p.data else [], read := if p.toMem then none else some p.len,
                             core := c, ch := p.ch, index := p.index, pc := p.pc }

/-- A piece arrives: charge, budgets, effect (R157, R159). -/
def State.arrivePiece (s : State) (c : Nat) (p : Piece) (t : Nat) : State :=
  let done := { p with arriveAt := none, performed := true }
  let s := s.setCore c ((s.core c).setPiece done)
  let s := match p.phys with
    | some a => s.chargeAt (regionOfStack (stackOf a)) t (1536 * p.bursts)
    | none => s
  if p.dead || s.mutedAt t then s
  else
    let budgets := (match p.phys with
      | some a => s.burstBudgets a p.bursts
      | none => []) ++ s.pieceBridge c p
    let (excess, s) := s.arrive (s.frame.start + t) budgets
    match excess, p.phys with
    | some n, a => (s.setCore c ((s.core c).setPiece { done with dead := true })).pieceFault c p 0x1A
        (match a with
         | some a => budgetDetail n a
         | none => n) t
    | none, some a => s.performBurst c done a
    | none, none => s

/-- BURST_ARRIVAL (R157, R159). -/
def execBurstArrival (core : Nat) (s : State) : Result :=
  onUnit s (decide (core < 256)) (s.pieceEvent core (·.arriveAt) fun s p t => s.arrivePiece core p t)

/-! ### Landings (R90, R158, R173) -/

/-- The tick of a piece's landing: none while its walk is to come. -/
def Piece.landing (p : Piece) : Option Nat := if p.walkAt.isSome then none else some p.landAt

/-- A piece lands (R158, R173): its scratchpad write is made, a burst that has not been performed is late, and
the last piece signals DONE (R90). -/
def State.landPiece (s : State) (c : Nat) (p : Piece) (t : Nat) : State :=
  let k := s.core c
  let d := k.channel p.ch
  let d := { d with landed := d.landed + 1 }
  let s := s.setCore c { k.setChannel p.ch d with
    pieces := k.pieces.filter fun q => ¬ (q.ch = p.ch ∧ q.index = p.index) }
  let late := p.mem && !p.performed && !p.dead && p.phys.isSome
  let s := if late then s.pieceFault c p 0x1B (p.phys.getD 0 % 2 ^ 32) t else s
  let s := match p.dstCore with
    | some e =>
      let pc := if e = c then d.pc else 0xFFFFFFFF
      let acc : BankAccess := { cls := 3, issued := d.issued, unit := dmaUnit c p.ch, kind := 2, line := p.dstAddr / 64, pc := pc }
      s.pendWrite e { tick := t, addr := p.dstAddr, bytes := if p.dead || late then [] else p.data, acc := acc }
    | none => s
  if d.landed = d.total ∧ ¬ d.bubble ∧ ¬ p.dead then s.push c t (.tokenAdd 3 d.pc d.done 1) else s

/-- DMA_PIECE_LANDING (R158, R173). -/
def execDmaPieceLanding (core : Nat) (s : State) : Result :=
  onUnit s (decide (core < 256)) (s.pieceEvent core Piece.landing fun s p t => s.landPiece core p t)

end Sys2Proof.Machine
end

