-- ==== Sys2Proof/Machine/Matrix.lean ====
section
/-! DEFINITION. The matrix instructions (spec/05): MPASS and the completion of a pass. -/
namespace Sys2Proof.Machine

/-- The engines of an EMASK, in ascending order (R106). -/
def engineList (emask : BitVec 4) : List Nat := (List.range 4).filter fun e => emask.getLsbD e

/-- A line register with bits above [15:0], as the fault's DETAIL (R88). -/
def lineFault (v : Word) : Option Nat := if v.toNat ≥ 65536 then some (v.toNat % 2 ^ 32) else none

/-- The first of a list of optional values that is there. -/
def firstSome {α : Type} (l : List (Option α)) : Option α := l.findSome? id

/-- The engines' operands of an MPASS: base lines and sizes (R106). -/
structure PassPlan where
  engs : List Nat
  lineA : Nat
  lineB : Nat
  sizeA : Nat
  sizeB : Nat

/-- The operands of an MPASS, from its registers (R94, R104 to R106). -/
def passPlan (k : Core) (emask : BitVec 4) (split : Bool) (fmtA fmtB : Nat) (rA rB : RegSpec) (kt : Nat) : PassPlan :=
  let n := passK kt (pairRate4 fmtA fmtB)
  { engs := engineList emask, lineA := (k.reg rA).toNat, lineB := (k.reg rB).toNat,
    sizeA := engineLines fmtA split n, sizeB := engineLines fmtB split n }

/-- The row mask of engine e: the static one of p60 or p61 and the dynamic one of s30 or s31 (R114). -/
def Core.rowMask (k : Core) (e : Nat) : Nat :=
  let stat := Assoc.get 0 k.pLive (60 + e / 2)
  let dyn := Assoc.get 0 k.sregs (30 + e / 2)
  bitsOf (stat ||| dyn) (32 * (e % 2)) 32

/-- The fault that an MPASS meets at tick t: cause, UNIT and DETAIL (R81, R88, R382, R384). -/
def mpassFault (k : Core) (p : PassPlan) (split bank : Bool) (rA rB : RegSpec) (t : Nat) : Option (Nat × Nat × Nat) :=
  let n := p.engs.length
  let address := firstSome [lineFault (k.reg rA), lineFault (k.reg rB), beyondLines p.lineA (n * p.sizeA),
    beyondLines p.lineB (n * p.sizeB)]
  match address with
  | some d => some (0x0F, 0xFFFF, d % 2 ^ 32)
  | none =>
    match p.engs.find? fun e => decide ((k.engine e).inputUntil > t) with
    | some e => some (0x02, e, 2 ^ 31 + 0x01)
    | none =>
      match p.engs.find? fun e => (k.engine e).passes.any fun q =>
          decide (q.bank = bank) && decide (t + passLat split < q.doneAt) with
      | some e => some (0x02, e, 2 ^ 31 + 0x06)
      | none => none

/-- The sums that a pass with ACC 1 goes on from: those of the last pass on the bank that is in flight, else
the bank's (R109, R113, R384). -/
def Engine.sumsOf (x : Engine) (bank : Bool) : List Nat :=
  match (x.passes.filter fun q => decide (q.bank = bank) && !q.bubble).getLast? with
  | some q => q.cells
  | none => if bank then x.bank1 else x.bank0

/-- Engine e takes a pass (R94, R109). -/
def Core.startPass (k : Core) (e : Nat) (p : Pass) : Core :=
  let x := k.engine e
  let x := { x with passes := x.passes ++ [p], inputUntil := Nat.max x.inputUntil p.inputEnd, split := p.split,
                    fmtA := p.fmtA, fmtB := p.fmtB }
  let x := if p.bank then { x with done1 := p.doneAt } else { x with done0 := p.doneAt }
  k.setEngine e x

/-- MPASS at its issue tick (R94, R102 to R115, R382, R384). -/
def State.mpassAt (s : State) (x : Issue) (emask : BitVec 4) (split bank acc : Bool) (fmtA fmtB : Nat)
    (rA rB : RegSpec) (kt t : Nat) : State :=
  let k := s.core x.core
  let kt := orFull kt 16384
  let p := passPlan k emask split fmtA fmtB rA rB kt
  let fault := if s.mutedAt t then none else mpassFault k p split bank rA rB t
  let bubble := s.abortedAt t || fault.isSome
  let s := match fault with
    | some (cause, unit, detail) => s.instrFault x cause unit detail t
    | none => s
  let k := (p.engs.zip (List.range p.engs.length)).foldl (fun k e =>
    let mask := k.rowMask e.1
    k.startPass e.1
      { issue := t, pc := (s.queue x).pc, kt := kt, split := split, bank := bank, acc := acc, fmtA := fmtA, fmtB := fmtB,
        lineA := p.lineA + e.2 * p.sizeA, lineB := p.lineB + e.2 * p.sizeB, mask := mask, bubble := bubble,
        cells := if acc then (k.engine e.1).sumsOf bank else [] }) (s.core x.core)
  let valid := (p.engs.map fun e => if bubble then 0 else 32 - popBits (k.rowMask e)).sum
  (((s.setCore x.core k).tel 1 p.engs.length).tel 2 valid).tel 3 (32 * p.engs.length - valid)
where
  /-- The set bits among 32. -/
  popBits (v : Nat) : Nat := ((List.range 32).filter fun i => v.testBit i).length

/-- MPASS (R94). -/
def execMpass (x : Issue) (emask : BitVec 4) (split bank acc : Bool) (fmtA fmtB : Nat) (rA rB : RegSpec) (kt : Nat)
    (s : State) : Result :=
  onCore s x (s.planOnly x fun s t => s.mpassAt x emask split bank acc fmtA fmtB rA rB kt t)

/-- An engine that the device has; of any other number nothing happens (log 48). -/
def onEngine (s : State) (core eng : Nat) (next : State) : Result := onUnit s (decide (core < 256) && decide (eng < 4)) next

/-- PASS_COMPLETION (R109): the first pass in flight on the bank comes to its completion tick, and the bank
holds its result. -/
def execPassCompletion (core eng : Nat) (bank : Bool) (s : State) : Result :=
  onEngine s core eng
    (match ((s.core core).engine eng).passes.find? fun p => decide (p.bank = bank) with
     | some p => if s.frame.phase = .inFrame then s.advance p.doneAt else s
     | none => s)

end Sys2Proof.Machine
end

