-- ==== Sys2Proof/Machine/Xport.lean ====
section
/-! DEFINITION. The X queue's instructions (spec/04, spec/11): SEND, RECV and CGIVE. -/
namespace Sys2Proof.Machine

/-- How many positions of a cycle a mask owns. -/
def ownedCount (mask : Nat) : Nat := ((List.range 16).filter fun i => mask.testBit i).length

/-- `n` slots further on, counting only those whose positions a mask owns (R207). -/
def slotsOn (mask : Nat) : Nat → Nat → Nat
  | 0, slot => slot
  | n + 1, slot => slotsOn mask n (nextSlot mask (slot + 4))

/-- The slot of the flit `n` flits after the one in `slot` (R207, R243). -/
def slotAfter (mask slot n : Nat) : Nat :=
  let m := Nat.max 1 (ownedCount mask)
  slotsOn mask (n % m) (slot + 64 * (n / m))

/-- The lines of a stream of `count` flits from its first line. -/
def flitStreamLines (cap count : Nat) : Nat := ceilDiv (cap * count) 64

/-- The address check of SEND and RECV (R88): the register, then the whole stream. -/
def streamFault (v : Word) (cap count : Nat) : Option Nat :=
  firstSome [lineFault v, beyondLines v.toNat (flitStreamLines cap count)]

/-- The SEND in progress on a route. -/
def Core.sending (k : Core) (r : Nat) : Option SendSt := Assoc.get none k.sends r

/-- The RECV armed on a route. -/
def Core.receiving (k : Core) (r : Nat) : Option RecvSt := Assoc.get none k.recvs r

/-- A route's send side is busy at a Groundsheet tick (R81, R90). -/
def Core.sendBusy (k : Core) (r gst : Nat) : Bool :=
  match k.sending r with
  | some x => decide (x.last > gst)
  | none => false

/-- A route's receive side is busy at a frame tick (R81). -/
def Core.recvBusy (k : Core) (r t : Nat) : Bool :=
  match k.receiving r with
  | some x => match x.busyUntil with
    | some u => decide (u > t)
    | none => true
  | none => false

/-- The fault that a SEND meets as it issues at tick t, in R382's order: cause, UNIT and DETAIL. Its credit is checked with the
tick's other checks (R89). -/
def State.sendFault (s : State) (k : Core) (r : Nat) (v : Word) (count t : Nat) : Option (Nat × Nat × Nat) :=
  match streamFault v (s.flitCap (s.route r).outPort) count with
  | some d => some (0x0F, 0xFFFF, d % 2 ^ 32)
  | none =>
    if k.sendBusy r (s.frame.start + t) then some (0x02, r, 2 ^ 31 + 0x04)
    else none

/-- Where a route's earlier SENDs stand while a later one is in progress: the one whose last slot is the later one's issue
tick (R81, R90), or those that a bubble overlaps (R382). -/
def earlierSend (r n : Nat) : Nat := r + 4096 * (64 + n)

/-- The first free place for an earlier SEND of a route. -/
def Core.earlierPlace (k : Core) (r : Nat) : Nat :=
  earlierSend r (((List.range (k.sends.length + 1)).find? fun n => decide (k.sending (earlierSend r n) = none)).getD 0)

/-- SEND at its issue tick (R90, R243, R382): its flits take the route's owned positions whose slots start at
least 8 ticks on. One that finds its route busy runs as a bubble whose slots overlap the earlier one's. -/
def State.sendAt (s : State) (x : Issue) (r : Nat) (rAddr : RegSpec) (count pool done t : Nat) : State :=
  let k := s.core x.core
  let v := k.reg rAddr
  let fault := if s.mutedAt t then none else s.sendFault k r v count t
  let bubble := s.mutedAt t || fault.isSome
  let s := match fault with
    | some (cause, unit, detail) => s.instrFault x cause unit detail t
    | none => s
  let mask := (s.route r).posMask
  let slot := nextSlot mask (s.frame.start + t + 8)
  let y : SendSt := { issue := t, pc := (s.queue x).pc, line := v.toNat, count := count, sent := 0, done := done, hold := bubble, slot := slot,
                      last := slotAfter mask slot (count - 1), cap := s.flitCap (s.route r).outPort }
  let k := s.core x.core
  let sends := match k.sending r with
    | some last => Assoc.put none k.sends (k.earlierPlace r) (some last)
    | none => k.sends
  let s := s.setCore x.core { k with sends := Assoc.put none sends r (some y) }
  if bubble || decide (pool ≥ 15) then s else s.push x.core t (.creditTake x.queue (s.queue x).pc pool)

/-- SEND (R90, R243). -/
def execSend (x : Issue) (route : Nat) (rAddr : RegSpec) (count pool done : Nat) (s : State) : Result :=
  onCore s x (s.planOnly x (fun s t => s.sendAt x route rAddr count pool done t) (withSigs 1))

/-- The entry that a RECV on a route arms first: the even one of a twin pair (R286). -/
def State.recvBase (s : State) (r : Nat) : Nat := if (s.route r).twin then r - r % 2 else r

/-- Where a RECV that found its route busy waits for the earlier one's flits to have come (R382). -/
def laterRecv (r n : Nat) : Nat := r + 4096 * (1 + n)

/-- The first free place after the RECVs of a route. -/
def Core.laterPlace (k : Core) (r : Nat) : Nat :=
  laterRecv r (((List.range (k.recvs.length + 1)).find? fun n => decide (k.receiving (laterRecv r n) = none)).getD 0)

/-- RECV at its issue tick (R90, R243, R286, R382): it arms its route, and both of a twin pair. One that finds its route busy
is a bubble whose flits follow the earlier one's. -/
def State.recvAt (s : State) (x : Issue) (route : Nat) (rAddr : RegSpec) (count done t : Nat) : State :=
  let k := s.core x.core
  let r := s.recvBase route
  let v := k.reg rAddr
  let busy := k.recvBusy r t
  let fault : Option (Nat × Nat × Nat) :=
    if s.mutedAt t then none
    else match streamFault v (s.flitCap (s.route route).inPort) count with
      | some d => some (0x0F, 0xFFFF, d % 2 ^ 32)
      | none => if busy then some (0x02, route, 2 ^ 31 + 0x05) else none
  let bubble := s.mutedAt t || fault.isSome
  let s := match fault with
    | some (cause, unit, detail) => s.instrFault x cause unit detail t
    | none => s
  let y : RecvSt := { issue := t, pc := (s.queue x).pc, line := v.toNat, count := count, done := done, bubble := bubble,
                      twin := (s.route route).twin, cap := s.flitCap (s.route route).inPort }
  let k := s.core x.core
  s.setCore x.core { k with recvs := Assoc.put none k.recvs (if busy then k.laterPlace r else r) (some y) }

/-- RECV (R90, R286). -/
def execRecv (x : Issue) (route : Nat) (rAddr : RegSpec) (count done : Nat) (s : State) : Result :=
  onCore s x (s.planOnly x (fun s t => s.recvAt x route rAddr count done t) (withSigs 1))

/-- CGIVE at its issue tick (R90): the route's pending credits of the pool go up, or TOKEN_OVERFLOW leaves
them at 255. -/
def State.cgiveAt (s : State) (x : Issue) (route pool n t : Nat) : State :=
  let k := s.core x.core
  if s.mutedAt t then s
  else if Assoc.get 0 k.pendCredits (16 * route + pool) + n > 255 then
    (s.setCore x.core { k with pendCredits := Assoc.put 0 k.pendCredits (16 * route + pool) 255 }).instrFault x 0x03 0xFFFF
      (2 ^ 30 + pool) t
  else s.push x.core t (.pendCredit route pool n)

/-- CGIVE (R90). -/
def execCgive (x : Issue) (route pool n : Nat) (s : State) : Result :=
  onCore s x (s.planOnly x fun s t => s.cgiveAt x route pool n t)

end Sys2Proof.Machine
end

