-- ==== Sys2Proof/Machine/Frames.lean ====
section
/-! DEFINITION. Frames and boundaries (spec/03): FRAME_RUN, FRAME_STOP, FRAME_WAIT, the frame's start and end,
the verdict, the decision tick, the apply tick (R55 to R62, R82, R112, R283, R284, R298, R383). -/
namespace Sys2Proof.Machine

/-! ### The frames' end -/

/-- Frames stop (R60, R62, R331): what waits for a frame is flushed, and the commands that asked for the stop are
answered. The spec gives the runtime's notification no form of its own: RUN = 0 and these answers are it (log 57). -/
def State.endFrames (s : State) : State :=
  let stops := s.frame.stops
  let hold := (header s.activeImage).multi
  let s := s.setFrame { s.frame with phase := .idle, stopAt := none, stops := [], stopped := false, aborts := 0,
                                     holdAfterStop := hold || s.frame.holdAfterStop }
  let s := (s.rset0 PLAN_FRAME_CTRL.RUN 0).rset0 PLAN_NEXT_START.TICK (2 ^ 64 - 1)
  let s := (s.passApply s.gst).flushWaits 0x0E
  stops.foldl (fun s h => s.finish h cmdFrameStop 0 0 0 0) s

/-! ### FRAME_RUN, FRAME_STOP, FRAME_WAIT (R55, R62, R298) -/

/-- A variant's gap need, R55's V + 4,096, exceeds a gap. -/
def State.gapShort (s : State) (gap : Nat) : Bool :=
  (List.range 4).any fun v =>
    (decide (s.rget PLAN_VAR_STATE.STATE v = 2) || decide (s.rget PLAN_VAR_STATE.STATE v = 3)) &&
    decide (gap < s.rget PLAN_VAR_VTICKS.VERDICT_TICKS v + 4096)

/-- A port spills, and its entries do not fit on chip again (R221). -/
def State.spillStuck (s : State) (p : Nat) : Bool :=
  decide (p < 18) && decide (s.rget KL_PORT_STATUS.SPILLING p = 1) &&
    decide (1024 < (s.port p).replay.length + (s.port p).spilled.length)

/-- A port that the active route table uses cannot stop spilling yet (R221). -/
def State.spillBlocks (s : State) : Bool :=
  s.portRoutes.any fun r => (r.owns && s.spillStuck r.outPort) || (decide (r.kind ≠ 0) && s.spillStuck r.inPort)

/-- FRAME_RUN's effect (R55, R221, R291). -/
def State.frameRun (s : State) (h : HostCmd) : State × CmdEnd :=
  if h.a1 ≥ 2 ^ 32 then (s, .done 0x03 0 0 0)
  else if s.frame.phase ≠ .idle then (s, .done 0x01 0 0 0)
  else if s.rget HOST_STATUS.FULL = 0 then (s, .done 0x05 0 0 0)
  else if h.a0 < s.gst + 65536 then (s, .done 0x09 0 0 0)
  else if s.gapShort h.a2 ∨ (s.plan.active.isNone ∧ s.frame.activates.isEmpty = true) ∨ s.spillBlocks = true then
    (s, .done 0x04 0 0 0)
  else
    let s := s.setFrame { s.frame with phase := .waiting, t0 := h.a0, n := h.a1, gap := h.a2, index := 0, aborts := 0,
                                       stopAt := none, stopped := false, holdAfterStop := false }
    (s.rset0 PLAN_NEXT_START.TICK h.a0, .done 0 0 0 0)

/-- FRAME_RUN (R55). -/
def execFrameRun (h : HostCmd) (s : State) : Result := .next (s.runCmd h cmdFrameRun (.frameRun h) fun s => s.frameRun h)

/-- Frames are to stop at an apply tick, the earlier of two. -/
def State.stopFramesAt (s : State) (tick : Nat) : State :=
  s.setFrame { s.frame with stopAt := some (match s.frame.stopAt with
    | some t => Nat.min t tick
    | none => tick) }

/-- An immediate stop (R62): a frame in progress aborts with cause STOPPED and runs out in abort mode; between
frames it takes effect at once or at the apply tick of the boundary. -/
def State.stopNow (s : State) : State :=
  match s.frame.phase with
  | .idle => s
  | .waiting => s.endFrames
  | .inFrame =>
    let s := s.raiseFault { cause := 0x17, region := regionCode 143 } (Nat.max s.frame.now s.ftick)
    (s.setFrame { s.frame with stopped := true }).stopFramesAt s.applyAt
  | .ended => s.stopFramesAt s.applyAt
  | .decided => s.stopFramesAt s.applyAt
  | .applied => s.endFrames

/-- FRAME_STOP's effect (R62): it completes when frames have stopped. -/
def State.frameStop (s : State) (h : HostCmd) : State × CmdEnd :=
  let wait (s : State) : State := s.setFrame { s.frame with stops := s.frame.stops ++ [h] }
  match s.frame.phase with
  | .idle => (s, .done 0 0 0 0)
  | phase =>
    if h.a0 = 0 then
      (if phase = .waiting ∨ phase = .applied then (s.stopNow, .done 0 0 0 0) else ((wait s).stopNow, .later))
    else
      match s.namedApply h.a0 with
      | some t => ((wait s).stopFramesAt t, .later)
      | none => (s, .done 0x04 0 0 0)

/-- FRAME_STOP (R62). -/
def execFrameStop (h : HostCmd) (s : State) : Result := .next (s.runCmd h cmdFrameStop (.frameStop h) fun s => s.frameStop h)

/-- FRAME_WAIT's effect (R298). -/
def State.frameWait (s : State) (h : HostCmd) : State × CmdEnd :=
  let seq := s.rget PLAN_FRAME_SEQ.SEQ
  let open' := decide (s.frame.phase = .inFrame) || decide (s.frame.phase = .ended)
  if h.a0 > seq ∨ (h.a0 = seq ∧ open' = true) then
    let w : WaitCmd := { cmd := h, opcode := 0x06, seq := some h.a0, isFrameWait := true }
    (s.setFrame { s.frame with waits := s.frame.waits ++ [w] }, .later)
  else if h.a0 = s.rget PLAN_SNAP_FRAME.SEQ ∧ h.a0 ≠ 0 then
    (s, .done (if s.rget PLAN_SNAP_INFO.VERDICT = 0 then 0x00 else 0x10) 0 h.a0 (s.rget PLAN_STEP.STEP))
  else (s, .done 0x13 0 0 0)

/-- FRAME_WAIT (R298). -/
def execFrameWait (h : HostCmd) (s : State) : Result := .next (s.runCmd h cmdFrameWait (.frameWait h) fun s => s.frameWait h)

/-! ### FRAME_START (R61, R82, R112, R121, R130) -/

/-- An engine at a frame's first tick (R112, R130): its banks, tags and result are cleared; what its window shows of the last
pass and run stays (R116, R133). -/
def Engine.fresh (x : Engine) : Engine :=
  { done0 := x.done0, done1 := x.done1, split := x.split, fmtA := x.fmtA, fmtB := x.fmtB, vSlot := x.vSlot, vSrc := x.vSrc,
    vMode := x.vMode, vDone := x.vDone }

/-- A core at a frame's first tick: parameters, scratchpad, flags and its service call stay (R82). -/
def Core.fresh (k : Core) : Core :=
  { engines := k.engines.map fun e => (e.1, e.2.fresh), pLive := k.pLive, spad := k.spad, badWords := k.badWords, flags := k.flags, flagsSnap := k.flagsSnap, svc := k.svc,
    dma := k.idleDma }

/-- Why a device cannot start a frame (R61); 0 when it can. -/
def State.startCause (s : State) : Nat :=
  let h := header s.activeImage
  if s.rget CLK_STATUS.SOURCE = 1 ∧ s.frame.holdFrames ≥ s.rget CLK_HOLDOVER.FRAMES then 0x15
  else if h.multi = true ∧ s.rget CLK_STATUS.LOCKED = 0 then 0x09
  else if bitAt h.rates (s.rget CLK_STATUS.RATE_IDX) = false then 0x16
  else 0

/-- The frame engine at a frame's first tick. -/
def State.openFrame (s : State) (v : Nat) : State :=
  let f := s.frame
  let len := s.rget PLAN_VAR_STATE.FRAME_LEN v
  let seq := s.rget PLAN_FRAME_SEQ.SEQ + 1
  let waits := f.waits.map fun w => if w.set = 0 ∧ w.seq.isNone then { w with seq := some seq } else w
  let s := s.setFrame { f with phase := .inFrame, start := f.t0, t0 := f.t0 + len + f.gap, index := f.index + 1, len := len,
                               vt := s.rget PLAN_VAR_VTICKS.VERDICT_TICKS v, now := 0, abortTick := none,
                               fromStart := false, first := none, faults := 0, children := [], verdicts := [],
                               sentUp := false, bcast := none, bad := false, stopped := false, verdict := 0, committed := false,
                               commits := [], published := 0, updated := [], waits := waits }
  let s := (s.rset0 PLAN_FRAME_SEQ.SEQ seq).rset0 PLAN_FRAME_CTRL.RUN 1
  (s.rset0 PLAN_FRAME_CTRL.ABORT_MODE 0).rset0 PLAN_NEXT_START.TICK (f.t0 + len + f.gap)

/-- The units at a frame's first tick (R82, R112, R121, R130). -/
def State.freshUnits (s : State) : State :=
  let s := s.mapCores Core.fresh
  let s := { s with mem := { s.mem with serves := [], sched := [] } }
  let s := s.mapRegions fun r => { r with charges := [] }
  (List.range 16).foldl (fun s u => s.setSel u { s.selUnit u with next := 0, run := none }) s

/-- A frame that the device cannot start runs in abort mode from its first tick (R61); so does one of a device in
the fail-safe state (R330). -/
def State.abortFromStart (s : State) (cause : Nat) : State :=
  let s := if cause = 0 then s else s.raiseFault { cause := cause, region := regionCode 143 } 0
  let s := s.setFrame { s.frame with abortTick := some 0, fromStart := true, bad := true }
  s.rset0 PLAN_FRAME_CTRL.ABORT_MODE 1

/-- A frame starts. -/
def State.startFrame (s : State) (v : Nat) : State :=
  let cause := s.startCause
  let fs := s.failSafe
  let s := (s.flushTables.openFrame v).freshUnits
  if fs then s.abortFromStart 0 else if cause = 0 then s else s.abortFromStart cause

/-- FRAME_START (R61, R82). -/
def execFrameStart (s : State) : Result :=
  .next (
    if (s.frame.phase = .waiting ∨ s.frame.phase = .applied) ∧ s.gst ≥ s.frame.t0 then
      match s.plan.active with
      | some v => s.startFrame v
      | none => s.endFrames
    else s)

/-! ### FRAME_END (R56, R283, R383) -/

/-- A unit whose work extends past the frame (R383): queue, unit code and UNIT. -/
def State.overruns (s : State) (k : Core) : List (Nat × Nat × Nat) :=
  let last := s.frameLen - 1
  ((k.dma.map (·.1)).filter fun ch => k.keyBusy ch last).map (fun ch => (3, 0x03, ch % 16)) ++
  (k.sendList.filter fun e => e.2.fixed.isNone && decide (e.2.last > s.endTick)).map (fun e => (4, 0x04, e.1 % 4096)) ++
  ((k.recvs.map (·.1)).filter fun r => k.recvBusy r last).map fun r => (4, 0x05, r % 4096)

/-- The units that have not completed, core by core, and the memory-fed routes (R383). -/
def State.allOverruns (s : State) : List (Nat × Nat × Nat × Nat) × List Nat :=
  (s.cores.flatMap fun e => (s.overruns e.2).map fun o => (e.1, o.1, o.2.1, o.2.2),
   s.mem.serves.filterMap fun e => match e.2 with
     | some x => if x.slot > s.endTick then some e.1 else none
     | none => none)

/-- FRAME_OVERRUN wherever a unit has not completed (R383). -/
def State.raiseOverruns (s : State) (o : List (Nat × Nat × Nat × Nat) × List Nat) : State :=
  let last := s.frameLen - 1
  let s := o.1.foldl (fun s o => s.coreFault o.1 o.2.1 0xFFFFFFFF 0x1F o.2.2.2 o.2.2.1 last) s
  o.2.foldl (fun s r => s.raiseFault { cause := 0x1F, region := regionCode (regionOfPort (s.route r).outPort), unit := r,
                                       detail := 0x04 } last) s

/-- Tick E (R381, R383): where its end would leave a unit that has not completed, the fault comes in E, and E is the abort tick
if none came before. -/
def State.lastTick (s : State) : State :=
  let s := s.advance (s.frameLen - 1)
  let o := (s.advance s.frameLen).allOverruns
  (s.raiseOverruns o).advance s.frameLen

/-- At the end of E every such unit is cancelled (R383). -/
def State.cancelUnits (s : State) : State :=
  let idle (k : Core) : Core :=
    { k with dma := k.idleDma, pieces := [], sends := [], recvs := [], reads := [], writes := [], accesses := [] }
  let s := s.mapCores idle
  { s with mem := { s.mem with serves := [], sched := [] } }

/-- This device's own verdict (R56, R283, R330). -/
def State.ownVerdict (s : State) : Verdict :=
  if s.failSafe then .hold s.ownId
  else if s.frame.bad then .abort s.ownId ((s.frame.first.map (·.cause)).getD 0x17)
  else .ok

/-- A verdict as it is received: a Hold flit is an ABORT with cause HOLD_RECEIVED (R283). -/
def receivedVerdict : Verdict → Verdict
  | .hold o => .abort o 0x07
  | v => v

/-- The tick from which this device knows of its own abort. -/
def State.ownKnown (s : State) : Nat :=
  if s.failSafe then 0 else (s.frame.first.map (·.gst)).getD (s.frame.start + s.frame.abortTick.getD 0)

/-- The verdict of this device and of its children together: the one of the earliest fault that it knows of, its own by its
tick and a child's by the tick at which its verdict came (R56; log 58). -/
def State.joinVerdict (s : State) : Verdict :=
  match s.frame.children.find? fun e => e.2.2 ≠ .ok with
  | none => s.ownVerdict
  | some e => if s.ownVerdict ≠ .ok ∧ s.ownKnown ≤ e.2.1 then s.ownVerdict else e.2.2

/-- The ports of a mask. -/
def portsOf (mask : Nat) : List Nat := (List.range 18).filter fun p => mask.testBit p

/-- A verdict waits for a scheduled slot of a port (R56). -/
def State.queueVerdict (s : State) (p : Nat) (v : Verdict) : State :=
  s.setFrame { s.frame with verdicts := s.frame.verdicts ++ [(p, v)] }

/-- A verdict goes to every child. -/
def State.castDown (s : State) (v : Verdict) : State :=
  (portsOf (verdictTree s.activeImage).2).foldl (fun s p => s.queueVerdict p v) s

/-- Once the frame has ended and every child has sent its verdict, the verdict goes up the tree, or from the root
down (R56). -/
def State.sendVerdict (s : State) : State :=
  let (parent, kids) := verdictTree s.activeImage
  let ready := (portsOf kids).all fun p => s.frame.children.any fun e => e.1 = p
  if decide (s.frame.phase = .ended) && ready && !s.frame.sentUp && (header s.activeImage).multi then
    let v := s.joinVerdict
    let s := s.setFrame { s.frame with sentUp := true }
    if parent < 18 then s.queueVerdict parent v
    else (s.setFrame { s.frame with bcast := some (receivedVerdict v) }).castDown v
  else s

/-- The frame's end. -/
def State.endFrame (s : State) : State :=
  let s := s.lastTick.cancelUnits
  let hold := if s.rget CLK_STATUS.SOURCE = 1 then s.frame.holdFrames + 1 else 0
  let s := s.setFrame { s.frame with phase := .ended, holdFrames := hold }
  (s.rset0 CLK_STATUS.HOLD_FRAMES (Nat.min 15 hold)).sendVerdict

/-- FRAME_END (R56, R383). -/
def execFrameEnd (s : State) : Result :=
  .next (if s.frame.phase = .inFrame ∧ s.gst ≥ s.endTick then s.endFrame else s)

/-- A verdict arrives on a port of the tree (R56). -/
def State.gotVerdict (s : State) (p : Nat) (v : Verdict) : State :=
  let (parent, kids) := verdictTree s.activeImage
  if p = parent then
    if s.frame.bcast.isSome then s
    else (s.setFrame { s.frame with bcast := some (receivedVerdict v) }).castDown (receivedVerdict v)
  else if kids.testBit p ∧ (s.frame.children.any fun e => e.1 = p) = false then
    (s.setFrame { s.frame with children := s.frame.children ++ [(p, s.gst, receivedVerdict v)] }).sendVerdict
  else s

/-- VERDICT (R56, R283). -/
def execVerdict (p : Nat) (v : Verdict) (s : State) : Result :=
  onUnit s (decide (p < 18))
    (if (s.frame.phase = .inFrame ∨ s.frame.phase = .ended) ∧ (header s.activeImage).multi = true then s.gotVerdict p v else s)

/-! ### DECISION_TICK (R56, R57, R60, R73, R258, R284) -/

/-- The frame's decision (R56): its faults at D, its verdict code and whether it commits. -/
def State.decideFrame (s : State) : State :=
  let local' := if s.frame.stopped then 3 else 1
  let multi := (header s.activeImage).multi
  let s := if multi then
      match s.frame.bcast with
      | none => s.raiseFault { cause := 0x0B, region := regionCode 143 } (s.decideTick - s.frame.start)
      | some (.abort o c) =>
        if s.frame.bad then s
        else s.raiseFault { cause := 0x0A, region := regionCode 143, flags := 2, origin := o, detail := c } (s.decideTick - s.frame.start)
      | _ => s
    else s
  let remote := multi && !s.frame.bad && (match s.frame.bcast with
    | some .ok => false
    | some _ => true
    | none => false)
  let missing := multi && s.frame.bcast.isNone
  let ok := !s.frame.bad && !remote && !missing && !s.failSafe
  let s := s.setFrame { s.frame with verdict := if ok then 0 else if remote then 2 else local', committed := ok }
  if ok then s.rinc PLAN_STEP.STEP 0 else s

/-- The count of consecutive aborted frames (R60, R284). -/
def State.countAborts (s : State) : State :=
  let n := if s.frame.committed then 0
    else if s.rget ROLL_STATUS.AGREEING = 1 ∨ s.roll.switch.isSome then s.frame.aborts
    else s.frame.aborts + 1
  s.setFrame { s.frame with aborts := n }

/-- An armed telemetry push goes out (R258). -/
def State.telPush (s : State) : State :=
  if s.rget TEL_STATUS.ARMED = 1 then
    let addr := s.rget TEL_PUSH_ADDR.ADDR
    let data := bytesOf (s.rget PLAN_FRAME_SEQ.SEQ) 8 ++ bytesOf s.ownId 2 ++ bytesOf (s.rget PLAN_SNAP_INFO.VERDICT) 1 ++
      List.replicate 5 0 ++ bytesOf (s.rget TEL_MARK.MARK) 8 ++
      (List.range 12).flatMap fun k => bytesOf (s.rget TEL_CNT_SNAP.VALUE k) 8
    let (tag, s) := s.newTag
    let p : Packet := { src := 0, dest := bitsOf addr 50 14, kind := 0x02, vc := 3, status := 3, tag := tag, len := 120,
                        addr := addr, data := data }
    let s := { s with fab := { s.fab with requests := Assoc.put 0 s.fab.requests tag 1 } }
    let s := (s.originate p).rinc TEL_STATUS.PUSHES 0
    if s.rget TEL_PUSH.EVERY = 1 then s else s.rset0 TEL_STATUS.ARMED 0
  else s

/-- A lower node of the ring runs frames (R232): it has sent a marker since this device's last decision, or is on the ring
and runs the multi-device plan's frames as a member. -/
def State.lowerRuns (s : State) : Bool :=
  s.gl.markSeen || ((header s.activeImage).multi && ((s.gl.ring ++ s.gl.ringNow).any fun e => decide (e.1 < s.ownId) &&
    s.roll.members.testBit e.1))

/-- The frame marker of the ring's lowest-ID node that runs frames (R232). -/
def State.frameMarkerSend (s : State) : State :=
  let lower := s.lowerRuns
  let s := { s with gl := { s.gl with markSeen := false } }
  if s.onRing && !lower then s.glSend { prio := 2, code := 0x01, val := s.rget PLAN_FRAME_SEQ.SEQ } else s

/-- The decision tick: the commit engine starts if the frame commits (R57). -/
def State.decisionTick (s : State) : State :=
  let s := s.decideFrame.countAborts.latch
  let s := s.answerWaits
  let s := s.setFrame { s.frame with commits := if s.frame.committed then sortCommits s.frame.commits else [], published := 0,
                                     updated := [] }
  (s.setFrame { s.frame with phase := .decided }).telPush.frameMarkerSend

/-- DECISION_TICK (R56, R57, R73). -/
def execDecisionTick (s : State) : Result :=
  .next (if s.frame.phase = .ended ∧ s.gst ≥ s.decideTick then s.decisionTick else s)

/-- RERUN_LIMIT (R60): at the count RERUN_LIMIT + 1 frames stop at the next apply tick. -/
def execRerunLimit (s : State) : Result :=
  .next (
    if s.frame.phase = .decided ∧ s.frame.aborts ≥ s.rget PLAN_FRAME_CTRL.RERUN_LIMIT + 1 then s.stopFramesAt s.applyAt else s)

/-! ### APPLY_TICK (R58, R60, R62, R66, R184, R282) -/

/-- A Roll Call switch's variant: the one of the agreed plan that this device chose (R281, R282). -/
def State.switchVariant (s : State) (planId : Nat) : Option Nat :=
  let fits (v : Nat) : Bool := decide (v < 4) && decide (s.rget PLAN_VAR_STATE.STATE v = 2) && decide (s.rget PLAN_VAR_ID.PLAN_ID v = planId)
  let choice := s.rget ROLL_STATUS.CHOICE
  if fits choice then some choice else (List.range 4).find? fits

/-- Step 1 of R58. The second result says that a switch took this apply tick. -/
def State.applySwitch (s : State) (tick : Nat) : State × Bool :=
  match s.roll.switch with
  | none => (s, false)
  | some (at', planId) =>
    if at' > tick then (s, false)
    else
      let s := { s with roll := { s.roll with switch := none } }
      match if planId = 0 then none else s.switchVariant planId with
      | none => ((s.stopFramesAt tick).event ROLL_EVENT.NO_ALT, false)
      | some v =>
        let s := s.makeActive v false
        let s := s.setFrame { s.frame with aborts := 0 }
        let s := s.event ROLL_EVENT.SWITCHED
        (if s.frame.closedSet.isSome then s.dropSet 2 else s, true)

/-- Step 2 of R58: the activations whose tick has come. -/
def State.applyActivates (s : State) (tick : Nat) (switched : Bool) : State :=
  let due := s.frame.activates.filter fun e => e.1 ≤ tick
  let s := s.setFrame { s.frame with activates := s.frame.activates.filter fun e => ¬ (e.1 ≤ tick) }
  due.foldl (fun s e =>
    if switched then s.finish e.2.2 cmdPlanActivate 0x0A 0 0 0
    else if s.rget PLAN_VAR_STATE.STATE e.2.1 = 2 then
      let s := s.makeActive e.2.1 true
      let s := { s with roll := { s.roll with lost := [] } }
      s.finish e.2.2 cmdPlanActivate 0 0 tick 0
    else s.finish e.2.2 cmdPlanActivate 0x04 0 0 0) s

/-- Step 6 of R58: the stop window of a tick-rate change whose boundary has come (R39). -/
def State.applyRate (s : State) (tick : Nat) : State :=
  match s.clk.ratePend with
  | some (_, b) => if b ≤ tick then { s with clk := { s.clk with stopWindow := true } } else s
  | none => s

/-- A command is a DMA_COPY. -/
def isCopy (c : Instr) : Bool :=
  match c with
  | .dmaCopy _ _ => true
  | _ => false

/-- The commands that waited for the commit engine or for a Cairn record run (R182, R267); the copies among them run after
the apply tick's steps. -/
def State.runDeferred (s : State) : State :=
  let cs := s.frame.deferred.filter fun c => !isCopy c
  let run (s : State) (r : Result) : State := match r with
    | .next s => s
    | _ => s
  cs.foldl (fun s c => match c with
    | .slotBind h => run s (execSlotBind h s)
    | .slotUnbind h => run s (execSlotUnbind h s)
    | .ctxCreate h d t => run s (execCtxCreate h d t s)
    | .ctxSet h d t => run s (execCtxSet h d t s)
    | .ctxDestroy h => run s (execCtxDestroy h s)
    | .pageMap h => run s (execPageMap h s)
    | .pageUnmap h => run s (execPageUnmap h s)
    | .pageMove h => run s (execPageMove h s)
    | .cairnRead h => run s (execCairnRead h s)
    | .planUnload h => run s (execPlanUnload h s)
    | _ => s) (s.setFrame { s.frame with deferred := s.frame.deferred.filter isCopy })

/-- CAIRN_RECORD (R262 to R265): the lane's next token; a command that waited for its record runs (R182, R267). -/
def execCairnRecord (lane : Nat) (s : State) : Result :=
  onUnit s (decide (lane < 16))
    (match s.srv.cairn.find? fun t => t.lane = lane with
     | some t => if s.gst ≥ t.doneAt then (s.cairnDone t).runDeferred else s
     | none => s)

/-- A latch of SRV_CTX_SEL that waited for the apply tick is made (R202). -/
def State.lateLatch (s : State) : State :=
  if s.srv.ctxSelWait then { s with srv := { s.srv with ctxSelWait := false } }.latchCtx else s

/-- The six steps of R58, with the refresh of R184 between the fourth and the fifth. -/
def State.applySteps (s : State) (tick : Nat) : State :=
  let (s, switched) := s.applySwitch tick
  let s := ((s.applyActivates tick switched).applyUnbinds tick).applySet tick
  let s := if s.frame.committed ∧ s.frame.phase = .decided then s.refresh else s
  s.applyMap.applyRate tick

/-- The apply tick of a boundary. -/
def State.applyBoundary (s : State) : State :=
  let tick := s.applyAt
  let s := s.publishAll.applySteps tick
  let s := s.setFrame { s.frame with t0 := s.nextFrame }
  let s := if s.framesEnd tick then s.endFrames else s.setFrame { s.frame with phase := .applied }
  s.runDeferred.lateLatch

/-- An apply tick while no frames run (R55): the last multiple of 65,536, once, and before T0 if one is set. -/
def State.applyIdle (s : State) : State :=
  let tick := s.gst / 65536 * 65536
  if tick = s.frame.lastApply ∨ (s.frame.phase = .waiting ∧ s.frame.t0 ≤ tick) then s
  else
    let s := (s.passApply tick).applySteps tick
    if s.frame.phase = .waiting ∧ s.framesEnd tick = true then s.endFrames else s

/-! ### POWER_OVER (R76) -/

/-- A region's charge within the interval in progress, the tick in progress with it (R76). -/
def State.runningCharge (s : State) (r : Nat) : Nat :=
  let t := s.frame.now
  s.intervalCharge r (t / 4096) (t + 1) +
    (match if isCoreRegion r then s.coreOfRegion r else none with
     | some c => s.tickCharge c (s.core c) t
     | none => 0)

/-- POWER_OVER (R76): the region's charge within the interval in progress exceeds its limit on the tick in
progress. -/
def execPowerOver (r : Nat) (s : State) : Result :=
  onUnit s (decide (r < 288)) (
    let t := s.frame.now
    let m := t / 4096
    let n := s.intervalEnd m - 4096 * m
    if decide (s.frame.phase = .inFrame) && decide (t < s.frameLen) && !s.mutedAt t && s.chargedRegions.contains r &&
        chargeOver (s.runningCharge r) (s.regionLimit r m) n then
      s.raiseFault { cause := 0x08, region := regionCode r, detail := m,
                     lcore := if isCoreRegion r then (s.coreOfRegion r).getD 0xFFFF else 0xFFFF } t
    else s)

end Sys2Proof.Machine
end

