-- ==== Sys2Proof/Machine/LaneStream.lean ====
section
/-! DEFINITION. What a Klonak port's lanes carry: RS(544,514) codewords with their markers (R203, R205), 66-bit blocks and
the scrambler (R206), ordered sets (R214), and the receiver's searches for markers and blocks (R208 to R210). The places of
bits that the manual does not give are those of log 63. -/
namespace Sys2Proof.Machine

/-! ### The RS(544,514) code (R203, R205, R223) -/

/-- A product in the field of 1,024 elements, whose polynomial is x¹⁰ + x³ + 1. -/
def gf10Mul (a b : Nat) : Nat :=
  ((List.range 10).foldl (fun (x : Nat × Nat) i =>
    (if b.testBit i then x.1 ^^^ x.2 else x.1, if x.2 < 512 then 2 * x.2 else (2 * x.2 - 1024) ^^^ 9)) (0, a)).1

/-- The `n`th power of the field's generator. -/
def gf10Pow : Nat → Nat
  | 0 => 1
  | n + 1 => gf10Mul (gf10Pow n) 2

/-- The code's generator polynomial, highest coefficient first: its roots are the first 30 powers. -/
def rsGenerator : List Nat :=
  (List.range 30).foldl (fun g i => List.zipWith (· ^^^ ·) (g ++ [0]) (0 :: g.map (gf10Mul (gf10Pow i)))) [1]

/-- The 30 parity symbols of a message. -/
def rsParity (msg : List Nat) : List Nat :=
  msg.foldl (fun r m => List.zipWith (fun a g => a ^^^ gf10Mul (m ^^^ r.headD 0) g) (r.tail ++ [0]) rsGenerator.tail)
    (List.replicate 30 0)

/-- The codeword of a message of 514 symbols: symbols 514 to 543 are the parity (R205). -/
def rsEncode (msg : List Nat) : List Nat := msg ++ rsParity msg

/-- 544 symbols are a codeword. -/
def rsValid (cw : List Nat) : Bool := decide (cw.length = 544) && decide (rsParity (cw.take 514) = cw.drop 514)

/-- Received symbols are corrected to a codeword: at most 15 of them differ from it (R223). -/
def rsCorrects (rx cw : List Nat) : Bool :=
  rsValid cw && decide (rx.length = 544) && decide (((rx.zip cw).filter fun e => e.1 ≠ e.2).length ≤ 15)

/-! ### Codewords on the lanes (R205) -/

/-- The marker symbol of each logical lane. -/
def laneMarkers : List Nat := [0x0F8, 0x1E1, 0x0CF, 0x2B4]

/-- A codeword's 544 symbols from the 510 that continue the block stream: markers, payload, parity. -/
def codeword (payload : List Nat) : List Nat := rsEncode (laneMarkers ++ payload)

/-- The symbols that the `k`th of `n` lanes in use carries. -/
def laneSymbols (cw : List Nat) (n k : Nat) : List Nat :=
  ((List.range cw.length).filter fun s => s % n = k).map fun s => cw.getD s 0

/-- The REFCLK periods that a codeword takes on `n` lanes, at full rate (0) or half rate (1). -/
def codewordPeriods (n half : Nat) : Nat := 4 / n * (1 + half)

/-- The bits of one lane from one marker to the next on `n` lanes. -/
def markerSpan (n : Nat) : Nat := 1360 * (4 / n)

/-! ### The block stream (R206) -/

/-- A 66-bit block before scrambling: a control block (header 10) or a data block (header 01), and its 64 payload bits. -/
structure Block where
  ctrl : Bool
  payload : Nat
  deriving DecidableEq, Repr

/-- The blocks of bytes whose first eight are a control block. -/
def blocksOf (bs : List Byte) : List Block :=
  (List.range (bs.length / 8)).map fun i => { ctrl := decide (i = 0), payload := leAt bs (8 * i) 8 }

/-- The IDLE block: bytes 1 to 7 are 0 and carry no CRC (R214). -/
def idleBlock : Block := { ctrl := true, payload := 0xFF }

/-- Payload bits through the scrambler 1 + x³⁹ + x⁵⁸; bit k of its state is the bit sent k + 1 before. -/
def scramble (st v : Nat) : Nat → Nat × Nat
  | 0 => (0, st)
  | n + 1 =>
    let b := (v % 2 + bitsOf st 38 1 + bitsOf st 57 1) % 2
    let (rest, st) := scramble ((2 * st + b) % 2 ^ 58) (v / 2) n
    (b + 2 * rest, st)

/-- Received payload bits through the descrambler, which synchronises itself. -/
def descramble (st v : Nat) : Nat → Nat × Nat
  | 0 => (0, st)
  | n + 1 =>
    let b := (v % 2 + bitsOf st 38 1 + bitsOf st 57 1) % 2
    let (rest, st) := descramble ((2 * st + v % 2) % 2 ^ 58) (v / 2) n
    (b + 2 * rest, st)

/-- A block's 66 bits, first bit lowest: the header is not scrambled. -/
def blockBits (st : Nat) (b : Block) : Nat × Nat :=
  let (v, st) := scramble st b.payload 64
  ((if b.ctrl then 1 else 2) + 4 * v, st)

/-- A received block: none where its header is 00 or 11. -/
def readBlock (st bits : Nat) : Option Block × Nat :=
  let (v, st) := descramble st (bits / 4) 64
  (if bits % 4 = 1 then some { ctrl := true, payload := v % 2 ^ 64 }
   else if bits % 4 = 2 then some { ctrl := false, payload := v % 2 ^ 64 } else none, st)

/-- The bits of a stream of blocks, first bit lowest. -/
def streamBits (st : Nat) : List Block → Nat
  | [] => 0
  | b :: rest =>
    let (v, st) := blockBits st b
    v + 2 ^ 66 * streamBits st rest

/-- The codewords that carry a stream of blocks (R205, R206); IDLE blocks fill the last one. -/
def codewordsOf (seed : Nat) (blocks : List Block) : List (List Nat) :=
  let m := ceilDiv (66 * blocks.length) 5100
  let v := streamBits seed (blocks ++ List.replicate (ceilDiv (5100 * m) 66 - blocks.length) idleBlock)
  (List.range m).map fun k => codeword ((List.range 510).map fun j => bitsOf v (5100 * k + 10 * j) 10)

/-! ### Ordered sets (R214) -/

/-- An ordered set: type, number of data blocks, fields (bytes 2 to 5), CRC-16 over control bytes 0 to 5 and the data
blocks, and the data blocks. -/
def setBytes (code fields : Nat) (data : List Nat) : List Byte :=
  let head := bytesOf code 1 ++ bytesOf data.length 1 ++ bytesOf fields 4
  let body := data.flatMap fun v => bytesOf v 8
  head ++ bytesOf (crc16 (head ++ body)) 2 ++ body

/-- A received ordered set is kept (R214): it is whole and its CRC is good. -/
def setGood (bs : List Byte) : Bool :=
  decide (bs.length = 8 + 8 * leAt bs 1 1) && decide (crc16 (bs.take 6 ++ bs.drop 8) = leAt bs 6 2)

/-- A received ordered set on a port takes its effect if its CRC is good; else it is discarded and counted (R214). -/
def State.onSet (s : State) (p : Nat) (crcOk : Bool) (eff : State) : Result :=
  onUnit s (decide (p < 18)) (if crcOk then eff else
    s.setPort p { s.port p with live := Assoc.put 0 (s.port p).live 10 (Assoc.get 0 (s.port p).live 10 + 1) })

/-- The blocks that a port has sent: of its flits, 32 each, and of its ordered sets. -/
def sentBlocks (p : Nat) (out : List Output) : List Block :=
  out.flatMap fun o => match o with
    | .flit q raw => if q = p then blocksOf raw else []
    | .orderedSet q raw => if q = p then blocksOf raw else []
    | _ => []

/-- What each lane in use of a port has carried: the symbols of lane `k` of `n`, codeword by codeword (R205). -/
def State.laneStream (s : State) (p n k : Nat) : List Nat :=
  (codewordsOf (Config.scramblerSeed p) (sentBlocks p s.out)).flatMap fun cw => laneSymbols cw n k

/-- The mean one-way delay of a port's bring-up in 1/16 tick at tick rate index-count `n` (6.25 MHz each), cut to its field
(R213; log 63). -/
def Port.delay16 (x : Port) (n : Nat) : Nat := Nat.min 16383 (x.delayUp * n / (10000 * Nat.max 1 x.echoesUp))

/-! ### Marker lock (R208, R209) -/

/-- The logical lane that a symbol names as a marker, and whether it is the complement. -/
def markerOf (v : Nat) : Option (Nat × Bool) :=
  (List.range 4).findSome? fun k =>
    if v = laneMarkers.getD k 0 then some (k, false) else if v = 1023 - laneMarkers.getD k 0 then some (k, true) else none

/-- How many of the codewords from offset `o` on carry the same symbol there as the first, up to `m`. -/
def sameMarkers (rx span o v : Nat) : Nat → Nat
  | 0 => 0
  | m + 1 => if bitsOf rx o 10 = v then 1 + sameMarkers rx span (o + span) v m else 0

/-- The search of a lane's received bits, `n` of them from the lowest on (R208): every second offset is tested for a marker,
and 16 matches of it in following codewords give lock; a mismatch resumes the search at the next offset. The answer is the
marker. -/
def markerSearch (rx n span : Nat) : Nat → Nat → Option (Nat × Bool)
  | 0, _ => none
  | fuel + 1, o =>
    if n < o + 10 then none
    else
      match markerOf (bitsOf rx o 10) with
      | none => markerSearch rx n span fuel (o + 2)
      | some m =>
        let k := sameMarkers rx span o (bitsOf rx o 10) 16
        if k < 16 then markerSearch rx n span fuel (o + span * k + 2)
        else if o + 15 * span + 10 ≤ n then some m
        else none

/-- A lane gains marker lock on received bits, `n` of them. -/
def markerLock (rx n span : Nat) : Option (Nat × Bool) := markerSearch rx n span (n / 2 + 1) 0

/-- A run of `m` symbols in a row that are not the marker `v` (R208). -/
def mismatchRun (v m : Nat) (syms : List Nat) : Bool :=
  (List.range (syms.length + 1 - m)).any fun i => decide (m ≤ syms.length) && ((syms.drop i).take m).all fun w => decide (w ≠ v)

/-! ### Block lock (R210) -/

/-- The search for block boundaries: 64 valid headers in a row at one offset; an invalid header slips the offset by one
bit. -/
def blockSearch (rx n : Nat) : Nat → Nat → Nat → Bool
  | 0, _, _ => false
  | fuel + 1, o, good =>
    if good ≥ 64 then true
    else if n < o + 2 then false
    else if bitsOf rx o 1 ≠ bitsOf rx (o + 1) 1 then blockSearch rx n fuel (o + 66) (good + 1)
    else blockSearch rx n fuel (o + 67) 0

/-- The receiver takes block lock on `n` bits of the decoded block stream. -/
def blockLock (rx n : Nat) : Bool := blockSearch rx n (n / 66 + 2) 0 0

/-- Some `w` in a row of a list of checks hold `k` failures (R210, R231). -/
def failsIn (checks : List Bool) (w k : Nat) : Bool :=
  (List.range checks.length).any fun i => decide (k ≤ (((checks.drop i).take w).filter fun b => !b).length)

end Sys2Proof.Machine
end

