-- ==== Sys2Proof/Machine/RollMsg.lean ====
section
/-! DEFINITION. Roll Call messages (spec/13, agreement): the body's bytes, the coordinator that a device sends to (R271),
the MSG packets (R244, R276) with their Guyline copies, and a suspicion on its way to the coordinator (R274, R275). -/
namespace Sys2Proof.Machine

/-! ### The message body -/

/-- An ENTRY's 4 bytes. -/
def entryBytes (e : RcEntry) : List Byte :=
  bytesOf (e.dev % 2 ^ 14 + e.port % 32 * 2 ^ 14 + (if e.link then 2 ^ 19 else 0) + e.cause % 16 * 2 ^ 20) 4

/-- The 40 fixed bytes of a body with a type and a count of entries. -/
def rcHead (m : RcMsg) (rtype count : Nat) : List Byte :=
  bytesOf rtype 1 ++ bytesOf m.round 1 ++ bytesOf (m.coord % 2 ^ 14) 2 ++ bytesOf m.epoch 8 ++ bytesOf m.digest 8 ++
    bytesOf m.planId 8 ++ bytesOf m.s 8 ++ bytesOf count 2 ++ bytesOf m.reason 2

/-- A body with its entries. -/
def rcBody (m : RcMsg) (rtype : Nat) : List Byte := rcHead m rtype m.entries.length ++ m.entries.flatMap entryBytes

/-- A FULL's body: the member bitmap in place of entries. -/
def rcFullBody (m : RcMsg) (bitmap : Nat) : List Byte := rcHead m 0x06 0 ++ bytesOf bitmap 2048

/-! ### Members (R270, R271) -/

/-- The membership digest (R270): the first 8 bytes of the SHA-256 of the member bitmap. -/
def memberDigest (members : Nat) : Nat := natOfBytes ((sha256 (bytesOf members 2048)).take 8)

/-- This device suspects a device. -/
def State.suspects (s : State) (dev : Nat) : Bool := s.roll.gone.any fun e => !e.link && decide (e.dev = dev)

/-- The coordinator as this device sees it (R271): the lowest member that it does not suspect. A device in no membership
takes the lowest device that it has heard as a member, else itself. -/
def State.coordinator (s : State) : Nat :=
  if s.roll.members = 0 then (s.roll.heard.head?.map (·.1)).getD s.ownId
  else ((List.range 16384).find? fun d => s.roll.members.testBit d && !s.suspects d).getD s.ownId

/-- A message of this device: its sender, its coordinator and its current epoch. -/
def State.newMsg (s : State) : RcMsg :=
  { sender := s.ownId, coord := s.coordinator, epoch := s.rget ROLL_EPOCH.EPOCH }

/-! ### Sending -/

/-- A MSG packet with a body (R244). -/
def msgPacket (src dest tag : Nat) (body : List Byte) : Packet :=
  { src := src, dest := dest, kind := 0x05, vc := 1, status := 0, tag := tag, len := body.length, addr := 0, data := body }

/-- The copy on the Guyline of a body that fits in 56 bytes (TYPE 0x11). -/
def State.guylineCopy (s : State) (body : List Byte) : State :=
  if body.length ≤ 56 ∧ s.onRing = true then s.glSend { prio := 0, code := 0x11, extra := body } else s

/-- A body goes to one device on the fabric. -/
def State.sendBody (s : State) (dest : Nat) (body : List Byte) : State :=
  let (tag, s) := s.newTag
  s.originate (msgPacket s.ownId dest tag body)

/-- A body goes to one device, with its copy on the Guyline. -/
def State.unicast (s : State) (dest : Nat) (body : List Byte) : State := (s.sendBody dest body).guylineCopy body

/-- A body goes to the neighbour of every UP port but one (R276). -/
def State.floodBody (s : State) (src inPort : Nat) (body : List Byte) : State :=
  ((List.range 18).filter fun p => s.portUp p && decide (p ≠ inPort)).foldl (fun s p =>
    let (tag, s) := s.newTag
    s.sendVia p (msgPacket src (s.rget KL_PORT_STATUS.PEER_ID p) tag body)) s

/-- A body of this device's own is flooded; a part of a PROPOSE has no copy on the Guyline (R277). -/
def State.flood (s : State) (body : List Byte) (whole : Bool) : State :=
  let s := s.floodBody s.ownId 31 body
  if whole then s.guylineCopy body else s

/-- A body goes to every other member, with one copy on the Guyline. -/
def State.tellMembers (s : State) (body : List Byte) : State :=
  (((List.range 16384).filter fun d => s.roll.members.testBit d && decide (d ≠ s.ownId)).foldl (fun s d => s.sendBody d body)
    s).guylineCopy body

/-! ### Arrival -/

/-- A message arrives: a packet's buffer is free again (R246); a copy on the Guyline is discarded and counted where its CRC is
bad, removed by its sender, and else taken and forwarded (R232, R233). -/
def State.rollArrive (s : State) (m : RcMsg) (rtype : Nat) (take : State → State) : State :=
  match m.ring with
  | none => take s.handled
  | some (hops, ok) =>
    s.glArrive { hops := hops, src := m.sender, crcOk := ok } id take fun s =>
      s.glPass (glBytes 0x11 (hops + 1) m.sender (rcBody m rtype))

/-- A message to the coordinator is for this device: on the ring every node sees it, and COORD says for whom it is. -/
def State.addressed (s : State) (m : RcMsg) : Bool := m.ring.isNone || decide (m.coord = s.ownId)

/-! ### Suspicions (R274, R275) -/

/-- The coordinator holds a suspicion or a request: its first starts the collection window (R276). -/
def State.collect (s : State) (sender : Nat) (entries : List RcEntry) : State :=
  let new := (entries.map fun e => (sender, e)).filter fun e => !s.roll.suspects.contains e
  let since := if s.roll.collecting then s.roll.collectAt else s.clk.wall
  { s with roll := { s.roll with suspects := s.roll.suspects ++ new, collecting := true, collectAt := since } }

/-- This device is a member (ROLL_STATUS.STATE). -/
def State.isMember (s : State) : Bool := decide (s.rget ROLL_STATUS.STATE = 0)

/-- This device's suspicions go to the coordinator as a SUSPECT, or are held here where it is coordinator itself. -/
def State.sendSuspect (s : State) : State :=
  if s.isMember && !s.roll.gone.isEmpty then
    if s.coordinator = s.ownId then s.collect s.ownId s.roll.gone
    else s.unicast s.coordinator (rcBody { s.newMsg with entries := s.roll.gone } 0x01)
  else s

/-- A new suspicion of a member's device or link. -/
def State.suspect (s : State) (e : RcEntry) : State :=
  if !s.isMember || s.roll.gone.any fun x => decide (x.dev = e.dev ∧ x.port = e.port ∧ x.link = e.link) then s
  else ({ s with roll := { s.roll with gone := s.roll.gone ++ [e] } }).sendSuspect

end Sys2Proof.Machine
end

