-- ==== Sys2Proof/Machine/Voltage.lean ====
section
/-! DEFINITION. The oscillators' limits and the core rails' voltages that follow them (R40, R45, R323, R324, R344,
R345). -/
namespace Sys2Proof.Machine

/-- VF(f) of a die: its 16 fused points interpolated linearly, rounded up to 5 mV, within 650 to 900 mV (R344). -/
def vfOf (die f : Nat) : Nat :=
  let f := Nat.min 1800 (Nat.max 900 f)
  let k := Nat.min 14 ((f - 900) / 60)
  let x := f - 900 - 60 * k
  let sum := Config.vfPoint die k * (60 - x) + Config.vfPoint die (k + 1) * x
  Nat.min 900 (Nat.max 650 (5 * ceilDiv sum 300))

/-- The power clamp of a region: only compute regions have one (R323). -/
def powerClampOf (r pclamp : Nat) : Nat := if isCoreRegion r then pclamp else 2047

/-- A region's oscillator limit now: the lesser of its ceiling and its clamp (R45). -/
def State.limitNow (s : State) (r : Nat) : Nat :=
  Nat.min (s.rget CLK_REGION_CEIL.CEIL_MHZ r) (s.rget CLK_REGION_DEBT.CLAMP_MHZ r)

/-- A region's limit once every change that waits is made. -/
def State.limitSoon (s : State) (r : Nat) : Nat :=
  let x := s.region r
  Nat.min (x.ceilPend.getD (s.rget CLK_REGION_CEIL.CEIL_MHZ r))
    (Nat.min (x.thermalPend.getD x.thermal) (powerClampOf r (s.pwr.clampPend.getD (s.rget PWR_MEASURE.PCLAMP_MHZ))))

/-- The compute regions of a die. -/
def dieCores (die : Nat) : List Nat := (List.range 136).map fun i => 144 * die + i

/-- f of a die: the greatest limit of its compute regions (R344). -/
def State.dieLimit (s : State) (die : Nat) : Nat := (dieCores die).foldl (fun m r => Nat.max m (s.limitNow r)) 0

/-- The frequency that a die's voltage must allow: what holds now and what waits for voltage (R345). -/
def State.dieNeed (s : State) (die : Nat) : Nat :=
  (dieCores die).foldl (fun m r => Nat.max m (Nat.max (s.limitNow r) (s.limitSoon r))) 0

/-- A core rail's voltage is requested anew where it changes (R344). -/
def State.setRail (s : State) (die : Nat) : State :=
  let v := vfOf die (s.dieNeed die)
  if s.rget RGR_AVS.TARGET_MV die = v then s else (s.rset RGR_AVS.TARGET_MV die v).emit (.avs die v)

/-- A rail's readback is within 10 mV of its target (R345). -/
def State.railReady (s : State) (rail : Nat) : Bool :=
  let t := s.rget RGR_AVS.TARGET_MV rail
  let v := s.rget RGR_AVS.READ_MV rail
  decide (t ≤ v + 10) && decide (v ≤ t + 10)

/-- CLAMP_MHZ is the lesser of the power clamp and the thermal clamp (R324). -/
def State.showClamp (s : State) (r : Nat) : State :=
  s.rset CLK_REGION_DEBT.CLAMP_MHZ r (Nat.min (s.region r).thermal (powerClampOf r (s.rget PWR_MEASURE.PCLAMP_MHZ)))

/-- OSC_MHZ: the least of what the supply's droop allows, which is free (log 44), the ceiling and the clamp, and not below
0.90 GHz (R45); 0 before the first release. -/
def State.oscMhz (s : State) (r : Nat) : Nat :=
  if s.gst = 0 then 0 else Nat.max 900 (Nat.min (s.limitNow r) (Config.droopMhz s.gst r))

/-- Every compute region's clamp is shown. -/
def State.showClamps (s : State) : State := coreRegions.foldl (fun s r => s.showClamp r) s

/-- A new ceiling waits (R40, R41, R345): where it raises the die's f, the voltage first. -/
def State.pendCeil (s : State) (r v : Nat) : State :=
  let s := s.setRegion r { s.region r with ceilPend := some v, ceilReady := true, ceilSince := s.clk.wall }
  if isCoreRegion r && decide (s.dieLimit (dieOf r) < s.limitSoon r) then
    let s := s.setRail (dieOf r)
    s.setRegion r { s.region r with ceilReady := s.railReady (dieOf r) }
  else s

/-- A ceiling takes effect by a stop of the region, and the voltage follows it (R41, R345). The 16 ns reach into the third
REFCLK period, so the stop ends at the third edge (log 53). -/
def State.applyCeil (s : State) (r v : Nat) : State :=
  let s := s.setRegion r { s.region r with ceilPend := none, ceilReady := true, stop := 3 }
  let s := ((s.rset CLK_REGION_CEIL.CEIL_MHZ r v).rset CLK_REGION_DEBT.PEND r 0).showClamp r
  if isCoreRegion r then s.setRail (dieOf r) else s

end Sys2Proof.Machine
end

