-- ==== Sys2Proof/Machine/Clock.lean ====
section
/-! DEFINITION. Logical time (spec/02): tick release and tick gates (R24 to R27), time across devices (R31 to
R35, R215), tick-rate changes (R37 to R39), ceilings (R40, R41), reference loss (R42 to R44) and pinned loops (R45). -/
namespace Sys2Proof.Machine

/-! ### Release and issue (R24 to R27) -/

/-- A region's credit: the ticks released and not issued (R25). -/
def State.debt (s : State) (r : Nat) : Nat := s.gst - (s.region r).tick

/-- STEER_STEP: RATE_N / 25 × STEER_PPB × 10⁻⁹ × 2³², rounded toward zero (R24). -/
def State.steerStep (s : State) : Int :=
  Int.tdiv ((s.clk.rate : Int) * signedOf (s.rget CLK_SYNC.STEER_PPB) 20 * 2 ^ 32) (25 * 1000000000)

/-- What a REFCLK edge releases: the ticks, and the new acc and frac (R24). -/
def State.releaseStep (s : State) : Nat × Nat × Nat :=
  let acc := s.clk.acc + s.clk.rate
  let frac : Int := (s.clk.frac : Int) + s.steerStep
  let n : Int := (acc / 25 : Nat) + frac / 2 ^ 32
  (n.toNat, acc % 25, (frac % 2 ^ 32).toNat)

/-! ### Crossings (R26, R28, R29) -/

/-- The entries that every crossing FIFO has room for: LAT + 64 + 10 rounded up to 112 (R28). -/
def xingCapacity : Nat := 112

/-- The entries that a crossing FIFO holds. -/
def Xing.entries (x : Xing) : Nat := x.wrote - x.took

/-- The FIFO holds the entry that a receiver at region_tick `t` needs, which its sender wrote at `t` - LAT (R26). -/
def Xing.has (x : Xing) (t : Nat) : Bool := decide (t < x.wrote + x.lat)

/-- A crossing that starts or ends in a recalibrating region gates nothing (R360). -/
def State.xingGated (s : State) (i : Nat) : Bool := !(s.recalibrating (xingFrom i) || s.recalibrating (xingTo i))

/-- inputs_ready for the crossings between regions (R26). -/
def State.xingsReady (s : State) (r : Nat) : Bool :=
  s.clk.xings.all fun e => decide (xingTo e.1 ≠ r) || !s.xingGated e.1 || e.2.has (s.region r).tick

/-- A sender finds no FIFO full (R28; log 52). -/
def State.xingsRoom (s : State) (r : Nat) : Bool :=
  s.clk.xings.all fun e => decide (xingFrom e.1 ≠ r) || decide (e.2.entries < xingCapacity)

/-- What the ends of crossing `i` have written and taken once region `r` has come to region_tick `t`. -/
def Xing.follow (x : Xing) (i r t : Nat) : Xing :=
  let x := if xingFrom i = r then { x with wrote := Nat.max x.wrote t } else x
  if xingTo i = r then { x with took := Nat.max x.took (t - x.lat) } else x

/-- Region `r` has come to region_tick `t`: its entries are written, and those that it needed are taken. -/
def State.crossTick (s : State) (r t : Nat) : State :=
  { s with clk := { s.clk with xings := s.clk.xings.map fun e => (e.1, e.2.follow e.1 r t) } }

/-- A crossing holds no entry beyond those on their way (R38's drain; log 52). -/
def Xing.drained (x : Xing) : Bool := decide (x.entries ≤ x.lat)

/-! ### Edges -/

/-- A region at an edge: its debt is sampled; at P1 to P4, and while it recalibrates, it goes on with every release (R24,
R27, R360, log 37). An edge of a ceiling change's stop is counted (R41). -/
def State.edgeRegion (s : State) (old r : Nat) : State :=
  let d := Nat.min 127 (old - (s.region r).tick)
  let p := s.rget PWR_REGION.PSTATE r
  let s := if (s.region r).stop = 0 then s else s.setRegion r { s.region r with stop := (s.region r).stop - 1 }
  if (1 ≤ p ∧ p ≤ 4) ∨ s.recalibrating r = true then
    ((s.setRegion r { s.region r with tick := s.gst }).rset CLK_REGION_DEBT.DEBT r 0).crossTick r s.gst
  else if p = 0 then
    (s.rset CLK_REGION_DEBT.DEBT r d).rset CLK_REGION_DEBT.MAX_LIVE r (Nat.max d (s.rget CLK_REGION_DEBT.MAX_LIVE r))
  else s.rset CLK_REGION_DEBT.DEBT r 0

/-- B of a pending rate change is a boundary of this device: the release at its edge is cut short there (R38). -/
def State.stopsAt (s : State) (b : Nat) : Bool :=
  match s.frame.phase with
  | .idle | .waiting => decide (b % 65536 = 0)
  | _ => decide (s.applyAt = b)

/-- What Groundsheet time becomes when `n` ticks are released; the release at E0 is cut short so that CLK_GST equals B
(R38). -/
def State.released (s : State) (n : Nat) : Nat :=
  match s.clk.ratePend with
  | some (_, b) => if s.stopsAt b ∧ s.gst ≤ b then Nat.min b (s.gst + n) else s.gst + n
  | none => s.gst + n

/-- Ticks are released (R24). In a stop window none are, and its edges are counted (R38, R39). -/
def State.releaseTicks (s : State) : State :=
  if s.clk.stopWindow then
    let s := { s with clk := { s.clk with stopEdges := s.clk.stopEdges + 1 } }
    (List.range 288).foldl (fun s r => s.edgeRegion s.gst r) s
  else
    let old := s.gst
    let (n, acc, frac) := s.releaseStep
    let s := { s with clk := { s.clk with gst := s.released n, acc := acc, frac := frac } }
    ((List.range 288).foldl (fun s r => s.edgeRegion old r) s).flushTables.publishDue

/-- A loop stands at its bound now (R45). -/
def State.loopHeld (s : State) (r : Nat) (loop : PinnedLoop) : Bool :=
  match loop with
  | .debtHigh => decide (s.rget CLK_PIN_CFG.DEBT_THRESH ≤ s.rget CLK_REGION_DEBT.DEBT r)
  | .oscFloor => decide (s.oscMhz r = 900)
  | .clampPinned => decide (s.rget CLK_REGION_DEBT.CLAMP_MHZ r < s.rget CLK_REGION_CEIL.CEIL_MHZ r)
  | .steerPinned =>
    decide ((signedOf (s.rget CLK_SYNC.STEER_PPB) 20).natAbs = if s.rget CLK_STATUS.SOURCE = 1 then 400000 else 100000)

/-- A loop's place among the counts of how long each has been held. -/
def loopKey (r : Nat) : PinnedLoop → Nat
  | .debtHigh => 4 * r
  | .oscFloor => 4 * r + 1
  | .clampPinned => 4 * r + 2
  | .steerPinned => 4 * r + 3

/-- The device is in holdover and no plan runs (R43). -/
def State.idleHoldover (s : State) : Bool :=
  decide (s.rget CLK_STATUS.SOURCE = 1) && (decide (s.frame.phase = .idle) || decide (s.frame.phase = .waiting))

/-- Wall time (R43, R45): a REFCLK edge passes, and what has been held goes on being held or starts anew. -/
def State.edgePasses (s : State) : State :=
  let note (h : Assoc Nat) (k : Nat) (on : Bool) : Assoc Nat := Assoc.put 0 h k (if on then Assoc.get 0 h k + 1 else 0)
  let held := (List.range 288).foldl (fun h r =>
    [PinnedLoop.debtHigh, .oscFloor, .clampPinned, .steerPinned].foldl (fun h l => note h (loopKey r l) (s.loopHeld r l)) h) s.clk.held
  { s with clk := { s.clk with wall := s.clk.wall + 1, held := note held 1152 s.idleHoldover } }

/-- TICK_RELEASE (R24): a REFCLK edge. -/
def execTickRelease (s : State) : Result :=
  let t := s.releaseTicks.edgePasses
  .next { t with clk := { t.clk with substitutions := 0 } }

/-- A region issues one tick (R26): it takes its entries and writes its own. A core's logic goes on with it. -/
def State.issueRegionTick (s : State) (r : Nat) : State :=
  let x := s.region r
  let s := (s.setRegion r { x with tick := x.tick + 1 }).crossTick r (x.tick + 1)
  if isCoreRegion r && (s.coreOfRegion r).isSome && decide (s.frame.phase = .inFrame) && decide (s.frame.start ≤ x.tick) then
    s.advance (Nat.min s.frameLen (x.tick + 1 - s.frame.start))
  else s

/-- The gate of region `r` may issue (R26, R41): it has credit, it is at P0 and in no stop, the crossings from other
regions hold what it needs, and its own have room. -/
def State.mayIssue (s : State) (r : Nat) : Bool :=
  decide (s.debt r > 0) && decide (s.rget PWR_REGION.PSTATE r = 0) && decide ((s.region r).stop = 0) && s.xingsReady r &&
    s.xingsRoom r

/-- TICK_ISSUE (R26): a region's gate issues a tick when it has credit and its inputs are ready; `inputsReady` is what
the crossings from PHY domains and other devices hold. -/
def execTickIssue (r : Nat) (inputsReady : Bool) (s : State) : Result :=
  onUnit s (decide (r < 288)) (if s.mayIssue r && inputsReady then s.issueRegionTick r else s)

/-- A region event's region is kept while VALID is clear (R45, R46): those of R45's loops that a region has, SLACK_EXH,
CEIL_REJECT and CEIL_PENDING (log 53). -/
def State.eventRegion (s : State) (r : Nat) : State :=
  if s.rget CLK_EVENT_REGION.VALID = 1 then s
  else (s.rset0 CLK_EVENT_REGION.REGION r).event CLK_EVENT_REGION.VALID

/-- SLACK_EXHAUSTED (R24, R27): a region at P0 whose debt, as the edge sampled it before its release, exceeds 64 ticks. -/
def execSlackExhausted (r : Nat) (s : State) : Result :=
  onUnit s (decide (r < 288)) (
    if s.rget CLK_REGION_DEBT.DEBT r > 64 ∧ s.rget PWR_REGION.PSTATE r = 0 then
      ((s.event CLK_EVENT.SLACK_EXH).eventRegion r).raiseFault
        { cause := 0x14, region := regionCode r,
          lcore := if isCoreRegion r then (s.coreOfRegion r).getD 0xFFFF else 0xFFFF } (Nat.max s.frame.now s.ftick)
    else s)

/-! ### Timestamps and steering (R31 to R35, R215) -/

/-- The ticks from one TIMESTAMP set of a port to the next (R215). -/
def State.stampStep (s : State) (p : Nat) : Nat :=
  if s.rget KL_PORT_STATUS.WIDTH p = 4 ∧ s.rget KL_PORT_STATUS.RATE p = 0 then 256 else 1024

/-- Data block 2 of a TIMESTAMP set (R215). -/
def State.stampWord (s : State) : Nat :=
  s.clk.frac / 2 ^ 28 % 16 + s.rget CLK_SYNC.HOPS * 2 ^ 4 + s.ownId * 2 ^ 10 + s.rget CLK_STATUS.KEEPER * 2 ^ 24 +
    s.rget CLK_STATUS.LOCKED * 2 ^ 25 + s.rget ROLL_EPOCH.EPOCH % 2 ^ 32 * 2 ^ 32

/-- The TIMESTAMP set of a port (R215): the port number, STAMP, and data block 2. -/
def State.stampSet (s : State) (p : Nat) : Output := .orderedSet p (setBytes 0xF4 p [s.gst, s.stampWord])

/-- TIMESTAMP_SEND (R215): an up port sends its timestamp set, once 256 or 1,024 ticks have passed since the last. -/
def execTimestampSend (p : Nat) (s : State) : Result :=
  onUnit s (decide (p < 18)) (
    if s.portUp p ∧ (s.port p).stampAt ≤ s.gst then
      (s.setPort p { s.port p with stampAt := s.gst + s.stampStep p }).emit (s.stampSet p)
    else s)

/-- The stamp last received on a port: hop count, device ID and offset in 1/16 tick. -/
def State.stampOf (s : State) (p : Nat) : Option (Nat × Nat × Int) := Assoc.get none s.clk.stamps p

/-- The up port with the least hop count; ties go to the lowest device ID, then to the lowest port (R31). A neighbour that
sends 63 (unknown) counts as any other (log 53). -/
def State.parentPort (s : State) : Option (Nat × Nat) :=
  (List.range 18).foldl (fun best p =>
    match if s.portUp p then s.stampOf p else none with
    | none => best
    | some (h, d, _) =>
      match best with
      | none => some (p, h)
      | some (q, h') =>
        let d' := ((s.stampOf q).map fun e => e.2.1).getD 0
        if h < h' ∨ (h = h' ∧ d < d') then some (p, h) else best) none

/-- The hop count and the parent follow what the up ports receive (R31). -/
def State.reparent (s : State) : State :=
  if s.rget CLK_STATUS.KEEPER = 1 then (s.rset0 CLK_SYNC.HOPS 0).rset0 CLK_SYNC.PARENT_PORT 31
  else
    match s.parentPort with
    | some (p, h) => (s.rset0 CLK_SYNC.HOPS (Nat.min 63 (h + 1))).rset0 CLK_SYNC.PARENT_PORT p
    | none => (s.rset0 CLK_SYNC.HOPS 63).rset0 CLK_SYNC.PARENT_PORT 31

/-- A port's own times move with Groundsheet time; its slots stay on their multiples (R204, R207). -/
def Port.shifted (x : Port) (move : Nat → Nat) (step : Nat) : Port :=
  { x with slotTick := ceilDiv (move x.slotTick) step * step, stampAt := move x.stampAt,
           resend := x.resend.map fun e => (e.1, move e.2),
           naks := x.naks.map fun n => { n with due := n.due.map move, last := move n.last } }

/-- A coarse set (R34): Groundsheet time takes the parent's value, in one step, and integ is cleared. The fraction of a
tick is dropped from the difference (log 53). The regions keep their credit, and their own ticks and crossings follow
(R25). -/
def State.coarseSet (s : State) (off16 : Int) : State :=
  let gst := ((s.gst : Int) - off16 / 16).toNat
  let move (t : Nat) : Nat := ((t : Int) + ((gst : Int) - (s.gst : Int))).toNat
  let t := (List.range 288).foldl (fun t r => t.setRegion r { t.region r with tick := gst - s.debt r }) s
  let ports := t.ports.map fun e => (e.1, e.2.shifted move (t.slotStep e.1))
  let gl := { t.gl with freeAt := move t.gl.freeAt, insertion := t.gl.insertion.map fun e => (move e.1, e.2) }
  { t.passApply (gst - 1) with ports := ports, gl := gl, clk := { t.clk with
      gst := gst, integ := 0, offSum := 0, offCount := 0, steerAt := gst,
      xings := t.clk.xings.map fun e => (e.1, { e.2 with wrote := move e.2.wrote, took := move e.2.took }) } }

/-- A coarse set may be made: the device runs no plan, which it does not before T0 either (RUN = 0), and is not LOCKED
(R34). -/
def State.mayStep (s : State) (off16 : Int) : Bool :=
  (decide (s.frame.phase = .idle) || decide (s.frame.phase = .waiting)) && decide (s.rget CLK_STATUS.LOCKED = 0) &&
    !s.clk.stopWindow && decide (off16.natAbs > 64 * 16)

/-- An offset to the parent enters the interval's mean (R32, R35), except in a stop window, which suspends steering
(R38). -/
def State.noteOffset (s : State) (off : Int) : State :=
  if s.clk.stopWindow then s
  else
    let far := s.clk.offOver && decide (off.natAbs > 8 * 16)
    { s with clk := { s.clk with offSum := s.clk.offSum + off, offCount := s.clk.offCount + 1, offOver := far } }

/-- A timestamp set's effect (R31, R34, R215). -/
def State.gotTimestamp (s : State) (p stamp frac hops dev arrFrac : Nat) : State :=
  let off : Int := (16 * s.gst + arrFrac : Nat) - ((16 * stamp + frac : Nat) : Int) - (s.rget KL_PORT_DELAY.DELAY16 p : Nat)
  let s := { s with clk := { s.clk with stamps := Assoc.put none s.clk.stamps p (some (hops, dev, off)) } }
  let s := s.reparent
  if s.rget CLK_SYNC.PARENT_PORT = p ∧ s.rget CLK_STATUS.KEEPER = 0 then
    if s.mayStep off then s.coarseSet off else s.noteOffset off
  else s

/-- TIMESTAMP (R215). -/
def execTimestamp (p stamp frac hops dev : Nat) (_keeper _locked : Bool) (_epochLo arrFrac : Nat) (crcOk : Bool) (s : State) :
    Result :=
  s.onSet p crcOk (if s.portUp p then s.gotTimestamp p stamp frac hops dev arrFrac else s)

/-- A number held within ±limit. -/
def clampTo (x limit : Int) : Int := if x > limit then limit else if x < -limit then -limit else x

/-- LOCKED falls (R35): the event, and LOCK_LOST in a frame of a multi-device plan. -/
def State.loseLock (s : State) : State :=
  if s.rget CLK_STATUS.LOCKED = 0 then s
  else
    let s := (s.rset0 CLK_STATUS.LOCKED 0).event CLK_EVENT.LOCK_LOST
    if s.frame.phase = .inFrame ∧ (header s.activeImage).multi = true then
      s.raiseFault { cause := 0x09, region := regionCode 143 } (Nat.max s.frame.now s.ftick)
    else s

/-- A steering interval of a device other than the keeper (R32, R35). -/
def State.steer (s : State) : State :=
  let off := Int.tdiv s.clk.offSum s.clk.offCount
  let integ := s.clk.integ + off
  let limit : Int := if s.rget CLK_STATUS.SOURCE = 1 then 400000 else 100000
  let ppb := Int.tdiv (s.rget CLK_STEER_CFG.KP * 1000 * off + s.rget CLK_STEER_CFG.KI * 100 * integ) 16
  let wide := s.clk.offOver
  let run := if off.natAbs ≤ 4 * 16 then s.clk.goodRun + 1 else 0
  let s := (s.rset0 CLK_SYNC.OFFSET (fieldOfInt off 16)).rset0 CLK_SYNC.STEER_PPB (fieldOfInt (clampTo ppb limit) 20)
  let s := { s with clk := { s.clk with integ := integ, goodRun := run, offSum := 0, offCount := 0, offOver := true } }
  if wide then s.loseLock else if run ≥ 256 then s.rset0 CLK_STATUS.LOCKED 1 else s

/-- A steering interval of the keeper (R32): STEER_PPB holds. It has no parent, so its offset counts as 0 for LOCKED
(R35; log 53). -/
def State.keeperInterval (s : State) : State :=
  let run := s.clk.goodRun + 1
  let s := { s with clk := { s.clk with goodRun := run, offSum := 0, offCount := 0, offOver := true } }
  if run ≥ 256 then s.rset0 CLK_STATUS.LOCKED 1 else s

/-- The ticks of a steering interval (R32). -/
def State.steerTicks (s : State) : Nat := 2 ^ s.rget CLK_STEER_CFG.INTERVAL_LOG2

/-- A steering interval is over, and steering is not suspended (R32, R38). -/
def State.steerDue (s : State) : Bool := !s.clk.stopWindow && decide (s.clk.steerAt + s.steerTicks ≤ s.gst)

/-- The next steering interval begins where the last whole one ended. -/
def State.nextInterval (s : State) : State :=
  { s with clk := { s.clk with steerAt := s.clk.steerAt + (s.gst - s.clk.steerAt) / s.steerTicks * s.steerTicks } }

/-- STEERING_UPDATE (R32, R35): at the end of an interval; one without an offset changes nothing else (log 53). -/
def execSteeringUpdate (s : State) : Result :=
  .next (
    if ¬ s.steerDue then s
    else
      let s := s.nextInterval
      if s.rget CLK_STATUS.KEEPER = 1 then s.keeperInterval else if s.clk.offCount = 0 then s else s.steer)

/-! ### Tick-rate changes (R37 to R39) -/

/-- The first frame boundary's apply tick at least `wait` ticks ahead (R37, R55). -/
def State.boundaryAfter (s : State) (wait : Nat) : Nat := s.applyAfter (s.gst + wait - 1)

/-- This device supports a rate. -/
def State.rateOk (s : State) (idx : Nat) : Bool := bitAt (s.rget IDENT_TICK_RATES.RATES) idx

/-- A tick-rate message (R37, R38): its type, its addressee or every member, the rate index and B. -/
def State.rateMsg (s : State) (rtype : Nat) (dest : Option Nat) (idx b : Nat) : State :=
  let body := rcBody { s.newMsg with s := b, entries := [{ dev := idx }] } rtype
  match dest with
  | some d => s.unicast d body
  | none => s.tellMembers body

/-- A change is pending on this device. -/
def State.pendRate (s : State) (idx b : Nat) : State :=
  let s := { s with clk := { s.clk with ratePend := some (idx, b), rateAcks := [] } }
  let s := (s.rset0 CLK_RATE_STATE.PENDING 1).rset0 CLK_RATE_STATE.TARGET_IDX idx
  (s.rset0 CLK_RATE_STATE.RESULT 0).rset0 CLK_RATE_AT.BOUNDARY b

/-- A pending change is cancelled on this device (R38, R279); one whose stop window has begun is made (R39). -/
def State.dropRate (s : State) (result : Nat) : State :=
  if s.clk.stopWindow then s
  else
  let s := { s with clk := { s.clk with ratePend := none, rateAcks := [] } }
  ((s.rset0 CLK_RATE_STATE.PENDING 0).rset0 CLK_RATE_STATE.RESULT result).event CLK_EVENT.RATE_CANCEL

/-- The keeper cancels a change and tells every member (R38). -/
def State.cancelRate (s : State) (result : Nat) : State :=
  match s.clk.ratePend with
  | some (idx, b) => (s.dropRate result).rateMsg 0x0B none (idx + 8 * result) b
  | none => s

/-- The keeper takes a request (R37, R38): a second one while one is pending is ignored. -/
def State.keeperRequest (s : State) (idx : Nat) : State :=
  if s.clk.ratePend.isSome then s.rset0 CLK_RATE_STATE.RESULT 4
  else
    let b := s.boundaryAfter 3000000
    let s := (s.pendRate idx b).rateMsg 0x09 none idx b
    if s.rateOk idx then s else s.cancelRate 2

/-- A write of CLK_RATE_REQ (R37). -/
def State.rateReq (s : State) (value : Nat) : State :=
  let idx := bitsOf value 0 3
  if ¬ bitAt value 31 then s
  else if s.clk.ratePend.isSome then s.rset0 CLK_RATE_STATE.RESULT 4
  else if s.rget CLK_STATUS.KEEPER = 1 ∨ s.roll.members = 0 then s.keeperRequest idx
  else s.rateMsg 0x08 (leastBit s.roll.members 16384) idx 0

/-- CLK_RATE_REQ (R37). -/
def execClkRateReq (agent : Agent) (value : Nat) (s : State) : Result :=
  .next (s.regWrite agent 0x10020 fun s => s.rateReq value)

/-- What a tick-rate message's ENTRY holds: the rate index, and above it what the model puts there (log 67). -/
def rateEntry (m : RcMsg) : Nat := (m.entries.headD { dev := 0 }).dev

/-- RATE_REQUEST (R37): a member's request reaches the keeper. A copy on the Guyline of one that is pending already is no second
request. -/
def execRateRequest (m : RcMsg) (s : State) : Result :=
  .next (s.rollArrive m 0x08 fun s =>
    if s.rget CLK_STATUS.KEEPER = 1 ∧ ¬ (m.ring.isSome = true ∧ s.clk.ratePend.isSome = true) then s.keeperRequest (rateEntry m % 8) else s)

/-- RATE_ANNOUNCE (R38): a member acknowledges a rate that it supports and refuses another. -/
def execRateAnnounce (m : RcMsg) (s : State) : Result :=
  .next (s.rollArrive m 0x09 fun s =>
    let keeper := leastBit s.roll.members 16384
    let idx := rateEntry m % 8
    if m.ring.isSome = true ∧ (s.isMember = false ∨ s.clk.ratePend = some (idx, m.s)) then s
    else if s.rateOk idx then (s.pendRate idx m.s).rateMsg 0x0A keeper idx m.s
    else s.rateMsg 0x0A keeper (idx + 8) m.s)

/-- RATE_ACK (R38): the keeper notes an acknowledgement; a refusal cancels the change. -/
def execRateAck (m : RcMsg) (s : State) : Result :=
  .next (s.rollArrive m 0x0A fun s =>
    if s.rget CLK_STATUS.KEEPER = 0 ∨ s.clk.ratePend.isNone then s
    else if rateEntry m / 8 % 2 = 0 then { s with clk := { s.clk with rateAcks := s.clk.rateAcks ++ [m.sender] } }
    else s.cancelRate 2)

/-- Every other member has acknowledged. -/
def State.allAcked (s : State) : Bool :=
  (List.range 16384).all fun d => !(s.roll.members.testBit d) || decide (d = s.ownId) || s.clk.rateAcks.contains d

/-- RATE_ACK_DEADLINE (R38): 150,000 ticks before B. -/
def execRateAckDeadline (s : State) : Result :=
  .next (match s.clk.ratePend with
    | some (_, b) =>
      if s.rget CLK_STATUS.KEEPER = 1 ∧ s.gst + 150000 ≥ b ∧ s.allAcked = false then s.cancelRate 3 else s
    | none => s)

/-- RATE_CANCEL (R38): a cancellation reaches a member. -/
def execRateCancel (m : RcMsg) (s : State) : Result :=
  .next (s.rollArrive m 0x0B fun s =>
    if m.ring.isSome = true ∧ s.clk.ratePend = none then s else s.dropRate (rateEntry m / 8 % 8))

/-- Every ceiling returns to the default of a rate, and a change that waits is dropped (R39; log 53). -/
def State.defaultCeils (s : State) (idx : Nat) : State :=
  let s := (List.range 288).foldl (fun s r =>
    let s := s.setRegion r { s.region r with ceilPend := none, ceilReady := true }
    ((s.rset CLK_REGION_CEIL.CEIL_MHZ r (defaultCeil idx)).rset CLK_REGION_DEBT.PEND r 0).showClamp r) s
  (s.setRail 0).setRail 1

/-- RATE_STOP_RETUNE (R39): edge E16, once. A region that still owes ticks enters the fail-safe state; every ceiling
returns to its default for the new rate. -/
def execRateStopRetune (s : State) : Result :=
  .next (match s.clk.ratePend with
    | some (idx, _) =>
      if s.clk.stopWindow ∧ s.clk.retuned = false ∧ 16 ≤ s.clk.stopEdges then
        let owing := (List.range 288).find? fun r => decide (s.rget PWR_REGION.PSTATE r = 0) && decide (s.debt r > 0)
        let s := { s with clk := { s.clk with retuned := true } }
        let s := match owing with
          | some r => s.enterFailSafe 0x42 r
          | none => s
        s.defaultCeils idx
      else s
    | none => s)

/-- Ticks at a rate rescaled to another. -/
def rescale (v old new : Nat) : Nat := v * new / Nat.max 1 old

/-- The measured delays that follow the tick rate (R213): a port's from the mean of its bring-up. -/
def State.rescaleDelays (s : State) (old new : Nat) : State :=
  let s := (List.range 18).foldl (fun s p =>
    if (s.port p).echoesUp = 0 then s else s.rset KL_PORT_DELAY.DELAY16 p ((s.port p).delay16 new)) s
  (s.rset0 GL_STATUS.RTT (rescale (s.rget GL_STATUS.RTT) old new)).rset0 GL_STATUS.SEG_DELAY
    (rescale (s.rget GL_STATUS.SEG_DELAY) old new)

/-- RATE_CHANGE_RESUME (R39): edge E48, after E16. -/
def execRateChangeResume (s : State) : Result :=
  .next (match s.clk.ratePend with
    | some (idx, _) =>
      if s.clk.stopWindow ∧ s.clk.retuned = true ∧ 48 ≤ s.clk.stopEdges then
        let s := s.rescaleDelays s.clk.rate (rateN idx)
        let s := { s with clk := { s.clk with stopWindow := false, stopEdges := 0, retuned := false, ratePend := none,
                                              rate := rateN idx, acc := 0, frac := 0 } }
        ((s.rset0 CLK_STATUS.RATE_IDX idx).rset0 CLK_RATE_STATE.PENDING 0).rset0 CLK_RATE_STATE.RESULT 1
      else s
    | none => s)

/-! ### Ceilings (R40, R41) -/

/-- A write of a region's ceiling (R40): one out of range is refused. From E16 to E48 of a stop window none is taken
(R39). -/
def State.ceilWrite (s : State) (r value : Nat) : State :=
  let v := bitsOf value 0 11
  if s.clk.retuned then s
  else if v < ceilFloor (s.rget CLK_STATUS.RATE_IDX) ∨ v > 1800 then (s.event CLK_EVENT.CEIL_REJECT).eventRegion r
  else (s.pendCeil r v).rset CLK_REGION_DEBT.PEND r 1

/-- CLK_REGION_CEIL (R40). -/
def execClkRegionCeil (agent : Agent) (r value : Nat) (s : State) : Result :=
  onUnit s (decide (r < 288)) (s.regWrite agent (0x11000 + 4 * r) fun s => s.ceilWrite r value)

/-- CEILING_CHANGE_APPLY (R41, R345): a REFCLK edge at which the region's debt is at most 16 ticks, once the voltage
allows the change. -/
def execCeilingChangeApply (r : Nat) (s : State) : Result :=
  onUnit s (decide (r < 288)) (match (s.region r).ceilPend with
    | some v =>
      if s.debt r ≤ 16 ∧ (s.region r).ceilReady = true then s.applyCeil r v else s
    | none => s)

/-- CEIL_PENDING (R41): a change that has waited longer than WINDOW_US stays pending. -/
def execCeilPending (r : Nat) (s : State) : Result :=
  onUnit s (decide (r < 288))
    (if (s.region r).ceilPend.isSome ∧ (s.region r).ceilSince + usEdges (s.rget CLK_PIN_CFG.WINDOW_US) < s.clk.wall then (s.event CLK_EVENT.CEIL_PENDING).eventRegion r else s)

/-- A loop is at its bound and has been for longer than WINDOW_US (R45). -/
def State.loopPinned (s : State) (r : Nat) (loop : PinnedLoop) : Bool :=
  s.loopHeld r loop && decide (usEdges (s.rget CLK_PIN_CFG.WINDOW_US) < Assoc.get 0 s.clk.held (loopKey r loop))

/-- LOOP_PINNED (R45): a loop has been held at a bound for longer than WINDOW_US. STEER_PINNED is the device's, so it keeps
no region (log 53). -/
def execLoopPinned (r : Nat) (loop : PinnedLoop) (s : State) : Result :=
  onUnit s (decide (r < 288) && s.loopPinned r loop) (match loop with
    | .debtHigh => (s.event CLK_EVENT.DEBT_HIGH).eventRegion r
    | .oscFloor => (s.event CLK_EVENT.OSC_FLOOR).eventRegion r
    | .clampPinned => (s.event CLK_EVENT.CLAMP_PINNED).eventRegion r
    | .steerPinned => s.event CLK_EVENT.STEER_PINNED)

/-! ### Reference loss (R42 to R44) -/

/-- Reference loss is declared (R42). -/
def State.loseReference (s : State) : State :=
  if s.rget CLK_STATUS.SOURCE = 0 then (s.rset0 CLK_STATUS.SOURCE 1).event CLK_EVENT.REF_LOST else s

/-- A missing edge: the holdover oscillator's stands in. Five in a row, or a frequency more than ±1,000 ppm off over 10 µs,
declare reference loss (R42). -/
def State.missEdge (s : State) (ppm : Int) : State :=
  let n := s.clk.substitutions + 1
  let s := s.releaseTicks.edgePasses
  let s := { s with clk := { s.clk with substitutions := n } }
  if n ≥ 5 ∨ ppm.natAbs > 1000 then s.loseReference else s

/-- REFCLK_EDGE_MISSING (R42): `ppm` is REFCLK's measured frequency error over the last 10 µs. -/
def execRefclkEdgeMissing (ppm : Int) (s : State) : Result := .next (s.missEdge ppm)

/-- REF_BACK (R44). -/
def execRefBack (s : State) : Result :=
  .next (
    if s.rget CLK_STATUS.SOURCE = 1 then
      let s := s.setFrame { s.frame with holdFrames := 0 }
      let s := { s with clk := { s.clk with substitutions := 0 } }
      ((s.rset0 CLK_STATUS.SOURCE 0).rset0 CLK_STATUS.HOLD_FRAMES 0).event CLK_EVENT.REF_BACK
    else s)

/-- HOLDOVER_IDLE_LIMIT (R43): the limit of a device that runs no plan, also while it waits for T0. -/
def execHoldoverIdleLimit (s : State) : Result :=
  .next (
    if s.idleHoldover ∧ usEdges (1000 * s.rget CLK_HOLDOVER.IDLE_MS) ≤ Assoc.get 0 s.clk.held 1152 then
      s.raiseFault { cause := 0x15, region := regionCode 143 } s.ftick
    else s)

end Sys2Proof.Machine
end

