-- ==== Sys2Proof/Machine/Firmware.lean ====
section
/-! DEFINITION. The Ranger's non-volatile record and the firmware slots (R353 to R357): what the links, the boot and
the update commands share. -/
namespace Sys2Proof.Machine

/-- Slot `slot` (0 A, 1 B) of image kind `kind` (R353). -/
def State.fwSlot (s : State) (kind slot : Nat) : FwSlot := Assoc.get {} s.rgr.fw (2 * kind + slot)

/-- The state with a firmware slot replaced. -/
def State.setFwSlot (s : State) (kind slot : Nat) (x : FwSlot) : State :=
  { s with rgr := { s.rgr with fw := Assoc.put {} s.rgr.fw (2 * kind + slot) x } }

/-- The inactive slot's number. -/
def State.otherSlot (s : State) (kind : Nat) : Nat := 1 - s.rget RGR_UPD.ACTIVE kind

/-- The active pointer flips, and the versions with it. A library's routines then wait for their tick (R358). -/
def State.flipSlot (s : State) (kind : Nat) : State :=
  let va := s.rget RGR_UPD.VER_ACTIVE kind
  let vo := s.rget RGR_UPD.VER_OTHER kind
  let s := s.rset RGR_UPD.ACTIVE kind (1 - s.rget RGR_UPD.ACTIVE kind)
  let s := (s.rset RGR_UPD.VER_ACTIVE kind vo).rset RGR_UPD.VER_OTHER kind va
  let s := if kind = 1 then
      (s.rset0 RGR_STATUS.FW_SLOT (s.rget RGR_UPD.ACTIVE 1)).rset0 RGR_STATUS.FW_VER vo
    else s
  if kind = 2 then s.rset0 RGR_LMC_PORTS.PORTS (2 ^ 18 - 1 - s.rget RGR_LMC_PORTS.PORTS)
  else if kind = 3 then { s with rgr := { s.rgr with libPend := !s.rgr.libPend } }
  else s

/-- A trial start begins (R355, R356): its count goes up first. -/
def State.trialStart (s : State) (kind : Nat) : State :=
  if s.rget RGR_UPD.TRIAL kind = 1 then
    let s := { s with rgr := { s.rgr with trialsRun := if s.rgr.trialsRun.contains kind then s.rgr.trialsRun else s.rgr.trialsRun ++ [kind] } }
    (s.rsat RGR_UPD.TRIALS kind 1).journal
  else s

/-- The kind is rolled back (R357): the old slot is active, the new one rejected. -/
def State.rollback (s : State) (kind : Nat) : State :=
  let s := s.flipSlot kind
  (((s.rset RGR_UPD.OTHER kind 4).rset RGR_UPD.TRIAL kind 0).rset RGR_UPD.ROLLED kind 1).journal

/-- A trial start fails (R356, R357). -/
def State.trialFails (s : State) (kind : Nat) : State :=
  if s.rget RGR_UPD.TRIAL kind = 1 ∧ s.rget RGR_UPD.TRIALS kind ≥ s.rget RGR_UPD.TRIAL_MAX kind then s.rollback kind else s

end Sys2Proof.Machine
end

