-- ==== Sys2Proof/Machine/Link.lean ====
section
/-! DEFINITION. The Klonak ports' bring-up (R204, R208 to R213, R240), their going down, grace and flush (R224 to
R226), and full link reset (R227). -/
namespace Sys2Proof.Machine

/-! ### Lane sets (R204, R212) -/

/-- How many lanes a set has. -/
def laneCount (set : Nat) : Nat := ((List.range 4).filter fun k => set.testBit k).length

/-- The permitted lane sets, in the order of preference (R212). -/
def laneSets : List Nat := [15, 3, 12, 1, 2, 4, 8]

/-- The most lanes that WIDTH_REQ allows (R212). -/
def widthAllowed (req : Nat) : Nat :=
  match req with
  | 1 => 2
  | 2 => 1
  | _ => 4

/-- The widest permitted set within a mask of lanes (R212); 0 where there is none. -/
def widestIn (allowed mask : Nat) : Nat :=
  ((laneSets.filter fun set => decide (laneCount set ≤ allowed)).find? fun set => decide (set &&& mask = set)).getD 0

/-- The most lanes of the bring-up in progress. -/
def Port.allowed (x : Port) : Nat := widthAllowed (bitsOf x.ctrl 3 2)

/-- The widest permitted set of the lanes that have not been dropped. -/
def Port.widest (x : Port) : Nat := widestIn x.allowed (15 - x.dropped)

/-- The logical lanes of the physical lanes that hold marker lock. -/
def Port.lockedSet (x : Port) : Nat :=
  (List.range 4).foldl (fun m l => if x.locked.testBit l then m ||| 2 ^ (Assoc.get 0 x.logical l) else m) 0

/-- Every lane of a set holds marker lock. -/
def Port.allLocked (x : Port) (set : Nat) : Bool := decide (set ≠ 0) && decide (set &&& x.lockedSet = set)

/-- LANE_MAP: the physical lane that carries each logical lane (R236). -/
def Port.laneMap (x : Port) : Nat :=
  (List.range 4).foldl (fun m l =>
    if x.locked.testBit l then putBits m (2 * Assoc.get 0 x.logical l) 2 l else m) 0

/-! ### What a port sends -/

/-- A TS1 set (R214): the lanes in use, and what the receiver asks of its peer's equaliser. -/
def State.sendTs1 (s : State) (p : Nat) : State :=
  s.emit (.orderedSet p (setBytes 0xF0 0 [(s.port p).lanes % 16 + Config.equaliser s.gst p % 2 ^ 56 * 2 ^ 8]))

/-- The first data block of a TS2 set: device ID and whether it is valid, port, lanes, rate, encryption request. -/
def ts2Word (dev valid port lanes rate enc : Nat) : Nat :=
  dev % 2 ^ 14 + valid * 2 ^ 14 + port * 2 ^ 16 + lanes % 16 * 2 ^ 24 + rate * 2 ^ 28 + enc * 2 ^ 29

/-- A TS2 set: what this end holds (R211, R212, R214, R226, R239). -/
def State.sendTs2 (s : State) (p : Nat) : State :=
  let x := s.port p
  s.emit (.orderedSet p (setBytes 0xF1 0 [ts2Word s.ownId (s.rget IDENT_DOMAIN.ID_VALID) p x.lanes (bitsOf x.ctrl 5 1)
    (bitsOf x.ctrl 2 1), s.rget KL_SEQ.RX_NEXT p + (s.rget KL_SEQ.RX_NEXT p + 65535) % 65536 * 2 ^ 16]))

/-- A PING set, numbered by the round trips measured so far (R213). -/
def State.sendPing (s : State) (p : Nat) : State := s.emit (.orderedSet p (setBytes 0xF2 0 [(s.port p).echoes]))

/-! ### Going down, flush and bring-up (R211, R224 to R226) -/

/-- The active route table uses a port. -/
def State.planUses (s : State) (p : Nat) : Bool :=
  s.portRoutes.any fun r => decide (r.kind ≠ 0) && (decide (r.inPort = p) || decide (r.outPort = p))

/-- Bring-up begins from DOWN (R211): MARKER, with the settings of KL_PORT_CTRL, the keys and the link microcode
that hold now (R227, R343, R356). -/
def State.bringUp (s : State) (p : Nat) : State :=
  let ctrl := s.rget KL_PORT_CTRL.ENABLE p + 2 * s.rget KL_PORT_CTRL.SPILL p + 4 * s.rget KL_PORT_CTRL.ENC_REQ p +
    8 * s.rget KL_PORT_CTRL.WIDTH_REQ p + 32 * s.rget KL_PORT_CTRL.RATE_REQ p + 64 * s.rget KL_PORT_CTRL.LOOP p
  let x := s.port p
  let x := { x with ctrl := ctrl, locked := 0, inverted := 0, logical := [], markAt := [],
                    dropped := 0, block := false, relock := false,
                    lanes := widestIn (widthAllowed (bitsOf ctrl 3 2)) 15, eyePeer := false, ts2 := none, ts2Count := 0,
                    echoes := 0, rttMax := 0, delaySum := 0, key := s.rgr.linkKey, keyId := 0, txGen := 0, txGenNext := 1,
                    txCount := 0, rxKeyId := 0, rxGen := 0, rxGenNext := 1, rxExt := 0, rxBase := 0, rxBaseOld := 0 }
  let s := (s.setPort p x).rset KL_PORT_STATUS.STATE p 1
  let s := (s.trialStart 2).rset0 RGR_LMC_PORTS.PORTS (s.rget RGR_LMC_PORTS.PORTS ||| 2 ^ p)
  s.sendTs1 p

/-- What a port shows of its link falls away. -/
def State.clearStatus (s : State) (p : Nat) : State :=
  let s := ((s.rset KL_PORT_STATUS.WIDTH p 0).rset KL_PORT_STATUS.SCHED p 0).rset KL_PORT_STATUS.ENC p 0
  let s := ((s.rset KL_PORT_STATUS.PEER_VALID p 0).rset KL_PORT_STATUS.PEER_ID p 0).rset KL_PORT_STATUS.PEER_PORT p 31
  (s.rset KL_PORT_STATUS.RATE p 0).rset KL_PORT_STATUS.LANE_MAP p 0

/-- The stamp received on a port no longer counts (R31). -/
def State.dropStamp (s : State) (p : Nat) : State :=
  ({ s with clk := { s.clk with stamps := Assoc.put none s.clk.stamps p none } }).reparent

/-- A stored flit is a service flit (R216). -/
def isServiceFlit (bs : List Byte) : Bool := (bs.headD 0).toNat = 3

/-- A port leaves UP (R211, R224, R225): the event, the fault of a frame whose route table uses it, and the loss of
the scheduled flits in the replay buffer. -/
def State.leaveUp (s : State) (p : Nat) : State :=
  let s := (s.event KL_EVENT.LINK_DOWN p).dropStamp p
  let s := if s.frame.phase = .inFrame ∧ s.planUses p = true then
      let s := s.advance (Nat.min s.frameLen s.ftick)
      s.portFault p 0x1D p
    else s
  let x := s.port p
  let keep := x.replay.filter fun e => isServiceFlit e.2
  let x := { x with replay := keep, spilled := x.spilled.filter (fun e => e.2), resend := [], downAt := s.clk.wall,
                    locked := 0, markAt := [], block := false, relock := false, ts2 := none, ts2Count := 0, echoes := 0, rttMax := 0,
                    delaySum := 0 }
  (s.setPort p x).rset KL_SEQ.OCC p keep.length

/-- Everything that a port holds for its link is completed with FLUSHED and forgotten (R226); a link of the active route
table comes under suspicion (R274). -/
def State.flushPort (s : State) (p : Nat) : State :=
  let x := s.port p
  let planned := s.planUses p
  let packets := x.unacked.map (·.2) ++ (match x.sending with
    | some (k, _) => [k]
    | none => []) ++ x.queue.map (·.pkt)
  let x := { x with replay := [], spilled := [], resend := [], unacked := [], sending := none, queue := [], forwards := [],
                    seen := [], naks := [], svcHeld := [], asm := none, tagFails := [] }
  let s := s.setPort p x
  let s := (s.rset KL_SEQ.TX_NEXT p 0).rset KL_SEQ.TX_ACKED p 0
  let s := ((s.rset KL_SEQ.RX_NEXT p 0).rset KL_SEQ.OCC p 0).rset KL_PORT_STATUS.SPILLING p 0
  let s := packets.foldl (fun s k => s.flushPacket k p) s
  let s := (s.treeFlush p).event KL_EVENT.FLUSH p
  if planned then s.suspect { dev := s.ownId, port := p, link := true, cause := 4 } else s

/-- Flush, then full bring-up from DOWN (R226). -/
def State.flushAndRestart (s : State) (p : Nat) : State := ((s.flushPort p).clearStatus p).bringUp p

/-- A port in UP goes down for a cause of R224: causes 1 to 4 keep its service flits for the grace, 5 to 7 flush
at once (R226). -/
def State.linkDown (s : State) (p cause : Nat) : State :=
  if s.rget KL_PORT_STATUS.STATE p ≠ 7 then s
  else
    let s := (s.leaveUp p).rset KL_PORT_STATUS.DOWN_CAUSE p cause
    if cause ≤ 4 then (((s.rset KL_PORT_STATUS.STATE p 8).rset KL_PORT_STATUS.SCHED p 0)).sendTs1 p
    else s.flushAndRestart p

/-- A bring-up attempt ends without UP (R211, R227, R356): the reason, and the reply of a LINK_RESET. -/
def State.bringUpFails (s : State) (p cause : Nat) : State :=
  let x := s.port p
  let s := (s.rset KL_PORT_STATUS.STATE p 0).rset KL_PORT_STATUS.DOWN_CAUSE p cause
  let s := if cause = 8 ∧ (s.rget RGR_LMC_PORTS.PORTS).testBit p then s.trialFails 2 else s
  match x.linkCmd with
  | some h => (s.setPort p { x with linkCmd := none }).finish h cmdLinkReset 0x12 0 0 0
  | none => s

/-! ### Reaching UP (R204, R213, R222, R240) -/

/-- A port is miscabled (R240): its peer is not the neighbour of its bundle, or not the paired port. -/
def State.isMiscabled (s : State) (p : Nat) : Bool :=
  decide (s.rget KL_PORT_STATUS.PEER_VALID p = 1) &&
    (decide (s.rget KL_PORT_STATUS.PEER_ID p ≠ s.neighbour s.ownId (bundleOf p)) ||
      decide (s.rget KL_PORT_STATUS.PEER_PORT p ≠ pairedPort p))

/-- FAB_STATUS.MISCABLED's bit of a port follows (R240). -/
def State.markCabling (s : State) (p : Nat) : State :=
  let m := s.rget FAB_STATUS.MISCABLED
  let without := if m.testBit p then m - 2 ^ p else m
  s.rset0 FAB_STATUS.MISCABLED (if s.isMiscabled p then without + 2 ^ p else without)

/-- SCHED (R204, R213, R236, R240): the round trip is the one measured, whatever RTT's 12 bits show. -/
def State.schedOf (s : State) (p : Nat) : Bool :=
  decide (s.rget KL_PORT_STATUS.WIDTH p = 4) && decide (s.rget KL_PORT_STATUS.RATE p = 0) &&
    decide ((s.port p).rttUp ≤ 1024) && !(s.rget FAB_STATUS.MISCABLED).testBit p &&
    decide (bitsOf (s.port p).ctrl 6 1 = 0)

/-- The figures of the round trips (R213, R222). One beyond its field shows the field's greatest value (log 63). -/
def State.setDelays (s : State) (p : Nat) : State :=
  let x := s.port p
  let x := { x with rttUp := x.rttMax, delayUp := x.delaySum, echoesUp := x.echoes }
  let fixed := ceilDiv x.rttMax 2
  let s := ((s.setPort p x).rset KL_PORT_DELAY.RTT p (Nat.min 4095 x.rttMax)).rset KL_PORT_DELAY.FIXED p (Nat.min 1023 fixed)
  let s := (s.rset KL_PORT_DELAY.DELAY16 p (x.delay16 s.clk.rate)).markCabling p
  let sched := s.schedOf p
  let allow := 2 * (x.rttMax + 272)
  let s := s.rset KL_PORT_STATUS.SCHED p (if sched then 1 else 0)
  (s.rset KL_PORT_DELAY.ALLOW p (if sched then allow else 0)).rset KL_PORT_DELAY.HOP p (if sched then fixed + allow else 0)

/-- A port enters UP: its first slot is the next (R207), and what was to leave before it is discarded (R243). -/
def State.enterUp (s : State) (p : Nat) : State :=
  let step := s.slotStep p
  let x := s.port p
  let first := ceilDiv s.gst step * step
  let left := x.forwards.filter fun f => decide (first ≤ f.2.due)
  (s.setPort p { x with slotTick := first, stampAt := s.gst, forwards := left }).rset KL_PORT_STATUS.STATE p 7

/-- Full bring-up reaches UP (R213, R227). -/
def State.reachUp (s : State) (p : Nat) : State :=
  let s := ((s.setDelays p).enterUp p).event KL_EVENT.LINK_UP p
  match (s.port p).linkCmd with
  | some h => (s.setPort p { s.port p with linkCmd := none }).finish h cmdLinkReset 0 0 0 0
  | none => s

/-- A SEQ's place in a list sorted by distance from a first one. -/
def insertSeq (first q : Nat) : List Nat → List Nat
  | [] => [q]
  | r :: rest => if (q + 65536 - first) % 65536 ≤ (r + 65536 - first) % 65536 then q :: r :: rest else r :: insertSeq first q rest

/-- SEQs in their order, oldest first (R218). -/
def seqOrder (first : Nat) (qs : List Nat) : List Nat := qs.foldl (fun acc q => insertSeq first q acc) []

/-- RELOCK has measured its round trips (R226): back to UP with the service flits that were not acknowledged to be
sent again, or, where the round trip has grown, flush and full bring-up. -/
def State.relocked (s : State) (p : Nat) : State :=
  let x := s.port p
  if x.rttMax ≤ x.rttUp then
    let acked := s.rget KL_SEQ.TX_ACKED p
    let again := seqOrder acked (x.replay.map (·.1) ++ x.spilled.map (·.1))
    let s := s.setPort p { x with resend := again.map fun q => (q, s.gst - 8), relock := false, echoes := 0 }
    let s := if s.schedOf p then s.rset KL_PORT_STATUS.SCHED p 1 else s
    (s.enterUp p).event KL_EVENT.RELOCKED p
  else s.flushAndRestart p

/-! ### Marker and block lock (R208 to R212, R224) -/

/-- LANE_MAP and POLARITY follow the lanes' markers (R209). -/
def State.mapLanes (s : State) (p : Nat) : State :=
  (s.rset KL_PORT_STATUS.LANE_MAP p (s.port p).laneMap).rset KL_PORT_STATUS.POLARITY p (s.port p).inverted

/-- The physical lanes in use that hold marker lock. -/
def Port.lanesUsed (x : Port) : List Nat :=
  (List.range 4).filter fun l => x.locked.testBit l && x.lanes.testBit (Assoc.get 0 x.logical l)

/-- The skew between the lanes in use, in ps: the spread of their markers' arrivals (R209). -/
def Port.skew (x : Port) : Nat :=
  let ts := x.lanesUsed.map fun l => Assoc.get 0 x.markAt l
  ts.foldl Nat.max 0 - ts.foldl Nat.min (ts.headD 0)

/-- DESKEW (R209, R211): the lanes in use are mapped and aligned, and RS decoding starts; a skew above 64 ns fails the
bring-up. -/
def State.deskew (s : State) (p : Nat) : State :=
  if (s.port p).skew > 64000 then s.bringUpFails p 8 else (s.mapLanes p).rset KL_PORT_STATUS.STATE p 3

/-- RELOCK has its lanes and its blocks again: they are mapped, and TS2 sets are exchanged (R209, R226). -/
def State.relockReady (s : State) (p : Nat) : State :=
  let x := s.port p
  if s.rget KL_PORT_STATUS.STATE p = 8 ∧ x.block ∧ x.allLocked x.lanes ∧ x.skew ≤ 64000 then (s.mapLanes p).sendTs2 p else s

/-- A physical lane holds marker lock, with the logical lane and the polarity that its marker names. -/
def Port.lockLane (x : Port) (lane logical : Nat) (inverted : Bool) (arrPs : Nat) : Port :=
  let inv := if inverted then x.inverted ||| 2 ^ lane else if x.inverted.testBit lane then x.inverted - 2 ^ lane else x.inverted
  { x with locked := x.locked ||| 2 ^ lane, inverted := inv, logical := Assoc.put 0 x.logical lane logical,
           markAt := Assoc.put 0 x.markAt lane arrPs }

/-- MARKER_LOCK (R208, R209): `n` received bits of a lane, on which the search may find its marker, and when the marker of
one codeword came, in ps. The last lane in use takes MARKER to DESKEW, and the next of its events on to BLOCK (log 63). -/
def execMarkerLock (p lane rx n arrPs : Nat) (s : State) : Result :=
  onUnit s (decide (p < 18) && decide (lane < 4)) (
    let x := s.port p
    match markerLock rx n (markerSpan (Nat.max 1 (laneCount x.lanes))) with
    | none => s
    | some (logical, inverted) =>
      let x := x.lockLane lane logical inverted arrPs
      let s := s.setPort p x
      match s.rget KL_PORT_STATUS.STATE p with
      | 1 => if x.allLocked x.lanes then s.rset KL_PORT_STATUS.STATE p 2 else s
      | 2 => s.deskew p
      | _ => s.relockReady p)

/-- The marker that a locked lane carries: its logical lane's, or the complement. -/
def Port.markerOn (x : Port) (lane : Nat) : Nat :=
  let v := laneMarkers.getD (Assoc.get 0 x.logical lane) 0
  if x.inverted.testBit lane then 1023 - v else v

/-- MARKER_LOCK_LOSS (R208, R224): the symbols at a locked lane's marker offset in following codewords; 4 mismatches in a row
lose its lock, and on a lane in use they take an UP port down with cause 1. -/
def execMarkerLockLoss (p lane : Nat) (syms : List Nat) (s : State) : Result :=
  onUnit s (decide (p < 18) && decide (lane < 4)) (
    let x := s.port p
    if x.locked.testBit lane ∧ mismatchRun (x.markerOn lane) 4 syms then
      let used := x.lanes.testBit (Assoc.get 0 x.logical lane)
      let s := s.setPort p { x with locked := x.locked - 2 ^ lane }
      if used then s.linkDown p 1 else s
    else s)

/-- BLOCK_LOCK (R210, R211): `n` bits of the decoded block stream, on which the receiver may take block lock. -/
def execBlockLock (p rx n : Nat) (s : State) : Result :=
  onUnit s (decide (p < 18)) (
    let s := if s.rget KL_PORT_STATUS.STATE p = 2 then s.deskew p else s
    let st := s.rget KL_PORT_STATUS.STATE p
    if blockLock rx n = true ∧ (st = 3 ∨ (st = 8 ∧ (s.port p).allLocked (s.port p).lanes = true)) then
      let s := s.setPort p { s.port p with block := true }
      if st = 3 then s.rset KL_PORT_STATUS.STATE p 4 else s.relockReady p
    else s)

/-- BLOCK_LOCK_LOSS (R210, R224): the headers of following blocks, valid or not; 16 invalid ones of any 64 in a row lose block
lock, with cause 2. -/
def execBlockLockLoss (p : Nat) (headers : List Bool) (s : State) : Result :=
  onUnit s (decide (p < 18)) (
    if (s.port p).block = true ∧ failsIn headers 64 16 = true then (s.setPort p { s.port p with block := false }).linkDown p 2 else s)

/-- NO_VALID_BLOCK (R224): cause 4. -/
def execNoValidBlock (p : Nat) (s : State) : Result := onUnit s (decide (p < 18)) (s.linkDown p 4)

/-- MARKER_NARROWING (R212): 20 ms after MARKER is entered, the widest set whose lanes hold marker lock; the others stay out
until the next bring-up from DOWN. -/
def execMarkerNarrowing (p : Nat) (s : State) : Result :=
  onUnit s (decide (p < 18)) (
    let x := s.port p
    let set := widestIn x.allowed (x.lockedSet &&& (15 - x.dropped))
    if s.rget KL_PORT_STATUS.STATE p = 1 ∧ set ≠ 0 then
      (s.setPort p { x with lanes := set, dropped := x.dropped ||| (15 - set) }).rset KL_PORT_STATUS.STATE p 2
    else s)

/-! ### Equalisation and parameters (R211, R212, R228) -/

/-- TS1 (R211): an UP port leaves UP and relocks; else the peer's requests and its report are taken. -/
def execTs1 (p preset coeff : Nat) (eyeMet crcOk : Bool) (s : State) : Result :=
  s.onSet p crcOk (
    if s.rget KL_PORT_STATUS.STATE p = 7 then
      ((s.leaveUp p).rset KL_PORT_STATUS.STATE p 8 |>.rset KL_PORT_STATUS.SCHED p 0).sendTs1 p
    else s.setPort p { s.port p with txPreset := preset, txCoeff := coeff, eyePeer := eyeMet })

/-- EQ_COMPLETE (R211): both ends report their margins met. -/
def execEqComplete (p : Nat) (s : State) : Result :=
  onUnit s (decide (p < 18)) (
    if s.rget KL_PORT_STATUS.STATE p = 4 then
      ((s.setPort p { s.port p with eyePeer := true, ts2 := none, ts2Count := 0 }).rset KL_PORT_STATUS.STATE p 5).sendTs2 p
    else s)

/-- EQ_TIMEOUT (R212): the lanes without margin are dropped, and MARKER begins again with the widest set of the
rest. -/
def execEqTimeout (p : Nat) (failed : BitVec 4) (s : State) : Result :=
  onUnit s (decide (p < 18)) (
    let x := s.port p
    if s.rget KL_PORT_STATUS.STATE p = 4 then
      let x := { x with dropped := x.dropped ||| failed.toNat, locked := 0, logical := [], markAt := [], inverted := 0,
                        block := false }
      ((s.setPort p { x with lanes := x.widest }).rset KL_PORT_STATUS.STATE p 1).sendTs1 p
    else s)

/-- The parameters are agreed (R211, R212, R228): DELAY begins; two sets without a common lane, or an encryption that
is not agreed or has no key, fail the bring-up. -/
def State.agree (s : State) (p : Nat) (t : Ts2) : State :=
  let x := s.port p
  let set := widestIn x.allowed (x.lanes &&& t.lanes)
  let enc := decide (bitsOf x.ctrl 2 1 = 1)
  if set = 0 then s.bringUpFails p 8
  else if enc ≠ t.enc ∨ (enc = true ∧ x.key.isNone = true) then s.bringUpFails p 7
  else if bitsOf x.ctrl 5 1 ≠ t.rate then s
  else
    let s := s.setPort p { x with lanes := set, echoes := 0, rttMax := 0, delaySum := 0 }
    let s := (s.rset KL_PORT_STATUS.WIDTH p (laneCount set)).rset KL_PORT_STATUS.RATE p t.rate
    let s := s.rset KL_PORT_STATUS.ENC p (if enc then 1 else 0)
    let s := if t.devValid then
        ((s.rset KL_PORT_STATUS.PEER_ID p t.dev).rset KL_PORT_STATUS.PEER_PORT p t.port).rset KL_PORT_STATUS.PEER_VALID p 1
      else ((s.rset KL_PORT_STATUS.PEER_ID p 0).rset KL_PORT_STATUS.PEER_PORT p 31).rset KL_PORT_STATUS.PEER_VALID p 0
    (s.rset KL_PORT_STATUS.STATE p 6).sendPing p

/-- Entries of the replay buffer that an acknowledgement covers are freed (R220): those that were assigned no later than it. -/
def State.takeAck (s : State) (p ack : Nat) : State :=
  let x := s.port p
  let next := s.rget KL_SEQ.TX_NEXT p
  let age (q : Nat) : Nat := (next + 131071 - q) % 65536
  let covered (q : Nat) : Bool := decide (age ack ≤ age q)
  let x := { x with replay := x.replay.filter (fun e => !covered e.1), spilled := x.spilled.filter (fun e => !covered e.1),
                    resend := x.resend.filter (fun e => !covered e.1), unacked := x.unacked.filter fun e => !covered e.1 }
  ((s.setPort p x).rset KL_SEQ.TX_ACKED p ack).rset KL_SEQ.OCC p x.replay.length

/-- TS2 (R211, R212, R226, R228). -/
def execTs2 (p : Nat) (t : Ts2) (crcOk : Bool) (s : State) : Result :=
  s.onSet p crcOk (
    let x := s.port p
    let st := s.rget KL_PORT_STATUS.STATE p
    if st = 5 then
      let n := if x.ts2 = some t then x.ts2Count + 1 else 1
      let s := s.setPort p { x with ts2 := some t, ts2Count := n }
      if n ≥ 8 then s.agree p t else s
    else if st = 8 ∧ x.relock = false then
      ((s.setPort p { x with relock := true, echoes := 0, rttMax := 0, delaySum := 0 }).takeAck p t.ack).sendPing p
    else s)

/-! ### Round trips (R213, R226) -/

/-- PING (R213): it goes back as an ECHO. -/
def execPing (p seq : Nat) (crcOk : Bool) (s : State) : Result :=
  s.onSet p crcOk (
    let st := s.rget KL_PORT_STATUS.STATE p
    if st = 6 ∨ st = 7 ∨ st = 8 then s.emit (.orderedSet p (setBytes 0xF3 0 [seq])) else s)

/-- A round trip in ps as ticks at 1.50 GHz, rounded up (R213). -/
def rttTicks (ps : Nat) : Nat := ceilDiv (3 * ps) 2000

/-- A round trip measured: its ticks, and the one-way delay in ps. -/
def State.gotEcho (s : State) (p rtt delay : Nat) : State :=
  let x := s.port p
  let s := s.setPort p { x with echoes := x.echoes + 1, rttMax := Nat.max x.rttMax rtt, delaySum := x.delaySum + delay }
  let n := x.echoes + 1
  let st := s.rget KL_PORT_STATUS.STATE p
  if st = 6 then (if n ≥ 256 then s.reachUp p else s.sendPing p)
  else if st = 8 ∧ x.relock = true then (if n ≥ 16 then s.relocked p else s.sendPing p)
  else s

/-- ECHO (R213, R226): `seq` names the round trip in progress; it and its one-way delay are measured in ps. -/
def execEcho (p seq rttPs delayPs : Nat) (crcOk : Bool) (s : State) : Result :=
  s.onSet p crcOk (
    let st := s.rget KL_PORT_STATUS.STATE p
    if (st = 6 ∨ st = 8) ∧ (s.port p).echoes = seq then s.gotEcho p (rttTicks rttPs) delayPs else s)

/-! ### Time limits, RESET, LINK_RESET and KL_PORT_CTRL (R211, R224 to R227) -/

/-- BRING_UP_TIMEOUT (R211): 100 ms without UP. -/
def execBringUpTimeout (p : Nat) (s : State) : Result :=
  onUnit s (decide (p < 18)) (
    let st := s.rget KL_PORT_STATUS.STATE p
    if st = 0 ∨ st = 7 ∨ st = 8 then s
    else if st = 9 then
      match (s.port p).linkCmd with
      | some h => (s.setPort p { s.port p with linkCmd := none }).finish h cmdLinkReset 0x12 0 0 0
      | none => s
    else s.bringUpFails p 8)

/-- BRING_UP_RETRY (R211): a new attempt 1 s after a failure. -/
def execBringUpRetry (p : Nat) (s : State) : Result :=
  onUnit s (decide (p < 18))
    (if s.rget KL_PORT_STATUS.STATE p = 0 ∧ s.rget KL_PORT_CTRL.ENABLE p = 1 then s.bringUp p else s)

/-- GRACE_EXPIRY (R226): KL_GRACE.GRACE after the port went down. -/
def execGraceExpiry (p : Nat) (s : State) : Result :=
  onUnit s (decide (p < 18))
    (if s.rget KL_PORT_STATUS.STATE p = 8 ∧ (s.port p).downAt + s.graceEdges p ≤ s.clk.wall then s.flushAndRestart p else s)

/-- RESET (R224): the peer has begun a full link reset. A port in RELOCK flushes as well. -/
def execResetSet (p : Nat) (crcOk : Bool) (s : State) : Result :=
  s.onSet p crcOk (
    if s.rget KL_PORT_STATUS.STATE p = 8 then (s.rset KL_PORT_STATUS.DOWN_CAUSE p 5).flushAndRestart p else s.linkDown p 5)

/-- A port's full link reset (R227, R239): 16 RESET sets, but from a DISABLED port, which sends nothing (R211); down with
cause 6, flush, bring-up from DOWN. -/
def State.fullReset (s : State) (p : Nat) : State :=
  let sets := if s.rget KL_PORT_STATUS.STATE p = 9 then 0 else 16
  let s := (List.range sets).foldl (fun s _ => s.emit (.orderedSet p (setBytes 0xF9 0 []))) s
  let s := if s.rget KL_PORT_STATUS.STATE p = 7 then s.leaveUp p else s
  let s := ((s.rset KL_PORT_STATUS.DOWN_CAUSE p 6).flushPort p).clearStatus p
  if s.rget KL_PORT_CTRL.ENABLE p = 1 then s.bringUp p else s

/-- LINK_RESET's effect (R227). -/
def State.linkReset (s : State) (h : HostCmd) : State × CmdEnd :=
  if h.a0 ≥ 18 then (s, .done 0x03 0 0 0)
  else if s.running ∧ s.planUses h.a0 = true then (s, .done 0x04 0 0 0)
  else if (s.port h.a0).linkCmd.isSome then (s, .done 0x01 0 0 0)
  else
    let s := s.fullReset h.a0
    (s.setPort h.a0 { s.port h.a0 with linkCmd := some h }, .later)

/-- LINK_RESET (R227). -/
def execLinkReset (h : HostCmd) (s : State) : Result := .next (s.runCmd h cmdLinkReset (.linkReset h) fun s => s.linkReset h)

/-- KL_PORT_CTRL's fields (R236): a WIDTH_REQ of 3 is ignored. -/
def State.portCtrl (s : State) (p value : Nat) : State :=
  let s := (s.rset KL_PORT_CTRL.ENABLE p (bitsOf value 0 1)).rset KL_PORT_CTRL.SPILL p (bitsOf value 1 1)
  let s := s.rset KL_PORT_CTRL.ENC_REQ p (bitsOf value 2 1)
  let s := if bitsOf value 3 2 = 3 then s else s.rset KL_PORT_CTRL.WIDTH_REQ p (bitsOf value 3 2)
  let s := (s.rset KL_PORT_CTRL.RATE_REQ p (bitsOf value 5 1)).rset KL_PORT_CTRL.LOOP p (bitsOf value 6 1)
  let st := s.rget KL_PORT_STATUS.STATE p
  if bitsOf value 0 1 = 0 then
    if st = 9 then s
    else
      let s := if st = 7 then s.leaveUp p else s
      let s := if st = 7 ∨ st = 8 then s.flushPort p else s
      (s.clearStatus p).rset KL_PORT_STATUS.STATE p 9
  else if st = 9 then s.bringUp p
  else s

/-- KL_PORT_CTRL (R211, R236): ENABLE = 0 puts the port in DISABLED, and 1 takes it out. -/
def execKlPortCtrl (agent : Agent) (p value : Nat) (s : State) : Result :=
  onUnit s (decide (p < 18)) (s.regWrite agent (0x300008 + 0x1000 * p) fun s => s.portCtrl p value)

end Sys2Proof.Machine
end

