-- ==== Sys2Proof/Machine/FlitOut.lean ====
section
/-! DEFINITION. The sender's side of a Klonak port: flit slots (R207), flits and their protection (R216, R217, R228),
the replay buffer (R219 to R221) and the key slots (R229, R342, R343). -/
namespace Sys2Proof.Machine

/-! ### Keys (R228, R342) -/

/-- The 36 bytes of key and salt of one direction of a link at a generation (R342). -/
def linkKeyBytes (master sender senderPort receiver gen : Nat) : List Byte :=
  let ctx := bytesOf sender 2 ++ bytesOf senderPort 1 ++ bytesOf receiver 2 ++ bytesOf gen 4
  let block (i : Nat) : List Byte :=
    hmac256 (bytesOf master 32) (bigEndian i 4 ++ [0x4B#8, 0x4C#8, 0x4E#8, 0x4B#8, 0#8] ++ ctx ++ bigEndian 288 4)
  (block 1 ++ block 2).take 36

/-- The AES key and the IV of flit `count` under a key (R228). -/
def keyAndIv (bytes : List Byte) (count : Nat) : List Byte × List Byte := (bytes.take 32, bytes.drop 32 ++ bytesOf count 8)

/-- The sender's key and IV for its next flit. -/
def State.txKeyIv (s : State) (p : Nat) : List Byte × List Byte :=
  let x := s.port p
  keyAndIv (linkKeyBytes (x.key.getD 0) s.ownId p (s.rget KL_PORT_STATUS.PEER_ID p) x.txGen) x.txCount

/-! ### Flits (R216 to R219) -/

/-- The header of a flit without ACK, NAK and NMASK (R216): its type, SEQ, key slot and bits [95:61]. -/
def flitBase (type seq keyId bits : Nat) : Nat := type + seq * 2 ^ 8 + keyId * 2 ^ 60 + bits

/-- Bits [95:61] of a scheduled or Hold flit (R216). -/
def schedBits (cpool cn route tick : Nat) : Nat :=
  cpool % 16 * 2 ^ 61 + cn % 256 * 2 ^ 65 + route % 4096 * 2 ^ 73 + tick / 4 % 2048 * 2 ^ 85

/-- A flit with its header's current acknowledgement and requests, and its CRC (R217). -/
def flitBytes (base ack nak nmask : Nat) (payload : List Byte) : List Byte :=
  let body := bytesOf (base + ack * 2 ^ 24 + nak * 2 ^ 40 + nmask * 2 ^ 56) 12 ++ payload
  body ++ bytesOf (crc32c body) 4

/-- The missing SEQs that a flit in the slot at tick t requests (R219): NAK and NMASK. -/
def Port.nakFields (x : Port) (t : Nat) : Nat × Nat :=
  let due := x.naks.filter fun n => match n.due with
    | some d => decide (d ≤ t)
    | none => false
  match due with
  | [] => (0, 0)
  | n :: _ => (n.seq, (List.range 4).foldl (fun m i =>
      if due.any fun q => q.seq = (n.seq + i) % 65536 then m + 2 ^ i else m) 0)

/-- The requests of a flit have been sent (R219). -/
def State.sentNaks (s : State) (p t nak nmask : Nat) : State :=
  let x := s.port p
  let asked (q : Nat) : Bool := (List.range 4).any fun i => nmask.testBit i && decide ((nak + i) % 65536 = q)
  let naks := x.naks.map fun n => if asked n.seq then { n with due := none, last := t } else n
  let n := ((List.range 4).filter fun i => nmask.testBit i).length
  s.setPort p { x with naks := naks, live := Assoc.put 0 x.live 4 (Assoc.get 0 x.live 4 + n) }

/-- A count of a port goes up (R236's counter table). -/
def State.portCount (s : State) (p k : Nat) : State :=
  let x := s.port p
  s.setPort p { x with live := Assoc.put 0 x.live k (Assoc.get 0 x.live k + 1) }

/-- A flit leaves in the slot at tick t, with the current ACK and requests. -/
def State.sendRaw (s : State) (p t base : Nat) (payload : List Byte) : State :=
  let (nak, nmask) := (s.port p).nakFields t
  let ack := (s.rget KL_SEQ.RX_NEXT p + 65535) % 65536
  (s.sentNaks p t nak nmask).emit (.flit p (flitBytes base ack nak nmask payload))

/-- The replay buffer is full (R220): 1,024 flits on chip; or, with what has spilled, every SEQ but one is taken (log 64). -/
def State.replayFull (s : State) (p : Nat) : Bool :=
  decide (1024 ≤ (s.port p).replay.length) || decide (65535 ≤ (s.port p).replay.length + (s.port p).spilled.length)

/-- A new sequenced flit leaves (R218, R220, R228): it takes the next SEQ and stays in the replay buffer. -/
def State.sendNew (s : State) (p t type bits : Nat) (payload : List Byte) : State :=
  let x := s.port p
  let seq := s.rget KL_SEQ.TX_NEXT p
  let base := flitBase type seq x.keyId bits
  let enc := s.rget KL_PORT_STATUS.ENC p = 1
  let (key, iv) := s.txKeyIv p
  let body := if enc then gcmSeal key iv (bytesOf base 12) (payload.take 224) else payload
  let replay := Assoc.insert x.replay seq (bytesOf base 12 ++ body)
  let live := Assoc.put 0 x.live 7 (Nat.max (Assoc.get 0 x.live 7) replay.length)
  let s := s.setPort p { x with replay := replay, txCount := x.txCount + 1, live := live }
  let s := (s.rset KL_SEQ.TX_NEXT p (seq + 1)).rset KL_SEQ.OCC p replay.length
  s.sendRaw p t base body

/-- A payload of zeros. -/
def zeroPayload : List Byte := List.replicate 240 0

/-- A null flit (R216). -/
def State.sendNull (s : State) (p t : Nat) : State :=
  s.sendRaw p t (flitBase 4 (s.rget KL_SEQ.TX_NEXT p) (s.port p).keyId 0) zeroPayload

/-! ### Scheduled positions (R207, R220, R225, R243) -/

/-- The route entry that owns a position of a port, with its index; none on a port that carries the service plane only
(R204, R240). -/
def State.slotOwner (s : State) (p pos : Nat) : Option (Nat × Route) :=
  let im := s.activeImage
  if s.rget KL_PORT_STATUS.SCHED p = 0 ∨ s.ringMode = true then none
  else ((List.range (routeCount im)).map fun r => (r, routeEntry im r)).find? fun e =>
    e.2.owns && decide (e.2.outPort = p) && e.2.posMask.testBit pos

/-- The positions of a port that the active route table marks; none on a port that carries the service plane only
(R204, R240). -/
def State.ownedMask (s : State) (p : Nat) : Nat :=
  if s.rget KL_PORT_STATUS.SCHED p = 0 then 0
  else s.portRoutes.foldl (fun m r => if r.owns && decide (r.outPort = p) then m ||| r.posMask else m) 0

/-- The slot at tick t lies in the frame in progress. -/
def State.slotInFrame (s : State) (t : Nat) : Bool :=
  decide (s.frame.phase = .inFrame) && decide (s.frame.start ≤ t) && decide (t ≤ s.endTick)

/-- Nothing scheduled leaves in an owned slot: a null flit, where the slot is a port's. -/
def State.sendEmpty (s : State) (p t : Nat) : State := if s.ringMode then s else s.sendNull p t

/-- Where a ring route's flit goes from entry `r`, `h` hops on: the entries that take it, with their hops (R366, log 70). -/
def State.ringStops (s : State) : Nat → Nat → Nat → List (Nat × Nat)
  | 0, _, _ => []
  | fuel + 1, r, h =>
    let e := s.route r
    if e.kind = 2 then s.ringStops fuel e.next (h + 1)
    else if e.kind = 4 then (r, h) :: s.ringStops fuel e.next (h + 1)
    else [(r, h)]

/-- A flit of a ring route comes to each entry that takes it at its send tick plus 256 ticks for each hop (R366); at an entry that
is unused it is early (R242). -/
def State.ringSend (s : State) (t : Nat) (hold : Bool) (next cpool cn : Nat) (payload : List Byte) : State :=
  (s.ringStops 4096 next 1).foldl (fun s e =>
    let p := (s.route e.1).inPort
    if (s.route e.1).kind < 2 then s.portFault p 0x05 e.1
    else
      let f : HeldFlit := { route := e.1, hold := hold, sendTick := t, due := t + 256 * e.2, cpool := cpool, cn := cn, payload := payload }
      s.setPort p { s.port p with held := (s.port p).held ++ [f] }) s

/-- A scheduled or Hold flit leaves (R220, R257): REPLAY_FULL where the replay buffer has no room. A four-chip image's goes round
its ring (R366). -/
def State.sendSched (s : State) (p t : Nat) (hold : Bool) (next cpool cn : Nat) (payload : List Byte) : State :=
  if s.ringMode then s.ringSend t hold next cpool cn payload
  else if s.replayFull p then (s.portFault p 0x1C p).sendNull p t
  else
    let s := (s.tel (if hold then 7 else 6) 1).chargeAt (regionOfPort p) (t - s.frame.start) 8000
    if hold then s.sendNew p t 2 (schedBits 0 0 next t) zeroPayload
    else s.sendNew p t 1 (schedBits cpool cn next t) payload

/-- The payload of a SEND's next flit (R243). -/
def SendSt.payload (x : SendSt) : List Byte :=
  match x.fixed with
  | some bs => bs ++ List.replicate (240 - bs.length) 0
  | none =>
    let bytes := (List.range x.cap).map fun i =>
      let a := x.cap * x.sent + i
      byteOf (Assoc.get 0 x.lines (a / 64)) (a % 64)
    bytes ++ List.replicate (240 - x.cap) 0

/-- The credits that the next flit of a route carries (R90): pool and number. -/
def Core.creditsOf (k : Core) (r : Nat) : Nat × Nat :=
  match (List.range 16).find? fun p => decide (Assoc.get 0 k.pendCredits (16 * r + p) > 0) with
  | some p => (p, Nat.min 255 (Assoc.get 0 k.pendCredits (16 * r + p)))
  | none => (0, 0)

/-- A SOURCE's slot (R90, R243): the next flit of the SEND, or of the request, that is due in it. The Hold flits of SENDs whose
spans overlap in abort mode share their slots (R382). -/
def State.sourceSlot (s : State) (p r : Nat) (e : Route) (t : Nat) : State :=
  let k := s.core e.lcore
  match k.sendList.filter fun x => decide (x.1 % 4096 = r) && decide (x.2.slot ≤ t) with
  | [] => s.sendEmpty p t
  | (key, x) :: rest =>
    let ft := t - s.frame.start
    let hold := x.hold || s.abortedAt ft
    let (cpool, cn) := if hold then (0, 0) else k.creditsOf r
    let next := nextSlot e.posMask (t + 4)
    let y := { x with sent := x.sent + 1, slot := next }
    let left := if x.sent + 1 ≥ x.count then none else some y
    let yields (z : SendSt) : Bool := hold && x.fixed.isNone && z.fixed.isNone && (z.hold || s.abortedAt ft)
    let sends := rest.foldl (fun m z =>
      if yields z.2 then Assoc.put none m z.1 (if z.2.sent + 1 ≥ z.2.count then none else some { z.2 with sent := z.2.sent + 1, slot := next })
      else Assoc.put none m z.1 (some { z.2 with slot := next })) (Assoc.put none k.sends key left)
    let k := { k with sends := sends, pendCredits := if cn = 0 then k.pendCredits else Assoc.put 0 k.pendCredits (16 * r + cpool) 0 }
    let s := s.setCore e.lcore k
    let s := if left.isNone && !hold && x.fixed.isNone then s.push e.lcore ft (.tokenAdd 4 0xFFFFFFFF x.done 1) else s
    s.sendSched p t hold e.next cpool cn x.payload

/-- The runs of consecutive bytes of one burst in a stretch of a side's stream. -/
def DmaSide.runs (x : DmaSide) (o n : Nat) : List (Nat × Nat) :=
  ((List.range n).map fun i => x.byteAt (o + i)).foldl (fun acc a =>
    match acc.getLast? with
    | some (b, m) => if a = b + m ∧ a / 64 = b / 64 then acc.dropLast ++ [(b, m + 1)] else acc ++ [(a, 1)]
    | none => [(a, 1)]) []

/-- The physical place of a served read's byte (R164, R165, R175): none for a null side, or the fault's cause and DETAIL. -/
def State.servePlace (s : State) (x : DmaSide) (a : Nat) : Option Nat ⊕ (Nat × Nat) :=
  if ¬ x.xlate then .inl (some a)
  else if ¬ ptValid x.pt then .inl none
  else if ¬ ptIndexOk x.pt a then .inr (0x0F, a % 2 ^ 32)
  else if s.mem.badBursts.contains (ptEntryAt x.pt a / 64) then .inr (0x0D, a % 2 ^ 32)
  else match ptCheck x.pt a (s.memNat (ptEntryAt x.pt a) 8) false with
    | .inl p => .inl (some p)
    | .inr cause => .inr (cause, a % 2 ^ 32)

/-- The bridge's budget of served bytes that come from a die to the die of the port that answers (R11, R157). -/
def State.serveBridge (s : State) (p die n : Nat) : List Budget := if die = p / 9 then [] else [s.bridgeBudget (p / 9) n]

/-- One run of a served read for port `p` (R74, R157, R175): its bytes, or the fault's cause and DETAIL. -/
def State.serveRun (s : State) (p : Nat) (x : DmaSide) (gst : Nat) (run : Nat × Nat) : (List Byte ⊕ (Nat × Nat)) × State :=
  let (a, n) := run
  if x.space = 1 then
    let c := windowCore a
    let (excess, s) := s.arrive gst (s.serveBridge p (s.dieOfCore c) n)
    match excess with
    | some b => (.inr (0x1A, b), s)
    | none =>
      (.inl (spadBytes (s.core c) (a % 2 ^ 22) n),
       s.access c { cls := 3, issued := gst - s.frame.start, unit := dmaUnit c 15, kind := 1, line := a % 2 ^ 22 / 64 })
  else
    match s.servePlace x a with
    | .inl none => (.inl (List.replicate n 0), s)
    | .inr e => (.inr e, s)
    | .inl (some phys) =>
      let s := s.chargeAt (regionOfStack (stackOf phys)) (gst - s.frame.start) 1536
      let (excess, s) := s.arrive gst (s.burstBudgets phys 1 ++ s.serveBridge p (phys / dieBytes) n)
      match excess with
      | some b => (.inr (0x1A, budgetDetail b phys), s)
      | none =>
        let (bs, bad, s) := (s.tel 5 n).schedRead phys n (if x.xlate then ctxTweak (ptTag x.pt) else physTweak)
        if bad then (.inr (0x0E, phys % 2 ^ 32), s) else (.inl bs, s)

/-- The bytes of one reply flit (R175), or the first fault among its runs. -/
def State.serveBytes (s : State) (p : Nat) (x : DmaSide) (o n gst : Nat) : (List Byte ⊕ (Nat × Nat)) × State :=
  (x.runs o n).foldl (fun (acc : (List Byte ⊕ (Nat × Nat)) × State) run =>
    match acc.1 with
    | .inr e => (.inr e, acc.2)
    | .inl bs =>
      match acc.2.serveRun p x gst run with
      | (.inl more, s) => (.inl (bs ++ more), s)
      | (.inr e, s) => (.inr e, s)) (.inl [], s)

/-- A memory-fed SOURCE's slot (R175, R243): the next reply flit, or a Hold flit where the read was refused. -/
def State.memorySlot (s : State) (p r : Nat) (e : Route) (t : Nat) : State :=
  match Assoc.get none s.mem.serves r with
  | none => s.sendEmpty p t
  | some x =>
    if t < x.slot then s.sendEmpty p t
    else
      let cap := s.flitCap p
      let o := cap * x.sent
      let n := Nat.min cap (x.total - o)
      let left := if o + n ≥ x.total then none else some { x with sent := x.sent + 1, slot := nextSlot e.posMask (t + 4) }
      let s := { s with mem := { s.mem with serves := Assoc.put none s.mem.serves r left } }
      if x.refused || s.abortedAt (t - s.frame.start) then s.sendSched p t true e.next 0 0 []
      else
        match s.serveBytes p x.side o n t with
        | (.inl bs, s) => s.sendSched p t false e.next 0 0 (bs ++ List.replicate (240 - bs.length) 0)
        | (.inr (cause, detail), s) =>
          (s.raiseFault { cause := cause, region := regionCode (regionOfPort p), unit := r, detail := detail, flags := 2,
                          origin := x.origin } (t - s.frame.start)).sendSched p t true e.next 0 0 []

/-- A forwarding hop's slot (R225, R243): the released flit that is to leave in it, or a Hold flit while the incoming
port is down. -/
def State.forwardSlot (s : State) (p r : Nat) (e : Route) (t : Nat) : State :=
  let x := s.port p
  match x.forwards.find? fun f => decide (f.1 = r) && decide (f.2.due ≤ t) with
  | some f =>
    let s := s.setPort p { x with forwards := x.forwards.erase f }
    s.sendSched p t f.2.hold e.next f.2.cpool f.2.cn f.2.payload
  | none => if s.portUp e.inPort then s.sendNull p t else s.sendSched p t true e.next 0 0 []

/-- A scheduled position's slot (R62, R207, R330): in the fail-safe state, and after a stop of a multi-device plan,
every owned position carries a Hold flit. -/
def State.ownedSlot (s : State) (p r : Nat) (e : Route) (t : Nat) : State :=
  if s.failSafe || s.frame.holdAfterStop then s.sendSched p t true e.next 0 0 []
  else if ¬ s.slotInFrame t then s.sendEmpty p t
  else if e.kind = 1 then (if e.mem then s.memorySlot p r e t else s.sourceSlot p r e t)
  else s.forwardSlot p r e t

/-! ### Replay and service slots (R207, R219, R245) -/

/-- The oldest retransmission that may take the slot at tick t (R219). -/
def Port.replayDue (x : Port) (t : Nat) : Option (Nat × Nat) := x.resend.find? fun e => decide (e.2 + 8 ≤ t)

/-- Where the spilled flit of a SEQ lies (R155, R221): 256 bytes for each SEQ of the 65,536 (log 64). -/
def spillAt (p seq : Nat) : Nat := Config.spillBase p + 256 * seq

/-- A stored flit goes again, with current ACK, NAK and NMASK (R219); a spilled one is fetched back from memory (R221). -/
def State.resendFlit (s : State) (p t : Nat) (e : Nat × Nat) : State :=
  let x := s.port p
  let s := s.setPort p { x with resend := x.resend.erase e, live := Assoc.put 0 x.live 3 (Assoc.get 0 x.live 3 + 1) }
  let (stored, s) := match Assoc.find x.replay e.1 with
    | some bs => (bs, s)
    | none =>
      let (bs, _, s) := s.memRead (spillAt p e.1) 252 physTweak false
      (bs, s)
  s.sendRaw p t (leAt stored 0 12) (stored.drop 12)

/-- The packet that a port sends next (R245): the oldest of the lowest-numbered channel that has one. -/
def Port.nextPacket (x : Port) : Option QPkt :=
  (List.range 4).findSome? fun vc => x.queue.find? fun q => decide (q.pkt.vc = vc)

/-- A service position (R245): the next flit of the packet on its way, the first of the next packet, or a null
flit. A sampled packet's record is made as its first flit leaves (R252). -/
def State.serviceSlot (s : State) (p t : Nat) : State :=
  if s.replayFull p then s.sendNull p t
  else
    let x := s.port p
    let cap := s.flitCap p
    let go (s : State) (k : Packet) (i : Nat) : State :=
      let n := packetFlits k cap
      let pay := packetPayload k i cap
      let seq := s.rget KL_SEQ.TX_NEXT p
      let s := s.sendNew p t 3 (packetBits k i n) (pay ++ List.replicate (240 - cap) 0)
      let x := s.port p
      if i + 1 ≥ n then s.setPort p { x with sending := none, unacked := x.unacked ++ [(seq, k)] }
      else s.setPort p { x with sending := some (k, i + 1) }
    match x.sending with
    | some (k, i) => go s k i
    | none =>
      match x.nextPacket with
      | none => s.sendNull p t
      | some q =>
        let s := if q.pkt.kind = 0x06 ∧ q.pkt.hops > 1 then s else s.sampleRecord q.pkt q.inPort p q.escape t
        let s := s.setPort p { s.port p with queue := (s.port p).queue.erase q }
        go s { q.pkt with hops := (q.pkt.hops + 1) % 64 } 0

/-- The verdict that leaves in a slot of a port (R56): the oldest one that waits for it, between frames, in the slots that
the active route table schedules, or in any slot of a port that has none (log 58). -/
def State.slotVerdict (s : State) (p t : Nat) : Option (Nat × Verdict) :=
  if s.slotInFrame t then none
  else if s.ownedMask p = 0 ∨ (s.ownedMask p).testBit (t / 4 % 16) then s.frame.verdicts.find? fun e => e.1 = p
  else none

/-- The flit of a slot (R207). -/
def State.slotFlit (s : State) (p t : Nat) : State :=
  let pos := t / 4 % 16
  match s.slotVerdict p t, s.slotOwner p pos with
  | some v, _ => (s.setFrame { s.frame with verdicts := s.frame.verdicts.erase v }).emit (.verdict p v.2)
  | none, some (r, e) => s.ownedSlot p r e t
  | none, none =>
    let free := (List.range 16).filter fun k => !(s.ownedMask p).testBit k
    match if free.head? = some pos then (s.port p).replayDue t else none with
    | some e => s.resendFlit p t e
    | none => s.serviceSlot p t

/-! ### Spill and keys (R221, R229, R343) -/

/-- A port may spill (R221). -/
def State.maySpill (s : State) (p : Nat) : Bool :=
  decide (s.rget KL_PORT_CTRL.SPILL p = 1) && (!s.portUp p || !(s.running && s.planUses p))

/-- A replay entry moves into the spill area. -/
def State.spillEntry (s : State) (p q : Nat) : State :=
  let bs := (Assoc.find (s.port p).replay q).getD []
  let s := (s.memWrite (spillAt p q) bs physTweak false).2
  let x := s.port p
  s.setPort p { x with replay := Assoc.erase x.replay q, spilled := x.spilled ++ [(q, isServiceFlit bs)] }

/-- A spilled entry comes back on chip. -/
def State.unspillEntry (s : State) (p q : Nat) : State :=
  let (bs, _, s) := s.memRead (spillAt p q) 252 physTweak false
  let x := s.port p
  s.setPort p { x with replay := Assoc.insert x.replay q bs, spilled := x.spilled.filter fun e => e.1 ≠ q }

/-- SPILL (R221): a port that may spill moves its oldest entries into the spill area of 65,536 flits; one that no
longer may stops once its entries fit on chip again. -/
def State.spillPort (s : State) (p : Nat) : State :=
  let x := s.port p
  let occ (s : State) : State := s.rset KL_SEQ.OCC p (s.port p).replay.length
  if s.maySpill p then
    let move := (seqOrder (s.rget KL_SEQ.TX_ACKED p) (x.replay.map (·.1))).take (65536 - x.spilled.length)
    let s := if s.rget KL_PORT_STATUS.SPILLING p = 1 then s else s.event KL_EVENT.SPILL_START p
    (occ (move.foldl (fun s q => s.spillEntry p q) s)).rset KL_PORT_STATUS.SPILLING p 1
  else if s.rget KL_PORT_STATUS.SPILLING p = 1 ∧ x.replay.length + x.spilled.length ≤ 1024 then
    (occ (x.spilled.foldl (fun s e => s.unspillEntry p e.1) s)).rset KL_PORT_STATUS.SPILLING p 0
  else s

/-- A port that may no longer spill takes its entries back as soon as they fit (R221). -/
def State.settleSpill (s : State) (p : Nat) : State :=
  if s.rget KL_PORT_STATUS.SPILLING p = 1 ∧ s.maySpill p = false then s.spillPort p else s

/-- SPILL (R221). -/
def execSpill (p : Nat) (s : State) : Result := onUnit s (decide (p < 18)) (s.spillPort p)

/-- The ring positions that a four-chip image's routes own under an OUT_PORT, slot by slot within the frame (R366, log 70). -/
def State.ringSlot (s : State) (p : Nat) : State :=
  let t := Nat.max (s.port p).ringTick (4 * ceilDiv s.frame.start 4)
  if s.ringMode && s.slotInFrame t && decide (t ≤ s.gst) then
    let s := (s.setPort p { s.port p with ringTick := t + 4 }).advance (t - s.frame.start)
    let im := s.activeImage
    match ((List.range (routeCount im)).map fun r => (r, routeEntry im r)).find? fun e =>
        decide (e.2.kind = 1) && decide (e.2.outPort = p) && e.2.posMask.testBit (t / 4 % 16) with
    | some (r, e) => s.ownedSlot p r e t
    | none => s
  else s

/-- FLIT_SLOT (R207, R366): the port's next slot, once its tick has come (log 22), after the ring's. -/
def execFlitSlot (p : Nat) (s : State) : Result :=
  onUnit s (decide (p < 18)) (
    let s := s.ringSlot p
    let x := s.port p
    let t := x.slotTick
    if s.portUp p ∧ t ≤ s.gst then
      let s := s.setPort p { x with slotTick := t + s.slotStep p }
      let s := s.settleSpill p
      let s := if s.slotInFrame t then s.advance (t - s.frame.start) else s
      s.slotFlit p t
    else s)

/-- KEY_SWITCH (R229, R343): after 2³⁹ flits under a key the sender goes on to the other slot and fills the one it
leaves. -/
def execKeySwitch (p : Nat) (s : State) : Result :=
  onUnit s (decide (p < 18)) (
    let x := s.port p
    if s.rget KL_PORT_STATUS.ENC p = 1 ∧ x.txCount ≥ 2 ^ 39 then
      s.setPort p { x with keyId := 1 - x.keyId, txGen := x.txGenNext, txGenNext := x.txGen + 2, txCount := 0 }
    else s)

end Sys2Proof.Machine
end

