-- ==== Sys2Proof/Machine/FlitIn.lean ====
section
/-! DEFINITION. The receiver's side of a Klonak port: arriving flits (R216 to R219, R228, R229), their release to
routes, sinks, twins and served reads (R175, R222, R243, R286), and what is missing (R70, R219). -/
namespace Sys2Proof.Machine

/-! ### Sequence (R218, R219) -/

/-- The distance of a SEQ from the lowest one not yet received. -/
def State.rxDistance (s : State) (p seq : Nat) : Nat := (seq + 65536 - s.rget KL_SEQ.RX_NEXT p) % 65536

/-- The SEQs of the receiver's window (R218). -/
def State.rxWindow (s : State) (p : Nat) : Nat := if s.rget KL_PORT_STATUS.SPILLING p = 1 then 65536 else 1024

/-- A SEQ lies in the receiver's window and is new (R218). -/
def State.rxAccepts (s : State) (p seq : Nat) : Bool :=
  decide (s.rxDistance p seq < s.rxWindow p) && !(s.port p).seen.contains seq

/-- The SEQs below `seq` that have not come are missing: their request is due 8 ticks on (R219). -/
def State.noteGap (s : State) (p seq : Nat) : State :=
  let x := s.port p
  let first := s.rget KL_SEQ.RX_NEXT p
  let miss := ((List.range (Nat.min (s.rxWindow p) (s.rxDistance p seq))).map fun i => (first + i) % 65536).filter fun q =>
    !x.seen.contains q && !(x.naks.any fun n => n.seq = q)
  s.setPort p { x with naks := x.naks ++ miss.map fun q => { seq := q, due := some (s.gst + 8) } }

/-- Received SEQs from the lowest on count as one run (R218): how many. -/
def runLength (seen : List Nat) (q : Nat) : Nat → Nat
  | 0 => 0
  | n + 1 => if seen.contains q then 1 + runLength seen ((q + 1) % 65536) n else 0

/-! ### Service flits and packets (R218, R244) -/

/-- The packet of a first flit's header bits and all its bytes (R244). -/
def packetOf (bits : Nat) (bs : List Byte) : Packet :=
  let len := leAt bs 6 2
  let kind := leAt bs 2 1
  { src := leAt bs 0 2 % 2 ^ 14, dest := bitsOf bits 2 14, kind := kind, vc := bitsOf bits 0 2, status := leAt bs 3 1,
    tag := leAt bs 4 2, len := len, addr := leAt bs 8 8, data := if kind = 0x01 then [] else (bs.drop 16).take len,
    bcast := bitAt bits 18, tree := bitsOf bits 19 4, sampled := bitAt bits 23, hops := bitsOf bits 24 6 }

/-- A whole packet has come on a port, in a buffer (R244, R245): one whose channel is not its kind's is discarded and counted;
one for this device goes to its sinks, one of channel 1 only while the handlers have room; another waits in the buffer for a
hop. -/
def State.packetIn (s : State) (p : Nat) (k : Packet) (escape : Bool) : State :=
  if kindVc k.kind ≠ some k.vc then s.fabCount 7
  else if k.bcast ∨ k.dest = s.ownId then (if k.kind = 0x05 then s.toHandler p k else s.emit (.packet 31 k))
  else s.parkAt p k escape

/-- One service flit in SEQ order (R218): header bits and payload of `cap` bytes. A packet's buffer is that of its first flit. -/
def State.serviceIn (s : State) (p : Nat) (raw : List Byte) (escape : Bool) : State :=
  let bits := leAt raw 0 12 >>> 61
  let pay := (raw.drop 12).take (s.flitCap p)
  let x := s.port p
  let (first, bs, esc) := if bitAt bits 16 then (bits, pay, escape) else match x.asm with
    | some (b, acc, e) => (b, acc ++ pay, e)
    | none => (bits, pay, escape)
  if bitAt bits 17 then (s.setPort p { x with asm := none }).packetIn p (packetOf first bs) esc
  else s.setPort p { x with asm := some (first, bs, esc) }

/-- RX_NEXT goes on over what has come, and the service flits below it are delivered in order (R218). -/
def State.rxAdvance (s : State) (p : Nat) : State :=
  let x := s.port p
  let first := s.rget KL_SEQ.RX_NEXT p
  let n := runLength x.seen first x.seen.length
  let run := (List.range n).map fun i => (first + i) % 65536
  let ready := run.filterMap fun q => Assoc.find x.svcHeld q
  let x := { x with seen := x.seen.filter (fun q => !run.contains q), svcHeld := x.svcHeld.filter (fun e => !run.contains e.1),
                    rxExt := x.rxExt + n }
  ready.foldl (fun s e => s.serviceIn p e.1 e.2) ((s.setPort p x).rset KL_SEQ.RX_NEXT p (first + n))

/-! ### Scheduled flits on arrival (R70, R222, R242, R243) -/

/-- The send tick behind STICK and the receiver's time (R222). -/
def sendTickOf (gst stick : Nat) : Nat := gst + 4096 - (gst + 4096 + 8192 - 4 * stick) % 8192

/-- FIXED_CUR (R213). -/
def State.fixedCur (s : State) (p : Nat) : Nat := s.rget KL_PORT_DELAY.FIXED p * s.clk.rate / 240

/-- The hop budget that the active plan holds for a port (R222). -/
def State.hopBudget (s : State) (p : Nat) : Nat := timingHop s.activeImage p

/-- A scheduled or Hold flit has come (R222, R242, R243, R330): discarded in the fail-safe state, EARLY_FLIT on an
entry that is unused or of another port or before its time, else held for its due tick. A port that carries the service plane
only takes none (R204, R240), and the port holds 1,024 (log 65). -/
def State.schedIn (s : State) (p : Nat) (hold : Bool) (hdr : Nat) (payload : List Byte) : State :=
  let r := bitsOf hdr 73 12
  let e := s.route r
  let tick := sendTickOf s.gst (bitsOf hdr 85 11)
  if s.rget KL_PORT_STATUS.SCHED p = 0 then s.portCount p 8
  else
  let s := s.chargeAt (regionOfPort p) (s.gst - s.frame.start) 8000
  if s.failSafe then s.portCount p 8
  else if e.kind = 0 ∨ e.inPort ≠ p ∨ s.ringMode = true ∨ s.gst + 8 < tick + s.fixedCur p then s.portFault p 0x05 r
  else
    let x := s.port p
    let f : HeldFlit := { route := r, hold := hold, sendTick := tick, due := Nat.max s.gst (tick + s.hopBudget p),
                          cpool := bitsOf hdr 61 4, cn := bitsOf hdr 65 8, payload := payload }
    if x.held.length ≥ 1024 then s else s.setPort p { x with held := x.held ++ [f] }

/-! ### Encryption (R228, R229, R343) -/

/-- A flit's SEQ with the wraps counted. -/
def State.rxExtOf (s : State) (p seq : Nat) : Nat := (s.port p).rxExt + s.rxDistance p seq

/-- A new KEYID is seen (R343): the next generation is in use, and the one after it fills the vacated slot. -/
def State.seeKey (s : State) (p seq keyId : Nat) : State :=
  let x := s.port p
  if keyId = x.rxKeyId ∨ s.rxExtOf p seq < x.rxBase then s
  else s.setPort p { x with rxKeyId := keyId, rxGen := x.rxGenNext, rxGenNext := x.rxGen + 2, rxBaseOld := x.rxBase,
                            rxBase := s.rxExtOf p seq }

/-- The plaintext of an encrypted flit (R228); none where its tag fails. -/
def State.openFlit (s : State) (p : Nat) (raw : List Byte) : Option (List Byte) :=
  let x := s.port p
  let hdr := leAt raw 0 12
  let seq := bitsOf hdr 8 16
  let old := decide (bitsOf hdr 60 1 ≠ x.rxKeyId)
  let gen := if old then x.rxGen - 1 else x.rxGen
  let count := s.rxExtOf p seq - (if old then x.rxBaseOld else x.rxBase)
  let (key, iv) := keyAndIv (linkKeyBytes (x.key.getD 0) (s.rget KL_PORT_STATUS.PEER_ID p)
    (s.rget KL_PORT_STATUS.PEER_PORT p) s.ownId gen) count
  gcmOpen key iv (bytesOf (hdr - bitsOf hdr 24 36 * 2 ^ 24) 12) ((raw.drop 12).take 224) ((raw.drop 236).take 16)

/-- A tag fails (R229): the flit is discarded and counted; the fourth failure of one SEQ takes the link down and notifies the
Ranger. -/
def State.authFail (s : State) (p seq : Nat) : State :=
  let s := (s.portCount p 6).event KL_EVENT.AUTH_FAIL p
  let x := s.port p
  let n := Assoc.get 0 x.tagFails seq + 1
  let s := s.setPort p { x with tagFails := Assoc.put 0 x.tagFails seq n }
  if n ≥ 4 then { s.linkDown p 7 with rgr := { (s.linkDown p 7).rgr with authNotices := s.rgr.authNotices ++ [p] } } else s.noteGap p ((seq + 1) % 65536)

/-! ### FLIT (R216 to R219) -/

/-- The requests of an arriving flit (R219): each SEQ that the buffer holds is queued once. -/
def State.takeNaks (s : State) (p nak nmask : Nat) : State :=
  let x := s.port p
  let have' (q : Nat) : Bool := (Assoc.find x.replay q).isSome || (Assoc.find x.spilled q).isSome
  let asked := ((List.range 4).filter fun i => nmask.testBit i).map fun i => (nak + i) % 65536
  let new := asked.filter fun q => have' q && !(x.resend.any fun e => e.1 = q)
  s.setPort p { x with resend := x.resend ++ new.map fun q => (q, s.gst) }

/-- A flit that is accepted (R218): its SEQ has come, and its payload is delivered or held. -/
def State.acceptFlit (s : State) (p type seq hdr : Nat) (plain : List Byte) (escape : Bool) : State :=
  let s := s.noteGap p seq
  let x := s.port p
  let x := { x with seen := x.seen ++ [seq], naks := x.naks.filter (fun n => n.seq ≠ seq),
                    tagFails := Assoc.erase x.tagFails seq,
                    svcHeld := if type = 3 then Assoc.insert x.svcHeld seq (bytesOf hdr 12 ++ plain, escape) else x.svcHeld }
  let s := s.setPort p x
  let s := if type = 3 then s else s.schedIn p (decide (type = 2)) hdr plain
  s.rxAdvance p

/-- A sequenced flit (R218, R228, R229). -/
def State.sequencedIn (s : State) (p : Nat) (raw : List Byte) (escape : Bool) : State :=
  let hdr := leAt raw 0 12
  let seq := bitsOf hdr 8 16
  let type := bitsOf hdr 0 8
  if ¬ s.rxAccepts p seq then s.portCount p 5
  else if s.rget KL_PORT_STATUS.ENC p = 1 then
    let s := s.seeKey p seq (bitsOf hdr 60 1)
    match s.openFlit p raw with
    | some plain => s.acceptFlit p type seq hdr plain escape
    | none => s.authFail p seq
  else s.acceptFlit p type seq hdr ((raw.drop 12).take 240) escape

/-- A flit that arrives (R216 to R219), in the buffer that its sender chose (R247): one with a bad CRC or an invalid TYPE is counted, and no field of it used. -/
def State.flitIn (s : State) (p : Nat) (raw : List Byte) (escape : Bool) : State :=
  let hdr := leAt raw 0 12
  let type := bitsOf hdr 0 8
  if raw.length ≠ 256 ∨ crc32c (raw.take 252) ≠ leAt raw 252 4 ∨ type = 0 ∨ type > 4 then s.portCount p 2
  else
    let s := (s.takeAck p (bitsOf hdr 24 16)).takeNaks p (bitsOf hdr 40 16) (bitsOf hdr 56 4)
    if type = 4 then s.noteGap p (bitsOf hdr 8 16) else s.sequencedIn p raw escape

/-- The codewords since the last flit that the RS decoder corrected, and those that it could not (R223, R236). -/
def State.countCodewords (s : State) (p corrected bad : Nat) : State :=
  let x := s.port p
  s.setPort p { x with live := Assoc.put 0 (Assoc.put 0 x.live 0 (Assoc.get 0 x.live 0 + corrected)) 1 (Assoc.get 0 x.live 1 + bad) }

/-- FLIT (R218): a decoded flit, the buffer that its packet's sender chose, which no header bit carries (log 66), and the
codewords corrected and not corrected since the last. -/
def execFlit (p : Nat) (raw : List Byte) (escape : Bool) (corrected bad : Nat) (s : State) : Result :=
  onUnit s (decide (p < 18)) (
    if s.portUp p then
      let s := s.countCodewords p corrected bad
      let s := if s.frame.phase = .inFrame then s.advance (Nat.min s.frameLen s.ftick) else s
      s.flitIn p raw escape
    else s)

/-- NAK_REPEAT (R219): RTT + 272 ticks after its last request a missing SEQ is requested again; the sixteenth request
takes the link down with cause 3. -/
def execNakRepeat (p seq : Nat) (s : State) : Result :=
  onUnit s (decide (p < 18)) (
    let x := s.port p
    match x.naks.find? fun n => decide (n.seq = seq) && n.due.isNone with
    | some n =>
      if s.gst < n.last + s.rget KL_PORT_DELAY.RTT p + 272 then s
      else if n.count + 1 ≥ 16 then s.linkDown p 3
      else s.setPort p { x with naks := x.naks.map fun m => if m.seq = seq then { m with due := some s.gst, count := m.count + 1 } else m }
    | none => s)

/-! ### Release: forwards (R222, R243) -/

/-- The first slot of a mask at or after `t` that no forward of a list has taken. -/
def freeSlot (mask : Nat) (taken : List Nat) (t : Nat) : Nat → Nat
  | 0 => nextSlot mask t
  | n + 1 =>
    let slot := nextSlot mask t
    if taken.contains slot then freeSlot mask taken (slot + 4) n else slot

/-- A released flit waits for its slot on the leaving port (R243); whether that port is UP shows when it is due to leave. -/
def State.forwardFlit (s : State) (r : Nat) (e : Route) (f : HeldFlit) (t : Nat) : State :=
  let x := s.port e.outPort
  let slot := freeSlot e.posMask (x.forwards.map fun g => g.2.due) (t + 4) x.forwards.length
  s.setPort e.outPort { x with forwards := x.forwards ++ [(r, { f with due := slot })] }

/-! ### Release: sinks (R90, R243, R286) -/

/-- The line accesses of flit `i` at a sink, one a tick from the tick after the release (R243): with its bytes, or with
byte enables off. -/
def State.sinkLines (s : State) (c r : Nat) (y : RecvSt) (i : Nat) (payload : Option (List Byte)) (t : Nat) : State × Nat :=
  let first := y.cap * i
  let lines := linesOf first y.cap
  let s := (List.range lines.length).foldl (fun s n =>
    let l := lines.getD n 0
    let lo := Nat.max first (64 * l)
    let hi := Nat.min (first + y.cap) (64 * l + 64)
    let acc : BankAccess := { cls := 4, issued := y.issue, unit := r, kind := 1, line := y.line + l, pc := y.pc }
    s.pendWrite c { tick := t + 1 + n, acc := acc, addr := 64 * y.line + lo,
                    bytes := (match payload with
                      | some bs => (bs.drop (lo - first)).take (hi - lo)
                      | none => []) }) s
  (s, t + lines.length)

/-- A RECV's state after a flit; its end and its DONE come with the last line of the last flit (R90). -/
def State.recvDone (s : State) (c r : Nat) (y : RecvSt) (complete : Bool) (last : Nat) : State :=
  let y := if complete then { y with busyUntil := some last } else y
  let k := s.core c
  let s := s.setCore c { k with recvs := Assoc.put none k.recvs r (some y) }
  if complete && !y.bubble then s.push c last (.tokenAdd 4 0xFFFFFFFF y.done 1) else s

/-- The credits of a flit go to the receiving core's pool at the release tick (R243). -/
def State.sinkCredits (s : State) (c : Nat) (f : HeldFlit) (t : Nat) : State :=
  if f.cn = 0 then s else s.push c t (.creditAdd f.cpool f.cn)

/-- A flit at the sink of one RECV (R243). -/
def State.sinkPlain (s : State) (p c r : Nat) (y : RecvSt) (f : HeldFlit) (t : Nat) : State :=
  let s := if f.hold then s.portFault p 0x07 r else s
  let (s, last) := s.sinkLines c r y y.next (if f.hold || y.bubble then none else some f.payload) t
  let s := if f.hold || y.bubble then s else s.sinkCredits c f t
  s.recvDone c r { y with next := y.next + 1 } (decide (y.next + 1 ≥ y.count)) last

/-- Neither copy of flit `i` of a twin is valid (R286): HOLD_RECEIVED if either was a Hold flit, else LATE_FLIT. -/
def State.twinBad (s : State) (c r : Nat) (y : RecvSt) (i cause : Nat) : State × RecvSt :=
  let before := y.bad.find? fun b => decide (b.1 = i)
  let s := match before with
    | some (_, other) => if y.got.contains i then s else
        s.coreFault c 4 0xFFFFFFFF (if cause = 0x07 ∨ other = 0x07 then 0x07 else 0x06) 0xFFFF r (Nat.max s.frame.now s.ftick)
    | none => s
  (s, { y with bad := y.bad ++ [(i, cause)] })

/-- One copy at a twin sink (R286): the first that is neither Hold nor late is written; the other keeps its accesses. -/
def State.sinkTwin (s : State) (p c r base : Nat) (y : RecvSt) (f : HeldFlit) (late : Bool) (t : Nat) : State :=
  let i := if r = base then y.next else y.nextTwin
  let y := if r = base then { y with next := i + 1 } else { y with nextTwin := i + 1 }
  let bad := f.hold || late
  let write := !bad && !y.got.contains i && !y.bubble
  let (s, last) := s.sinkLines c r y i (if write then some f.payload else none) t
  let s := if write then s.sinkCredits c f t else s
  if bad then
    let (s, y) := (s.portCount p 9).twinBad c r y i (if f.hold then 0x07 else 0x06)
    s.recvDone c base y false last
  else
    let fresh := !y.got.contains i
    let y := if fresh then { y with got := y.got ++ [i] } else y
    s.recvDone c base y (fresh && decide (y.got.length ≥ y.count)) last

/-! ### Release: remote reads (R175) -/

/-- The remote channel of a core that a reply flit serves: the oldest that still waits (log 15). -/
def Core.remoteChannel (k : Core) : Option (Nat × DmaCh) :=
  (k.dma.filter fun e => e.2.src.remote && decide (e.2.landed < e.2.total)).foldl (fun best e =>
    match best with
    | none => some e
    | some b => if e.2.issued < b.2.issued then some e else best) none

/-- A reply flit's bytes land in the channel's destination at its receive tick (R175). -/
def State.replyFlit (s : State) (p c r ch : Nat) (d : DmaCh) (f : HeldFlit) (t : Nat) : State :=
  let s := if f.hold then s.portFault p 0x07 r else s
  let bs := d.part ++ f.payload.take (s.flitCap p)
  let n := Nat.min (bs.length / d.size) (d.total - d.landed)
  let s := (List.range n).foldl (fun s i =>
    let a := d.dst.byteAt ((d.landed + i) * d.size) % 2 ^ 22
    let acc : BankAccess := { cls := 3, issued := d.issued, unit := dmaUnit c ch, kind := 2, line := a / 64, pc := d.pc }
    s.pendWrite c { tick := t, addr := a, acc := acc, bytes := if f.hold || d.bubble then [] else (bs.drop (i * d.size)).take d.size }) s
  let k := s.core c
  let d := { d with landed := d.landed + n, part := bs.drop (n * d.size), lastLand := t }
  let s := s.setCore c (k.setChannel ch d)
  if d.landed ≥ d.total ∧ d.bubble = false ∧ f.hold = false then s.push c t (.tokenAdd 3 d.pc d.done 1) else s

/-- A RECV whose flits have all come gives its place to the one that waits behind it (R382). -/
def Core.nextRecv (k : Core) (r : Nat) : Core :=
  match k.receiving r with
  | some y =>
    if y.busyUntil.isNone then k
    else match (List.range k.recvs.length).find? fun n => (k.receiving (laterRecv r n)).isSome with
      | some n => { k with recvs := Assoc.put none (Assoc.put none k.recvs r (k.receiving (laterRecv r n))) (laterRecv r n) none }
      | none => k
  | none => k

/-- Some RECV of a core's stream in the active variant names a route (R87). -/
def State.recvNames (s : State) (c r : Nat) : Bool :=
  ((stream s.activeImage c 4).getD []).any fun w => match (decodeIsa w).map (·.op) with
    | some (Isa.recv route _ _ _) => decide (s.recvBase route.toNat = s.recvBase r)
    | _ => false

/-- The remote read that a flit on a route replies to (R175): only a SINK that no RECV of its core names carries replies, and a
RECV route without an armed RECV is early (R90; log 15). -/
def State.replyChannel (s : State) (r : Nat) (e : Route) : Option (Nat × DmaCh) :=
  if e.kind = 3 ∧ s.recvNames e.lcore r = false then (s.core e.lcore).remoteChannel else none

/-- A SINK's or a TEE's flit (R70, R90, R243): without an armed RECV, and without a remote read that it replies to, it is
early. -/
def State.sinkFlit (s : State) (p r : Nat) (e : Route) (f : HeldFlit) (late : Bool) (t : Nat) : State :=
  let c := e.lcore
  let base := s.recvBase r
  let k := (s.core c).nextRecv base
  let s := s.setCore c k
  match k.receiving base with
  | some y =>
    if y.twin then
      (if (if r = base then y.next else y.nextTwin) ≥ y.count then s.portFault p 0x05 r else s.sinkTwin p c r base y f late t)
    else if y.next ≥ y.count then s.portFault p 0x05 r
    else s.sinkPlain p c r y f t
  | none =>
    match s.replyChannel r e with
    | some (ch, d) => s.replyFlit p c r ch d f t
    | none => s.portFault p 0x05 r

/-- The granules of a served context-virtual side, each once, by their first offsets in the stream's order (R164). -/
def DmaSide.granules (x : DmaSide) : List Nat :=
  ((List.range x.count).flatMap fun i =>
    let a := x.line i
    (List.range ((a + x.len - 1) / granule - a / granule + 1)).map fun k => Nat.max a ((a / granule + k) * granule)).foldl
      (fun acc a => if acc.any fun b => decide (b / granule = a / granule) then acc else acc ++ [a]) []

/-- The walks of a request (R157, R164, R175): each granule's burst is charged and counted at the request's tick, and the first
refusal is the request's. -/
def State.serveWalks (s : State) (p : Nat) (x : DmaSide) (t : Nat) : Option (Nat × Nat) × State :=
  if ¬ (x.xlate ∧ ptValid x.pt) then (none, s)
  else x.granules.foldl (fun (a : Option (Nat × Nat) × State) v =>
    if a.1.isSome then a
    else if ¬ ptIndexOk x.pt v then (some (0x0F, v % 2 ^ 32), a.2)
    else
      let e := ptEntryAt x.pt v
      let s := a.2.chargeAt (regionOfStack (stackOf e)) t 1536
      let (excess, s) := s.arrive (s.frame.start + t) (s.burstBudgets e 1 ++ s.serveBridge p (e / dieBytes) 64)
      match excess with
      | some n => (some (0x1A, budgetDetail n e), s)
      | none =>
        let s := if s.mem.badBursts.contains (e / 64) then s.foundUe (e / 64) true else s
        match s.servePlace x v with
        | .inr f => (some f, s)
        | .inl _ => (none, s)) (none, s)

/-- A remote read's request at a SERVE entry (R164, R172, R175): it is checked, and its reply starts in the first slot
of the REPLY entry 8 ticks on; a refused one is logged in the requester's name and answered with Hold flits. -/
def State.serveFlit (s : State) (p r : Nat) (e : Route) (f : HeldFlit) (t : Nat) : State :=
  let bs := f.payload
  let w0 := leAt bs 0 8
  let w1 := leAt bs 8 8
  let side : DmaSide := { base := bitsOf w0 0 48, space := bitsOf w0 48 2, xlate := bitAt w0 58, len := orFull (bitsOf w1 0 16) 65536,
                          count := orFull (bitsOf w1 16 16) 65536, stride := bitsOf w1 32 24, pt := leAt bs 16 8 }
  let bad : Option (Nat × Nat) :=
    if side.space > 1 ∨ (side.xlate = true ∧ side.space ≠ 0) then some (0x0F, 2 ^ 28 + side.base % 2 ^ 28)
    else (s.badLine side).map fun l => (0x0F, 4 * 2 ^ 28 + l % 2 ^ 28)
  let (bad, s) := if f.hold ∨ bad.isSome = true then (bad, s) else s.serveWalks p side t
  let origin := leAt bs 32 2 % 2 ^ 14
  let reply := s.route e.reply
  let serve : ServeSt := { side := side, total := side.size, slot := nextSlot reply.posMask (s.frame.start + t + 8),
                           refused := f.hold || bad.isSome, origin := origin }
  let s := match bad with
    | some (cause, detail) =>
      if f.hold then s
      else s.raiseFault { cause := cause, region := regionCode (regionOfPort p), unit := r, detail := detail, flags := 2,
                          origin := origin } t
    | none => s
  let s := if f.hold then s.portFault p 0x07 r else s
  { s with mem := { s.mem with serves := Assoc.put none s.mem.serves e.reply (some serve) } }

/-- A held flit is released to its route at tick t of the frame (R59, R70, R222, R243). -/
def State.releaseFlit (s : State) (p : Nat) (f : HeldFlit) (t : Nat) : State :=
  let r := f.route
  let e := s.route r
  let late := decide (f.due > f.sendTick + s.hopBudget p + 8) && !s.ringMode
  let s := if late && !e.twin then s.portFault p 0x06 r else s
  let s := if (e.kind = 2 ∨ e.kind = 4) ∧ s.ringMode = false then s.forwardFlit r e f f.due else s
  if e.sinks then s.sinkFlit p r e f late t
  else if e.kind = 5 then s.serveFlit p r e f t
  else s

/-- The flit that a port releases next: the one with the earliest due tick. -/
def Port.nextRelease (x : Port) : Option HeldFlit :=
  x.held.foldl (fun best f =>
    match best with
    | none => some f
    | some b => if f.due < b.due then some f else best) none

/-- Outside a frame a Hold flit does nothing, and another has come to no armed route (R70). -/
def State.releaseIdle (s : State) (p : Nat) (f : HeldFlit) : State :=
  if f.hold then s else s.portFault p 0x05 f.route

/-- FLIT_RELEASE (R222): the port's next held flit, once its due tick has come. -/
def execFlitRelease (p : Nat) (s : State) : Result :=
  onUnit s (decide (p < 18)) (
    let x := s.port p
    match x.nextRelease with
    | some f =>
      if f.due ≤ s.gst then
        let s := s.setPort p { x with held := x.held.erase f }
        if s.slotInFrame f.due then
          let t := f.due - s.frame.start
          (s.advance t).releaseFlit p f t
        else s.releaseIdle p f
      else s
    | none => s)

/-- LATE_FLIT (R70, R286): a scheduled flit has not come by 8 ticks after its receive tick. On a twin it counts as one
copy that is not valid. -/
def execLateFlit (p route : Nat) (s : State) : Result :=
  onUnit s (decide (p < 18)) (
    let e := s.route route
    if s.frame.phase = .inFrame ∧ e.kind ≥ 2 ∧ e.inPort = p then
      let s := s.advance (Nat.min s.frameLen s.ftick)
      if e.twin then
        let base := s.recvBase route
        match (s.core e.lcore).receiving base with
        | some y =>
          let i := if route = base then y.next else y.nextTwin
          let y := if route = base then { y with next := i + 1 } else { y with nextTwin := i + 1 }
          let (s, y) := s.twinBad e.lcore route y i 0x06
          s.recvDone e.lcore base y false 0
        | none => s
      else s.portFault p 0x06 route
    else s)

end Sys2Proof.Machine
end

