-- ==== Sys2Proof/Machine/Power.lean ====
section
/-! DEFINITION. Power (spec/15): device states and wake causes (R310 to R316), the sleeps of a profile (R319 to R321),
the measured clamps (R322 to R324, R334, R373) and the rails (R344, R345). -/
namespace Sys2Proof.Machine

/-! ### POWER_SET and wake causes (R311, R314, R316) -/

/-- An entry of device states is in progress. -/
def State.entering (s : State) : Bool := decide (s.rget PWR_STATE.MOVING = 1) && !s.pwr.exiting

/-- A wake sequence begins: it exits from the deepest state reached (R313, R316). -/
def State.startExit (s : State) : State :=
  let d := s.rget PWR_STATE.DSTATE
  let s := { s with pwr := { s.pwr with exiting := true, waking := false } }
  let s := ((s.rset0 PWR_STATE.TARGET 0).rset0 PWR_STATE.MOVING 1).rset0 PWR_WAKE.FROM d
  if d ≥ 2 then s.rset0 RGR_STATUS.PWR_REQ 1 else s

/-- Cause `bit` joins the wake sequence in progress. -/
def State.addCause (s : State) (bit : Nat) : State :=
  s.event PWR_WAKE.CAUSES 0 (2 ^ bit)

/-- Cause `bit` is the first of a wake sequence. -/
def State.firstCause (s : State) (bit : Nat) : State := (s.rset0 PWR_WAKE.CAUSES 0).event PWR_WAKE.CAUSES 0 (2 ^ bit)

/-- A wake cause (R314, R316). In D0 with no entry in progress it has no effect here. -/
def State.wakeCause (s : State) (bit : Nat) : State :=
  if s.failSafe then s
  else if s.pwr.exiting ∨ s.pwr.waking then s.addCause bit
  else if s.entering then
    let s := s.firstCause bit
    if s.pwr.committed then { s with pwr := { s.pwr with waking := true } }
    else
      let s := (s.event PWR_EVENT.ENTRY_ABORTED).startExit
      { s with pwr := { s.pwr with abandoned := true } }
  else if s.rget PWR_STATE.DSTATE = 0 then s
  else (s.firstCause bit).startExit

/-- A step of an entry begins (R312): that from D3 to D4 is committed at once. -/
def State.beginStep (s : State) (next : Nat) : State :=
  { s with pwr := { s.pwr with step := next, committed := decide (next = 4) } }

/-- POWER_SET's cases (R311, R316). -/
def State.powerSet (s : State) (h : HostCmd) : State × CmdEnd :=
  let t := h.a0
  let d := s.rget PWR_STATE.DSTATE
  let moving := decide (s.rget PWR_STATE.MOVING = 1)
  if t ≥ 5 then (s, .done 0x03 0 0 0)
  else if t = 0 then
    if d = 0 ∧ moving = false then (s, .done 0 0 0 0)
    else
      let s := s.wakeCause 0
      ({ s with pwr := { s.pwr with waiters := s.pwr.waiters ++ [h] } }, .later)
  else if moving then (s, .done 0x01 0 0 0)
  else if t = d then (s, .done 0 0 d 0)
  else if t < d then (s, .done 0x03 0 0 0)
  else if s.running then (s, .done 0x01 0 0 0)
  else if t ≥ 2 ∧ s.rget ROLL_STATUS.STATE ≠ 3 then (s, .done 0x04 0 0 0)
  else if s.rget PWR_WAKE.PEND = 1 then (s, .done 0x11 0 d 0)
  else
    let s := (s.rset0 PWR_STATE.TARGET t).rset0 PWR_STATE.MOVING 1
    let s := s.beginStep (d + 1)
    ({ s with pwr := { s.pwr with exiting := false, abandoned := false, waking := false, entryCmd := some h } }, .later)

/-- POWER_SET (R311). -/
def execPowerSet (h : HostCmd) (s : State) : Result :=
  .next (s.runCmd h cmdPowerSet (.powerSet h) fun s => s.powerSet h)

/-- COMMIT_POINT (R312): 100 µs into the step from D2 to D3. -/
def execCommitPoint (s : State) : Result :=
  .next (if s.entering ∧ s.pwr.step = 3 then { s with pwr := { s.pwr with committed := true } } else s)

/-- HOST_PM (R314): wakes from D1 to D3. -/
def execHostPm (s : State) : Result := .next (if s.rget PWR_STATE.DSTATE ≤ 3 then s.wakeCause 1 else s)

/-- TIMER_WAKE (R314): wakes from D1 to D4 while TIMER_S is not 0. -/
def execTimerWake (s : State) : Result := .next (if s.rget PWR_WAKE_CFG.TIMER_S ≠ 0 then s.wakeCause 5 else s)

/-! ### What a sleep state loses (R310) -/

/-- Register offsets whose values a device in D3 or D4 keeps: the identity, power, host and Ranger blocks. -/
def keptOffset (off : Nat) : Bool :=
  decide (off < 0x10000) || (decide (0x20000 ≤ off) && decide (off < 0x40000)) ||
    (decide (0x340000 ≤ off) && decide (off < 0x380000)) || (decide (0x500000 ≤ off) && decide (off < 0x600000)) ||
    (decide (0x700000 ≤ off) && decide (off < 0x800000))

/-- A listed register survives: those of the kept blocks, and the key epoch that R310 lets go on counting. -/
def keptKey (key : Nat) : Bool := keptOffset (key / 64) || decide (key = MEM_CRYPT.KEY_EPOCH.key 0)

/-- A port goes down for a sleep (R310): its packets are flushed, and it stays DOWN until the exit. -/
def State.sleepPort (s : State) (p : Nat) : State :=
  let st := s.rget KL_PORT_STATUS.STATE p
  let s := if st = 7 then s.leaveUp p else s
  let s := (s.flushPort p).clearStatus p
  if st = 9 then s else s.rset KL_PORT_STATUS.STATE p 0

/-- D3 loses everything but the device ID, the core map and the Ranger's record (R310, log 25): memory,
scratchpads, variants, contexts, trails and the units' registers. -/
def State.loseUnits (s : State) : State :=
  let s := (s.flushWaits 0x0D).dropLoads fun _ => true
  let clk : Clk := { gst := s.gst, xings := s.clk.xings }
  { s with regs := s.regs.filter fun e => keptKey e.1, clk := clk, plan := {}, cores := [], mem := {}, srv := {}, ports := [],
           fab := {}, roll := {} }

/-- What a device does on reaching a sleep state (R310, R313). -/
def State.reachState (s : State) (n : Nat) : State :=
  let s := match n with
    | 1 => s.allCores 4
    | 2 =>
      let s := (List.range 18).foldl State.sleepPort (s.rset0 CLK_STATUS.LOCKED 0)
      (s.rset PWR_REGION.PSTATE 143 1).rset0 RGR_STATUS.PWR_REQ 0
    | 3 =>
      let s := s.loseUnits
      (s.allCores 5).regionTo 143 4
    | _ => s.closeBypass
  s.rset0 PWR_STATE.DSTATE n

/-- What a device does on reaching D0 from state `from'` (R310, R313). -/
def State.leaveSleep (s : State) (from' : Nat) : State :=
  let wake (s : State) (r : Nat) : State :=
    let s := s.setRegion r { s.region r with tick := s.gst, sleep := none }
    (s.regionTo r 0).rset PWR_REGION.SCHED r 0
  let s := if from' ≥ 3 then { s with clk := { s.clk with acc := 0, frac := 0 } } else s
  let s := if from' = 4 then { s with clk := { s.clk with gst := 0, steerAt := 0 } } else s
  let s := if from' ≥ 3 then s.rinc MEM_CRYPT.KEY_EPOCH 0 else s
  let s := if from' ≥ 1 then coreRegions.foldl wake s else s
  let s := if from' ≥ 2 then wake s 143 else s
  if from' ≥ 2 then
    ((List.range 18).filter fun p => decide (s.rget KL_PORT_STATUS.STATE p = 0) && decide (s.rget KL_PORT_CTRL.ENABLE p = 1)).foldl
      (fun s p => s.bringUp p) s
  else s

/-! ### Sleeps of a profile (R319 to R321) -/

/-- The sleep entries of a region in the active variant. -/
def State.sleepsOf (s : State) (r : Nat) : List Sleep := (s.activeProfile r).sleeps

/-- The state that an entry may put a region to (R321): P5 only while every loaded variant holds it there. -/
def State.sleepState (s : State) (r st : Nat) : Nat :=
  let loaded := (List.range 4).filter fun v => decide (1 ≤ s.rget PLAN_VAR_STATE.STATE v ∧ s.rget PLAN_VAR_STATE.STATE v ≤ 3)
  if st = 5 ∧ (loaded.all fun v => s.holdsP5 v r) = false then 4 else st

/-- SLEEP_START (R320): the region begins the entry whose time has come. -/
def execSleepStart (r : Nat) (s : State) : Result :=
  onUnit s (isCoreRegion r) (
    let t := s.ftick
    match if s.frame.phase = .inFrame then (s.sleepsOf r).find? fun e => decide (e.start ≤ t) && decide (t < e.stop) else none with
    | none => s
    | some e =>
      let st := s.sleepState r e.state
      if (s.region r).sleep = some (e.start, e.stop, st) then s
      else
        let s := s.setRegion r { s.region r with sleep := some (e.start, e.stop, st) }
        (s.regionTo r st).rset PWR_REGION.SCHED r 1)

/-- The exit ticks of a region state at the current tick rate (R317, R319). -/
def State.exitNow (s : State) (st : Nat) : Nat := ceilDiv (exitTicks st * s.clk.rate) 240

/-- SLEEP_EXIT (R320): the region is at P0 by END; one whose drain count never reached 0 stayed at P1. An entry that
goes on in the next frame keeps the region asleep. -/
def execSleepExit (r : Nat) (s : State) : Result :=
  onUnit s (isCoreRegion r) (match (s.region r).sleep with
    | none => s
    | some (_, stop, st) =>
      let past := decide (s.frame.phase ≠ .inFrame)
      let goesOn := decide (stop = s.frameLen) && decide (s.frame.phase ≠ .idle) && (s.sleepsOf r).any fun e => decide (e.start = 0)
      if goesOn || !(past || decide (stop ≤ s.ftick + s.exitNow st)) then s
      else
        let short := decide (s.rget FAB_GATE.STATE r = 1)
        let s := if short then s.event PWR_EVENT.SLEEP_SHORT else s
        let s := s.setRegion r { s.region r with sleep := none, tick := s.gst }
        (s.regionTo r 0).rset PWR_REGION.SCHED r 0)

/-! ### Package power and its clamp (R323, R373) -/

/-- The nominal millivolts of rails 3 to 7 (R373, spec/18's rail table). -/
def nominalMv (k : Nat) : Nat :=
  match k with
  | 3 => 1050
  | 4 => 750
  | 5 => 1800
  | 6 => 850
  | _ => 1200

/-- POWER_SAMPLE (R373): the sum of each current times its rail's voltage, and 1 W for the always-on rails. -/
def execPowerSample (milliAmps : List Nat) (s : State) : Result :=
  .next (
    let part (k : Nat) : Nat := milliAmps.getD k 0 * (if k < 3 then s.rget RGR_AVS.READ_MV k else nominalMv k)
    let mw := ((List.range 8).map part).sum / 1000 + 1000
    { s with pwr := { s.pwr with sumW := s.pwr.sumW + mw, samples := s.pwr.samples + 1 } })

/-- The power clamp takes a value, and every compute region shows it. -/
def State.setPowerClamp (s : State) (mhz : Nat) : State :=
  let s := { s.rset0 PWR_MEASURE.PCLAMP_MHZ mhz with pwr := { s.pwr with clampPend := none } }
  s.showClamps

/-- Clamps and ceilings that wait for voltage on a rail that is ready are released (R345); the power clamp waits for
both core rails. -/
def State.releaseRail (s : State) (die : Nat) : State :=
  let s := (dieCores die).foldl (fun s r =>
    let x := s.region r
    let s := if x.ceilPend.isSome then s.setRegion r { x with ceilReady := true } else s
    match x.thermalPend with
    | some t => (s.setRegion r { s.region r with thermal := t, thermalPend := none }).showClamp r
    | none => s) s
  match s.pwr.clampPend with
  | some m => if s.railReady 0 ∧ s.railReady 1 then s.setPowerClamp m else s
  | none => s

/-- The power clamp is to rise (R323, R345): voltage first. -/
def State.raisePowerClamp (s : State) (mhz : Nat) : State :=
  let s := { s with pwr := { s.pwr with clampPend := some mhz } }
  let rises := decide (s.dieLimit 0 < s.dieNeed 0) || decide (s.dieLimit 1 < s.dieNeed 1)
  let s := (s.setRail 0).setRail 1
  if rises && !(s.railReady 0 && s.railReady 1) then s else s.setPowerClamp mhz

/-- The end of a 100 µs window (R323). -/
def State.powerWindow (s : State) : State :=
  let n := s.pwr.samples
  let sum := s.pwr.sumW
  let avg := sum / (1000 * Nat.max 1 n)
  let allow := s.rget PWR_ALLOW.ALLOW_W
  let idx := s.rget CLK_STATUS.RATE_IDX
  let floor := ceilFloor idx
  let clamp := s.rget PWR_MEASURE.PCLAMP_MHZ
  let base := if clamp = 2047 then defaultCeil idx else clamp
  let heavy := decide (sum > 1000 * n * (allow + s.rget PWR_ALLOW.HARD_W)) && decide (clamp ≤ floor)
  let s := s.rset0 PWR_MEASURE.MEAS_W (Nat.min 2047 avg)
  let s := { s with pwr := { s.pwr with samples := 0, sumW := 0, peak := Nat.max s.pwr.peak (Nat.min 2047 avg),
                                        overMs100 := if heavy then s.pwr.overMs100 + 1 else 0 } }
  if sum > 1000 * n * allow then
    let new := Nat.max floor (base - 18)
    let s := if clamp = 2047 then s.event PWR_EVENT.CLAMP_ON else s
    let s := if new = floor then s.event PWR_EVENT.CLAMP_FLOOR else s
    ((s.setPowerClamp new).setRail 0).setRail 1
  else if sum < 1000 * n * (allow - 25) ∧ clamp ≠ 2047 then
    let up := s.pwr.clampPend.getD clamp + 18
    s.raisePowerClamp (if up ≥ defaultCeil idx then 2047 else up)
  else s

/-- POWER_WINDOW (R323): a window of 100 µs has ten samples. -/
def execPowerWindow (s : State) : Result := .next (if s.pwr.samples < 10 then s else s.powerWindow)

/-- OVER_POWER (R323): ten windows in a row above the allowance and its margin with the clamp at its floor. -/
def execOverPower (s : State) : Result := .next (if s.pwr.overMs100 ≥ 10 then s.enterFailSafe 0x41 511 else s)

/-! ### Temperature (R324, R334) -/

/-- MAX_C and MAX_REGION show the hottest region (R325). -/
def State.showHottest (s : State) : State :=
  let best := (List.range 288).foldl (fun (b : Nat × Nat) r =>
    let t := s.rget PWR_REGION.TEMP_C r
    if t > b.1 then (t, r) else b) (0, 0)
  (s.rset0 PWR_THERM.MAX_C best.1).rset0 PWR_THERM.MAX_REGION best.2

/-- The thermal clamp of a hot region falls (R324). -/
def State.thermalDown (s : State) (r : Nat) : State :=
  let x := s.region r
  let base := if x.thermal = 2047 then defaultCeil (s.rget CLK_STATUS.RATE_IDX) else x.thermal
  let s := s.setRegion r { x with thermal := Nat.max 900 (base - 18), thermalPend := none }
  let s := s.showClamp r
  if isCoreRegion r then s.setRail (dieOf r) else s

/-- The thermal clamp of a region that has cooled rises (R324), voltage first where f rises (R345). -/
def State.thermalUp (s : State) (r : Nat) : State :=
  let x := s.region r
  if x.thermal = 2047 then s
  else
    let up := x.thermalPend.getD x.thermal + 18
    let new := if up ≥ defaultCeil (s.rget CLK_STATUS.RATE_IDX) then 2047 else up
    let s := s.setRegion r { x with thermalPend := some new }
    let rises := isCoreRegion r && decide (s.dieLimit (dieOf r) < s.limitSoon r)
    let s := if isCoreRegion r then s.setRail (dieOf r) else s
    if rises && !s.railReady (dieOf r) then s
    else (s.setRegion r { s.region r with thermal := new, thermalPend := none }).showClamp r

/-- A region's temperature of a 100 µs period (R324, R334). -/
def State.thermal (s : State) (r tempC : Nat) : State :=
  let hot := s.rget PWR_THERM.HOT_C
  let was := s.rget PWR_REGION.TEMP_C r
  let s := (s.rset PWR_REGION.TEMP_C r (Nat.min 255 tempC)).showHottest
  let s := if isCoreRegion r || decide (r % 144 < 136) || decide (r % 144 > 138) || decide (tempC ≤ 85) then s
    else
      let k := 6 * (r / 144) + 2 * (r % 144 - 136)
      { s with mem := { s.mem with hot := ([k, k + 1].filter fun x => !s.mem.hot.contains x) ++ s.mem.hot } }
  let s := if tempC ≥ hot then
      let s := s.event PWR_EVENT.THERM_HOT
      let s := if was < hot then s.emit (.ibi 0x02) else s
      s.thermalDown r
    else if tempC + 5 ≤ hot then s.thermalUp r
    else s
  let s := if tempC ≥ s.rget PWR_THERM.CRIT_C then s.enterFailSafe 0x40 r else s
  let counts := s.failSafe && decide (s.rget RGR_FS.CAUSE = 0x40) && decide (tempC ≥ s.rget PWR_THERM.CRIT_C)
  s.setRegion r { s.region r with critMs := if counts then (s.region r).critMs + 1 else 0 }

/-- THERMAL_CLAMP (R324): a region's temperature of the last 100 µs. -/
def execThermalClamp (r tempC : Nat) (s : State) : Result :=
  onUnit s (decide (r < 288)) (s.thermal r tempC)

/-- Every domain but the always-on domain goes off (R334). -/
def State.thermalOff (s : State) : State :=
  let s := (List.range 18).foldl (fun s p => s.sleepPort p) s
  let s := (s.loseUnits).allCores 5
  { s with rgr := { s.rgr with powerOff := true } }

/-- THERMAL_SHUTDOWN (R334): a region has been at CRIT_C for 10 ms after entry for OVER_TEMP. -/
def execThermalShutdown (s : State) : Result :=
  .next (
    if s.failSafe && decide (s.rget RGR_FS.CAUSE = 0x40) && (List.range 288).any fun r => decide ((s.region r).critMs ≥ 100) then
      s.thermalOff
    else s)

/-! ### Rails (R344, R345) -/

/-- AVSBUS_READBACK (R344): three transactions in a row without a valid response, or two readbacks in a row more than
25 mV below target, raise SUPPLY. -/
def execAvsbusReadback (rail : Nat) (valid : Bool) (mv amps : Nat) (s : State) : Result :=
  onUnit s (decide (rail < 3)) (
    if valid then
      let s := ((s.rset RGR_AVS.READ_MV rail mv).rset RGR_AVS.READ_A rail amps).rset RGR_AVS.ERR rail 0
      let n := if s.rget RGR_AVS.READ_MV rail + 25 < s.rget RGR_AVS.TARGET_MV rail then Assoc.get 0 s.rgr.avsLow rail + 1 else 0
      let s := { s with rgr := { s.rgr with avsMiss := Assoc.put 0 s.rgr.avsMiss rail 0, avsLow := Assoc.put 0 s.rgr.avsLow rail n } }
      if n ≥ 2 then s.enterFailSafe 0x43 511 else s
    else
      let n := Assoc.get 0 s.rgr.avsMiss rail + 1
      let s := s.rset RGR_AVS.ERR rail 1
      let s := { s with rgr := { s.rgr with avsMiss := Assoc.put 0 s.rgr.avsMiss rail n } }
      if n ≥ 3 then s.enterFailSafe 0x43 511 else s)

/-- CEILING_RELEASE (R345): the readback is within 10 mV of a raised target. -/
def execCeilingRelease (rail : Nat) (s : State) : Result :=
  onUnit s (decide (rail < 2)) (if s.railReady rail then s.releaseRail rail else s)

end Sys2Proof.Machine
end

