-- ==== Sys2Proof/Machine/Control.lean ====
section
/-! DEFINITION. Control, token and service-class instructions (spec/04): NOP, END, LOOP, BRB, JOIN, SIG, WAIT,
BAR, BRU, LCALL, the library routines, SVC_RUN and the service windows. -/
namespace Sys2Proof.Machine

/-- An instruction without an effect of its own. -/
def noEffect : State → Nat → State := fun s _ => s

/-- NOP: the plan's takes its gap (R79); the host's completes at once (R297). -/
def execNop (k : NopKind) (s : State) : Result :=
  match k with
  | .plan x => onCore s x (if x.svc then s.svcStep x fun k => (k, none) else s.issue x noEffect)
  | .host h => .next (s.runCmd h cmdNop (.nop (.host h)) fun s => (s, .done 0 0 0 0))

/-- END: the queue issues nothing more in the frame (R80); in service-class code the call completes with the
status of its last routine (R97, R99). -/
def execEndQ (x : Issue) (s : State) : Result :=
  onCore s x (if x.svc then s.svcStep x fun k => (k, some k.svc.status)
    else s.issue x noEffect fun _ q _ => { q with done := true })

/-- LOOP (R91). -/
def execLoop (x : Issue) (count body : Nat) (s : State) : Result :=
  onCore s x (s.planOnly x noEffect fun _ q _ => q.loop count body)

/-- BRB (R92): the arm that the condition chooses; arm F in abort mode (R93). -/
def execBrb (x : Issue) (cond : Nat) (ra rb : RegSpec) (alen blen : Nat) (s : State) : Result :=
  onCore s x (s.planOnly x noEffect fun s q t =>
    let k := s.core x.core
    q.branch t alen blen (!(s.abortedAt t) && condHolds cond (k.reg ra) (k.reg rb)))

/-- JOIN's check (R92): a mismatch is a fault as the tick ends, unless the frame runs in abort mode by then (R93). -/
def State.joinAt (s : State) (x : Issue) (ticks sig t : Nat) : State :=
  let q := s.queue x
  match q.branches with
  | [] => s
  | b :: _ =>
    let dt := t - b.tBrb
    let ds := q.sigs - b.sigs0
    if s.abortedAt t ∨ (dt = ticks ∧ ds = sig) then s else s.push x.core t (.unbalanced x.queue q.pc dt ds)

/-- JOIN (R92). -/
def execJoin (x : Issue) (ticks sig : Nat) (s : State) : Result :=
  onCore s x (s.planOnly x (fun s t => s.joinAt x ticks sig t) fun _ q _ => q.join)

/-- SIG: N is added to the token at the end of the tick (R89). -/
def execSig (x : Issue) (token n : Nat) (s : State) : Result :=
  onCore s x (s.planOnly x (fun s t => s.push x.core t (.tokenAdd x.queue (s.queue x).pc token n)) (withSigs n))

/-- WAIT at its issue tick asks for N of its token: the check of the tick, in the queues' order, consumes them or raises
TOKEN_ABSENT (R69, R89). In abort mode it is a bubble. -/
def State.waitAt (s : State) (x : Issue) (token n t : Nat) : State :=
  if s.mutedAt t then s else s.push x.core t (.tokenWait x.queue (s.queue x).pc token n)

/-- WAIT (R69, R89). -/
def execWait (x : Issue) (token n : Nat) (s : State) : Result := onCore s x (s.planOnly x fun s t => s.waitAt x token n t)

/-- BAR at its issue tick asks for 1 of each token: the check of the tick consumes them or raises BARRIER_STALL with the
missing ones (R69, R89). -/
def State.barAt (s : State) (x : Issue) (mask : BitVec 32) (t : Nat) : State :=
  if s.mutedAt t then s else s.push x.core t (.tokenBar x.queue (s.queue x).pc mask.toNat)

/-- BAR (R69, R89). -/
def execBar (x : Issue) (mask : BitVec 32) (s : State) : Result := onCore s x (s.planOnly x fun s t => s.barAt x mask t)

/-- A whole number moved on by a signed offset; none when it leaves 0 to 511. -/
def moveIndex (i : Nat) (off : Int) : Option Nat :=
  let j := (i : Int) + off
  if 0 ≤ j ∧ j < 512 then some j.toNat else none

/-- BRU in service-class code (R87, R98): a target outside the buffer ends the call (log 13). Plan-class code
holds none (R87). -/
def execBru (x : Issue) (cond : Nat) (ra rb : RegSpec) (offset : BitVec 27) (s : State) : Result :=
  onCore s x (if x.svc ∧ s.svcReady x.core = true then
    let k := s.core x.core
    let next := if condHolds cond (k.reg ra) (k.reg rb) then moveIndex k.svc.index offset.toInt else some (k.svc.index + 1)
    match next with
    | some i => s.setCore x.core { k with svc := { k.svc with index := i } }
    | none => s.svcEnd x.core 0x04
  else s)

/-! ### Library routines (R99) -/

/-- Argument s`i` of a call. -/
def Core.arg (k : Core) (i : Nat) : Nat := Assoc.get 0 k.sregs i

/-- The bound of a routine in ticks, from its arguments (R99). -/
def Core.routineBound (k : Core) (r : Nat) : Nat :=
  match r with
  | 0x0001 => 16 + k.arg 2
  | 0x0002 => 16 + 2 * k.arg 3
  | 0x0003 => 64 + 80 * k.arg 2
  | 0x0004 => 16 + k.arg 3
  | 0x0010 => 16
  | _ => Config.libraryBound r ((List.range 7).map fun i => k.arg (i + 1))

/-- The scratchpad arguments of a routine lie in the service area (R98). -/
def Core.routineArgsOk (k : Core) (r : Nat) : Bool :=
  match r with
  | 0x0001 => k.linesInArea (k.arg 1) (k.arg 2)
  | 0x0002 => k.linesInArea (k.arg 1) (k.arg 3) && k.linesInArea (k.arg 2) (k.arg 3)
  | 0x0003 => k.linesInArea (k.arg 1) (k.arg 2) && k.linesInArea (k.arg 3) 1
  | 0x0004 => k.linesInArea (k.arg 1) (k.arg 3) && k.linesInArea (k.arg 2) (k.arg 3)
  | _ => true

/-- LCALL in service-class code (R98, R99): it starts the routine if its bound fits the window, else the call
pauses or ends. Plan-class code holds none (R87). -/
def execLcall (x : Issue) (routine : Nat) (s : State) : Result :=
  onCore s x (if x.svc ∧ s.svcReady x.core = true then
    let k := s.core x.core
    let bound := k.routineBound routine
    if s.routineVersion routine = 0 then s.svcEnd x.core 0x05
    else if ¬ k.routineArgsOk routine then s.svcEnd x.core 0x04
    else
      match s.windowLeft with
      | none => s.setCore x.core { k with svc := { k.svc with waitingCall := some routine } }
      | some left =>
        if s.running ∧ bound > s.frame.gap - s.verdictTicks - 3136 then s.svcEnd x.core 0x05
        else if bound ≤ left then s.setCore x.core { k with svc := { k.svc with waitingCall := some routine } }
        else s.setCore x.core { k with svc := { k.svc with state := 2 } }
  else s)

/-- The lines `a .. a + n - 1` hold no bad word. -/
def Core.linesGood (k : Core) (a n : Nat) : Bool := !(spadBad k (64 * a) (64 * n))

/-- The routines whose effects R99 gives. -/
def givenRoutines : List Nat := [0x0001, 0x0002, 0x0003, 0x0004, 0x0010]

/-- One of those routines' effect: the core after it, with its results in s1 on, and its status. A word with a double-bit error
counts as zeros, and the status is DATA_ERROR (R99, R170). -/
def runRoutine (s : State) (k : Core) (r : Nat) : Core × Nat :=
  let set1 (k : Core) (v : Nat) : Core := { k with sregs := Assoc.put 0 k.sregs 1 (v % 2 ^ 64) }
  match r with
  | 0x0001 =>
    (spadWrite k (64 * k.arg 1) ((List.replicate (8 * k.arg 2) (bytesOf (k.arg 3) 8)).flatten), 0)
  | 0x0002 =>
    (spadWrite k (64 * k.arg 1) (spadBytes k (64 * k.arg 2) (64 * k.arg 3)), if k.linesGood (k.arg 2) (k.arg 3) then 0 else 0x0C)
  | 0x0003 =>
    (spadWrite k (64 * k.arg 3) (sha256 (spadBytes k (64 * k.arg 1) (64 * k.arg 2))),
     if k.linesGood (k.arg 1) (k.arg 2) then 0 else 0x0C)
  | 0x0004 =>
    let diff := (List.range (k.arg 3)).find? fun i => decide (spadLine k (k.arg 1 + i) ≠ spadLine k (k.arg 2 + i))
    (set1 k (diff.getD (k.arg 3)), if k.linesGood (k.arg 1) (k.arg 3) && k.linesGood (k.arg 2) (k.arg 3) then 0 else 0x0C)
  | _ => (set1 k (s.routineVersion (k.arg 1 % 65536)), 0)

/-- LIBRARY_ROUTINE_COMPLETION (R99): a routine of R99's table has its effect; any other resident one leaves the status
and results it is said to leave. -/
def execLibraryRoutineCompletion (core status : Nat) (results : List Nat) (s : State) : Result :=
  onUnit s (decide (core < 256)) (
    let k := s.core core
    match k.svc.waitingCall with
    | none => s
    | some r =>
      let (k, st) := if givenRoutines.contains r then runRoutine s k r
        else ({ k with sregs := Assoc.putRange 0 k.sregs 1 ((results.take 7).map (· % 2 ^ 64)) }, status % 256)
      s.setCore core { k with sregs := Assoc.put 0 k.sregs 0 st,
                              svc := { k.svc with waitingCall := none, status := st, index := k.svc.index + 1 } })

/-! ### Service calls and windows (R97) -/

/-- SVC_RUN (R97, R297): the code goes into the core's service buffer and runs from instruction 0 in the
service windows. -/
def execSvcRun (h : HostCmd) (code : List Word) (s : State) : Result :=
  .next (s.runCmd h cmdSvcRun (.svcRun h code) fun s =>
    let c := h.a0
    if c ≥ 256 ∨ h.a2 = 0 ∨ h.a2 > 512 ∨ ¬ s.coreValid c then (s, .done 0x03 0 0 0)
    else
      let k := s.core c
      if k.svc.state = 1 ∨ k.svc.state = 2 then (s, .done 0x01 0 0 0)
      else
        let v : SvcCall := { code := code.take h.a2, state := if s.inWindow then 1 else 2,
                             base := k.svc.base, count := k.svc.count,
                             results := k.svc.results, cmd := some h }
        (s.setCore c { k with svc := v }, .later))

/-- Every core's service call goes from one state to another. -/
def State.svcAll (s : State) (src dst : Nat) : State :=
  { s with cores := s.cores.map fun e =>
      if e.2.svc.state = src ∧ e.2.svc.waitingCall.isNone then (e.1, { e.2 with svc := { e.2.svc with state := dst } }) else e }

/-- The first window after a library's activation is its trial start (R356). -/
def State.libraryTrial (s : State) : State :=
  if s.rgr.libTrial then ({ s with rgr := { s.rgr with libTrial := false } }).trialStart 3 else s

/-- SERVICE_WINDOW_START (R97, R356): paused service calls resume, once the window is open. -/
def execServiceWindowStart (s : State) : Result := .next (if s.inWindow then (s.svcAll 2 1).libraryTrial else s)

/-- CORE_SVC_AREA takes a value, unless a service call runs or is paused on the core (R101). -/
def State.setSvcArea (s : State) (core value : Nat) : State :=
  let k := s.core core
  if k.svc.state = 1 ∨ k.svc.state = 2 then s
  else s.setCore core { k with svc := { k.svc with base := bitsOf value 0 16, count := bitsOf value 16 16 } }

/-- CORE_SVC_AREA (R100, R101). -/
def execCoreSvcArea (agent : Agent) (core value : Nat) (s : State) : Result :=
  onUnit s (decide (core < 2 * s.lcoresPerDie))
    (s.regWrite agent (0x100200 + 0x1000 * core) fun s => s.setSvcArea core value)

end Sys2Proof.Machine
end

