-- ==== Sys2Proof/Machine/FabRegs.lean ====
section
/-! DEFINITION. The fabric's registers with effects of their own: FAB_ID (R238, R239) and TEL_PUSH (R258). -/
namespace Sys2Proof.Machine

/-- ID assignment (R239): refused while frames run; else the ID and the sizes are taken, and every UP port goes through
a full link reset. -/
def State.assignId (s : State) (id : Nat) : State :=
  if s.running then s.rset0 FAB_ID.RESULT 2
  else
    let s := (s.rset0 IDENT_DOMAIN.DEVICE_ID id).rset0 IDENT_DOMAIN.ID_VALID 1
    let dims := (s.rget FAB_DIMS.XS, s.rget FAB_DIMS.YS, s.rget FAB_DIMS.ZS)
    let s := { s.rset0 FAB_ID.RESULT 1 with fab := { s.fab with dims := dims } }
    ((List.range 18).filter fun p => s.portUp p).foldl (fun s p => s.fullReset p) s

/-- A write of FAB_ID: the field, and with GO the assignment. -/
def State.fabIdWrite (s : State) (id : Nat) (go : Bool) : State :=
  let s := s.rset0 FAB_ID.ID id
  if go then s.assignId (s.rget FAB_ID.ID) else s

/-- FAB_ID (R239). -/
def execFabId (agent : Agent) (value : Nat) (s : State) : Result :=
  .next (s.regWrite agent 0x380000 fun s => s.fabIdWrite (bitsOf value 0 14) (bitAt value 31))

/-- A write of TEL_PUSH (R258): EVERY, and the push armed or disarmed. -/
def State.telPushWrite (s : State) (go every : Bool) : State :=
  (s.rset0 TEL_PUSH.EVERY (if every then 1 else 0)).rset0 TEL_STATUS.ARMED (if go then 1 else 0)

/-- ARM_PUSH (R258): a write with GO = 1. -/
def execArmPush (agent : Agent) (value : Nat) (s : State) : Result :=
  .next (s.regWrite agent 0x900010 fun s => s.telPushWrite true (bitAt value 1))

/-- DISARM_PUSH (R258): a write with GO = 0. -/
def execDisarmPush (agent : Agent) (value : Nat) (s : State) : Result :=
  .next (s.regWrite agent 0x900010 fun s => s.telPushWrite false (bitAt value 1))

/-! ### FAB_DIMS (R238) -/

/-- A size in range takes its place in FAB_DIMS; another is ignored. -/
def State.dimWrite (s : State) (f : Field) (limit v : Nat) : State := if 1 ≤ v ∧ v ≤ limit then s.rset0 f v else s

/-- A write of FAB_DIMS. -/
def State.dimsWrite (s : State) (v : Nat) : State :=
  ((s.dimWrite FAB_DIMS.XS 16 (bitsOf v 0 5)).dimWrite FAB_DIMS.YS 32 (bitsOf v 5 6)).dimWrite FAB_DIMS.ZS 32 (bitsOf v 11 6)

end Sys2Proof.Machine
end

