-- ==== Sys2Proof/Machine/Guyline.lean ====
section
/-! DEFINITION. The Guyline ring (R230 to R235), its rosters (R273) and its WAKE messages (R315). A message's
fields are HOPS, source, STAMP (or the roster's epoch), ACC or RES, and the rest of its body. -/
namespace Sys2Proof.Machine

/-! ### Lock and bypass (R231, R234) -/

/-- RING_OK falls (R236's event). -/
def State.ringBreak (s : State) : State :=
  if s.rget GL_STATUS.RING_OK = 1 then (s.rset0 GL_STATUS.RING_OK 0).event GL_EVENT.RING_BREAK else s

/-- GUYLINE_LOCK (R231): `n` received bits, on which the receiver may find four commas at one offset. -/
def execGuylineLock (rx n : Nat) (s : State) : Result :=
  .next (
    if s.rget GL_STATUS.LOCK = 1 ∨ ringLock rx n = false then s
    else
      let g := s.gl
      { s.rset0 GL_STATUS.LOCK 1 with
        gl := { g with relocks := if g.everLocked then g.relocks + 1 else g.relocks, everLocked := true } })

/-- GUYLINE_LOCK_LOSS (R231, R234, R237): received characters. Invalid code groups are counted; 4 invalid groups or disparity
errors within 16 characters drop lock, and the bypass closes. -/
def execGuylineLockLoss (chars : List GlChar) (s : State) : Result :=
  .next (
    if s.rget GL_STATUS.LOCK = 0 then s
    else
      let s := { s with gl := { s.gl with codeErr := s.gl.codeErr + (chars.filter fun c => c = .invalid).length } }
      if failsIn (chars.map fun c => decide (c = .good)) 16 4 then
        ((s.rset0 GL_STATUS.LOCK 0).event GL_EVENT.LOCK_LOST).closeBypass.ringBreak
      else s)

/-- A condition that keeps the bypass closed holds (R234): no power, SYS_RST_N, D4, the fail-safe state, Bivouac
mode, GL_CTRL.ENABLE = 0, or no lock. -/
def State.bypassHeld (s : State) : Bool :=
  s.rgr.powerOff || s.rgr.sysRst || decide (s.rget PWR_STATE.DSTATE = 4) || s.failSafe || s.bivouac ||
    decide (s.rget GL_CTRL.ENABLE = 0) || decide (s.rget GL_STATUS.LOCK = 0)

/-- BYPASS_OPEN (R234): the receiver has held lock for 1 ms. -/
def execBypassOpen (s : State) : Result :=
  .next (
    if s.bypassHeld ∨ s.rget GL_STATUS.BYPASS = 0 then s
    else (s.rset0 GL_STATUS.BYPASS 0).event GL_EVENT.BYPASS_CHANGE)

/-! ### Messages (R232, R233) -/

/-- A message is forwarded (R233): HOPS goes up, the residence time, which the manual leaves to the wire (a free value),
enters RES, and with SEG_DELAY enters ACC; the CRC is new. -/
def State.glForward (s : State) (type : Nat) (m : GlMsg) (res seg : Bool) (val : Nat) : State :=
  let (k, s) := s.draw
  let stay := Config.freeNat k
  let acc := m.acc + (if res then stay else 0) + (if seg then s.rget GL_STATUS.SEG_DELAY else 0)
  s.glPass (glBytes type (m.hops + 1) m.src (glBody type m.stamp (acc % 2 ^ 32) val))

/-- The sender's time on arrival: STAMP + (ACC + SEG_DELAY) / 16, in 1/16 tick (R235). -/
def State.glTime16 (s : State) (m : GlMsg) : Int := ((16 * m.stamp + m.acc + s.rget GL_STATUS.SEG_DELAY : Nat) : Int)

/-- A frame marker's comparison (R235). -/
def State.gotMarker (s : State) (m : GlMsg) : State :=
  let off := ((16 * s.gst : Nat) : Int) - s.glTime16 m
  let s := { s with gl := { s.gl with markers := s.gl.markers + 1, markSeen := s.gl.markSeen || decide (m.src < s.ownId) } }
  let s := s.rset0 GL_STATUS.MARK_OFF (fieldOfInt (clampTo (Int.tdiv off 16) 32767) 16)
  if off.natAbs > 16 * 16 then s.event CLK_EVENT.GL_MISMATCH else s

/-- FRAME_MARKER (R233, R235). -/
def execFrameMarker (m : GlMsg) (s : State) : Result :=
  .next (s.glArrive m id (fun s => s.gotMarker m) fun s => s.glForward 0x01 m true true m.val)

/-- A time correction's coarse set (R34, R235): for a device with no Klonak port up. -/
def State.gotCorrection (s : State) (m : GlMsg) : State :=
  let off := ((16 * s.gst : Nat) : Int) - s.glTime16 m
  let s := if m.src < s.ownId then { s with gl := { s.gl with corrSeen := true } } else s
  if ((List.range 18).any s.portUp) = false ∧ s.mayStep off = true then s.coarseSet off else s

/-- TIME_CORRECTION (R233, R235). -/
def execTimeCorrection (m : GlMsg) (s : State) : Result :=
  .next (s.glArrive m id (fun s => s.gotCorrection m) fun s => s.glForward 0x02 m true true m.val)

/-- The time keeper's ID (R271): the lowest member, or this device while it is in no membership. -/
def State.keeperId (s : State) : Nat := (leastBit s.roll.members 16384).getD s.ownId

/-- TIME_CORRECTION_SEND (R232): every CORR_MS, the lowest ID among the locked nodes, as far as their corrections show. -/
def execTimeCorrectionSend (s : State) : Result :=
  .next (
    if s.clk.wall < s.gl.corrAt then s
    else
    let lower := s.gl.corrSeen
    let s := { s with gl := { s.gl with corrSeen := false, corrAt := s.clk.wall + usEdges (1000 * s.rget GL_CTRL.CORR_MS) } }
    if s.onRing && decide (s.rget CLK_STATUS.LOCKED = 1) && !lower then
      s.glSend { prio := 2, code := 0x02, val := s.keeperId }
    else s)

/-- The lowest device ID among the nodes heard and this one. -/
def State.lowestNode (s : State) : Nat := (s.gl.ring ++ s.gl.ringNow).foldl (fun d e => Nat.min d e.1) s.ownId

/-- Another node's discovery message (R233). -/
def State.heardNode (s : State) (m : GlMsg) : State :=
  let s := { s with gl := { s.gl with ringNow := Assoc.insert s.gl.ringNow m.src m.hops } }
  if m.src = s.lowestNode then s.rset0 GL_STATUS.POSITION m.hops else s

/-- The own discovery message has returned (R233): size, RTT and SEG_DELAY; on a ring of one node the manual's
division by HOPS gives no value, which is free. -/
def State.ringClosed (s : State) (m : GlMsg) : State :=
  let rtt := s.gst - m.stamp
  let (k, s) := if m.hops = 0 then s.draw else (0, s)
  let seg := if m.hops = 0 then Config.freeNat k else (16 * rtt - m.acc) / m.hops
  let s := { s with gl := { s.gl with sent := false, ring := s.gl.ringNow, ringNow := [] } }
  let s := if s.lowestNode = s.ownId then s.rset0 GL_STATUS.POSITION m.hops else s
  let s := (s.rset0 GL_STATUS.SIZE (m.hops + 1)).rset0 GL_STATUS.RTT (Nat.min 65535 rtt)
  (s.rset0 GL_STATUS.SEG_DELAY (Nat.min 65535 seg)).rset0 GL_STATUS.RING_OK 1

/-- DISCOVERY (R233). -/
def execDiscovery (m : GlMsg) (s : State) : Result :=
  .next (s.glArrive m (fun s => s.ringClosed m) (fun s => s.heardNode m) fun s => s.glForward 0x03 m true false m.val)

/-- DISCOVERY_SEND (R232): every 1 ms; one that has not come back within 1 ms breaks the ring. -/
def execDiscoverySend (s : State) : Result :=
  .next (
    if s.onRing then
      let s := if s.gl.sent then s.ringBreak else s
      ({ s with gl := { s.gl with sent := true } }).glSend { prio := 3, code := 0x03 }
    else s)

/-! ### Rosters (R273) -/

/-- The device at a position: its discovery message arrives at HOPS = distance − 1. -/
def State.nodeAt (s : State) (pos : Nat) : Option Nat :=
  let n := Nat.max 1 (s.rget GL_STATUS.SIZE)
  ((s.gl.ring ++ s.gl.ringNow).find? fun e => decide ((s.rget GL_STATUS.POSITION + n * 64 - e.2 - 1) % n = pos)).map (·.1)

/-- A position's roster count; the second roster in a row without it is reported in ROLL_CHANGE. -/
def State.rosterPos (s : State) (bits pos : Nat) : State :=
  let n := if bits.testBit pos then 0 else Assoc.get 0 s.gl.rosterMiss pos + 1
  let s := { s with gl := { s.gl with rosterMiss := Assoc.put 0 s.gl.rosterMiss pos (Nat.min 3 n) } }
  match if n = 2 then s.nodeAt pos else none with
  | some d =>
    let s := ((s.rset0 ROLL_CHANGE.DEV d).rset0 ROLL_CHANGE.PORT 0).rset0 ROLL_CHANGE.LINK 0
    ((s.rset0 ROLL_CHANGE.CAUSE 6).rset0 ROLL_CHANGE.COUNT 1).rset0 ROLL_CHANGE.EPOCH_LO (s.rget ROLL_EPOCH.EPOCH % 2 ^ 32)
  | none => s

/-- A roster has gone round: its sender sees who is missing. -/
def State.rosterBack (s : State) (m : GlMsg) : State :=
  (List.range (Nat.min 64 (s.rget GL_STATUS.SIZE))).foldl (fun s pos => s.rosterPos m.val pos) s

/-- ROSTER (R273): a forwarding node sets the bit of its position. -/
def execRoster (m : GlMsg) (s : State) : Result :=
  .next (s.glArrive m (fun s => s.rosterBack m) id fun s =>
    s.glPass (glBytes 0x10 (m.hops + 1) m.src (glBody 0x10 m.stamp 0 (m.val ||| 2 ^ s.rget GL_STATUS.POSITION))))

/-- ROSTER_SEND (R273): every 32 µs, by the lowest-positioned node. -/
def execRosterSend (s : State) : Result :=
  .next (
    if s.onRing && decide (s.rget GL_STATUS.POSITION = 0) then
      s.glSend { prio := 0, code := 0x10, stamp := some (s.rget ROLL_EPOCH.EPOCH), val := 2 ^ s.rget GL_STATUS.POSITION }
    else s)

/-! ### WAKE messages (R314, R315) -/

/-- A WAKE message for this node: it wakes it, or in D0 it is kept pending for HOLD_MS. -/
def State.gotWake (s : State) (m : GlMsg) : State :=
  if s.rget PWR_WAKE_CFG.REMOTE_EN = 0 ∨ (m.val ≠ s.ownId ∧ m.val ≠ 0xFFFF) then s
  else if s.rget PWR_STATE.DSTATE = 0 ∧ s.rget PWR_STATE.MOVING = 0 then
    if s.rget PWR_WAKE_CFG.HOLD_MS = 0 then s
    else { s.rset0 PWR_WAKE.PEND 1 with pwr := { s.pwr with pendAt := s.clk.wall } }
  else if s.rget PWR_STATE.DSTATE ≤ 3 then s.wakeCause 3
  else s

/-- WAKE_MESSAGE (R233, R315). -/
def execWakeMessage (m : GlMsg) (s : State) : Result :=
  .next (s.glArrive m id (fun s => s.gotWake m) fun s => s.glForward 0x04 m false false m.val)

/-- A write of PWR_WAKE_SEND (R315): PF0's with GO = 1 sends a WAKE message to TARGET. -/
def State.wakeSend (s : State) (agent : Agent) (value : Nat) : State :=
  if bitAt value 31 && decide (agent = .pf0) && s.onRing then
    s.glSend { prio := 1, code := 0x04, val := bitsOf value 0 16 }
  else s

/-- PWR_WAKE_SEND (R315). -/
def execPwrWakeSend (agent : Agent) (value : Nat) (s : State) : Result :=
  .next (s.regWrite agent 0x20014 fun s => s.wakeSend agent value)

/-- PEND_EXPIRY (R315): HOLD_MS after the wake came. -/
def execPendExpiry (s : State) : Result :=
  .next (if s.pwr.pendAt + usEdges (1000 * s.rget PWR_WAKE_CFG.HOLD_MS) ≤ s.clk.wall then s.rset0 PWR_WAKE.PEND 0 else s)

end Sys2Proof.Machine
end

