-- ==== Sys2Proof/Machine/RegView.lean ====
section
/-! DEFINITION. What a read of BAR0 finds (R9, R12 to R14, R19 to R21, R46, R72, R78, R84, R116, R133, R177, R269, R270,
R308, R328): the registers' fields, and the windows that show other state. -/
namespace Sys2Proof.Machine

/-- Fields placed at their bits. -/
def packFields (l : List (Nat × Nat)) : Nat := (l.map fun e => e.1 * 2 ^ e.2).sum

/-- What a field shows: nothing where it is write-only, and OSC_MHZ what the oscillator runs at. -/
def State.fieldView (s : State) (e : Field × Access) (i : Nat) : Nat :=
  if e.2 = .wo then 0 else if e.1 = CLK_REGION_DEBT.OSC_MHZ then s.oscMhz i else s.rget e.1 i

/-- The value of a register of the register file: its fields but those that are write-only. -/
def State.rowValue (s : State) (w : RegRow) (i : Nat) : Nat := packFields (w.fields.map fun e => (s.fieldView e i, e.1.lo))

/-! ### Identity (R12 to R14, R21) -/

/-- IDENT_CORE_MAP[n]. -/
def State.coreMapView (s : State) (n : Nat) : Nat :=
  match s.physOf n with
  | some r => packFields [(r % 144, 0), (dieOf r, 8), (1, 31)]
  | none => 0

/-- IDENT_PCORE_STATUS[d, i], of region `r`. -/
def State.pcoreView (s : State) (r : Nat) : Nat :=
  packFields [(s.pcoreState r, 0), (if s.pcoreState r = 0 then (s.coreOfRegion r).getD 0 else 0, 8)]

/-! ### Per-core windows (R84, R116, R133, R177) -/

/-- Counters shown 8 bits each. -/
def packBytes (f : Nat → Nat) (n : Nat) : Nat := packFields ((List.range n).map fun m => (f m % 256, 8 * m))

/-- The array or chain flags as they stand. -/
def State.coreFlagsView (k : Core) (snap : Bool) : Nat := if snap then k.flagsSnap else k.flags

/-- CORE_MX_STATE[e] at frame tick `t` (R116). -/
def mxView (x : Engine) (t : Nat) : Nat :=
  packFields [(if x.tag0 then 1 else 0, 0), (if x.tag1 then 1 else 0, 1),
    (if x.passes.any (fun p => !p.bank && decide (t < p.doneAt)) then 1 else 0, 2),
    (if x.passes.any (fun p => p.bank && decide (t < p.doneAt)) then 1 else 0, 3),
    (if t < x.inputUntil then 1 else 0, 4), (if x.split then 1 else 0, 5), (x.fmtA % 16, 8), (x.fmtB % 16, 12),
    (x.done0 % 65536, 32), (x.done1 % 65536, 48)]

/-- CORE_VC_STATE[e] at frame tick `t` (R133). -/
def vcView (x : Engine) (t : Nat) : Nat :=
  packFields [(if t < x.vBusyUntil then 1 else 0, 0), (x.vSlot % 8, 1), (x.vSrc % 4, 4), (x.vMode % 8, 6), (x.vDone % 65536, 16)]

/-- CORE_DMA_CH[c] at frame tick `t` (R177). -/
def dmaView (k : Core) (c t : Nat) : Nat :=
  let d := Assoc.get ({} : DmaCh) k.dma c
  let left := if d.src.remote then d.total - d.landed else d.total - d.next
  packFields [(if left > 0 then 1 else 0, 0), (if k.channelBusy c t then 1 else 0, 1), (d.prio % 4, 2), (left % 2 ^ 32, 4),
    (d.lastLand % 65536, 36)]

/-- CORE_QPC[q] (R84). -/
def qpcView (k : Core) (q : Nat) : Nat :=
  let x := Assoc.get ({} : QueueSt) k.queues q
  packFields [(x.pc % 2 ^ 19, 0), (if x.done then 1 else 0, 24), (x.loops.length % 8, 25), (x.branches.length % 8, 28)]

/-- A register of a core's window, at an offset within it. -/
def State.coreView (s : State) (c o : Nat) : Nat :=
  let k := s.core c
  let t := if s.frame.phase = .inFrame then s.frame.now else s.ftick
  let j := o / 8
  if o % 8 ≠ 0 then 0
  else if o < 0x28 then qpcView k j
  else if 0x40 ≤ o ∧ o < 0x60 then packBytes (fun m => Assoc.get 0 k.tokens (8 * (j - 8) + m)) 8
  else if 0x60 ≤ o ∧ o < 0x70 then
    packBytes (fun m => if 8 * (j - 12) + m = 15 then 0 else Assoc.get 0 k.credits (8 * (j - 12) + m)) 8
  else if 0x100 ≤ o ∧ o < 0x200 then Assoc.get 0 k.sregs (j - 32)
  else if o = 0x200 then packFields [(k.svc.base, 0), (k.svc.count, 16)]
  else if o = 0x208 then packFields [(k.svc.state, 0), (k.svc.status % 256, 8), (k.svc.index % 512, 16)]
  else if 0x210 ≤ o ∧ o < 0x250 then k.svc.results.getD (j - 66) 0
  else if 0x300 ≤ o ∧ o < 0x320 then mxView (Assoc.get {} k.engines (j - 96)) t
  else if 0x320 ≤ o ∧ o < 0x340 then vcView (Assoc.get {} k.engines (j - 100)) t
  else if 0x340 ≤ o ∧ o < 0x360 then
    let x := Assoc.get ({} : Engine) k.engines (j - 104)
    packFields [(x.resVal % 2 ^ 32, 0), (x.resIdx % 65536, 32)]
  else if o = 0x380 then State.coreFlagsView k false
  else if o = 0x388 then State.coreFlagsView k true
  else if 0x400 ≤ o ∧ o < 0x600 then bitsOf (Assoc.get identityWord k.cslots ((o - 0x400) / 64)) (64 * (j % 8)) 64
  else if 0x600 ≤ o ∧ o < 0x680 then dmaView k (j - 192) t
  else 0

/-! ### Logs, rings and tables -/

/-- A rejected-write entry's 16 bytes (R328). -/
def RejEntry.bytes (e : RejEntry) : List Byte :=
  bytesOf e.gst 8 ++ bytesOf e.kind 1 ++ bytesOf e.source 2 ++ bytesOf (e.off % 2 ^ 24) 3 ++ bytesOf 0 2

/-- CLK_XING_RESULT: the selected crossing (R29). -/
def State.xingView (s : State) : Nat :=
  let x := Assoc.get ({} : Xing) s.clk.xings (s.rget CLK_XING_SEL.INDEX)
  let i := s.rget CLK_XING_SEL.INDEX
  let ends := if i < s.rget CLK_XING_COUNT.COUNT then (xingFrom i, xingTo i) else (0, 0)
  packFields [(x.min % 64, 0), (x.max % 64, 6), (x.lat % 64, 12), (if x.ok then 1 else 0, 18), (ends.1, 20), (ends.2, 32)]

/-- PLAN_NEXT_START: all ones from when it is known that frames end with the frame in progress (R55, R62). -/
def State.nextStartView (s : State) : Nat :=
  let open' := decide (s.frame.phase = .inFrame) || decide (s.frame.phase = .ended) || decide (s.frame.phase = .decided)
  if open' && s.framesEnd s.applyAt then 2 ^ 64 - 1 else s.rget PLAN_NEXT_START.TICK

/-- Whether an offset is the base of a register that shows other state than the register file's. -/
inductive Special
  | counts
  | coreMap (n : Nat)
  | pcore (r : Nat)
  | gst
  | xing
  | nextStart
  | faultLog (j k : Nat)
  | core (c o : Nat)
  | rejLog (j k : Nat)
  | entryData (k : Nat)
  | member (k : Nat)

/-- The special registers by offset. -/
def specialAt (off : Nat) : Option Special :=
  if off = 0x8 then some .counts
  else if 0x1000 ≤ off ∧ off < 0x1400 then some (.coreMap ((off - 0x1000) / 4))
  else if 0x2000 ≤ off ∧ off < 0x2440 then
    let j := (off - 0x2000) / 4
    some (.pcore (144 * (j / 136) + j % 136))
  else if off = 0x10008 then some .gst
  else if off = 0x10058 then some .xing
  else if off = 0x40118 then some .nextStart
  else if 0x41000 ≤ off ∧ off < 0x41800 then some (.faultLog ((off - 0x41000) / 32) ((off - 0x41000) % 32 / 8))
  else if 0x100000 ≤ off ∧ off < 0x200000 then some (.core ((off - 0x100000) / 0x1000) ((off - 0x100000) % 0x1000))
  else if 0x701000 ≤ off ∧ off < 0x701400 then some (.rejLog ((off - 0x701000) / 16) ((off - 0x701000) % 16 / 8))
  else if 0x800010 ≤ off ∧ off < 0x800050 then some (.entryData ((off - 0x800010) / 8))
  else if 0x601000 ≤ off ∧ off < 0x601800 then some (.member ((off - 0x601000) / 8))
  else none

/-- The device has a window for core c: none from 224 on an SZ960-LB (R20). -/
def State.hasWindow (s : State) (c : Nat) : Bool := decide (c < 2 * s.lcoresPerDie)

/-- What a special register shows. -/
def State.specialView (s : State) (x : Special) : Nat :=
  match x with
  | .counts =>
    let v := match regAt 0x8 with
      | some (w, i) => s.rowValue w i
      | none => 0
    putBits v 0 16 ((List.range 256).filter fun c => s.coreValid c).length
  | .coreMap n => s.coreMapView n
  | .pcore r => s.pcoreView r
  | .gst => s.gst % 2 ^ 64
  | .xing => s.xingView
  | .nextStart => s.nextStartView
  | .faultLog j k => leAtBytes (Assoc.get ({} : FaultRec) s.plan.log j).bytes k
  | .core c o => if s.hasWindow c then s.coreView c o else 0
  | .rejLog j k => leAtBytes (Assoc.get ({} : RejEntry) s.rgr.rej j).bytes k
  | .entryData k => bitsOf (Assoc.get 0 s.srv.ring (s.rget AUD_ENTRY_SEL.INDEX)) (64 * k) 64
  | .member k => bitsOf s.roll.members (64 * k) 64
where
  /-- Word `k` of a record. -/
  leAtBytes (bs : List Byte) (k : Nat) : Nat := natOfBytes ((bs.drop (8 * k)).take 8)

/-- The size of the special register at an offset. -/
def specialBytes (x : Special) : Nat :=
  match x with
  | .coreMap _ => 4
  | .pcore _ => 4
  | .core _ o => if o < 0x28 ∨ (0x200 ≤ o ∧ o < 0x210) then 4 else 8
  | _ => 8

/-- The block of an offset is shown: in Bivouac mode only IDENT and RGW (R351). -/
def State.blockShown (s : State) (off : Nat) : Bool :=
  !s.bivouac || decide (off < 0x10000) || (decide (0x700000 ≤ off) && decide (off < 0x800000))

/-- The value of the register at an offset, as PF0 sees it; a reserved offset reads 0 (R20). -/
def State.regValue (s : State) (off : Nat) : Nat :=
  if ¬ s.blockShown off then 0
  else match specialAt off with
  | some x => s.specialView x
  | none =>
    match regAt off with
    | some (w, i) => s.rowValue w i
    | none => 0

/-- The size of the register at an offset; 4 for a reserved one. In BAR2 only DB_STATUS has 8 (R293). -/
def regBytes (off : Nat) : Nat :=
  if off ≥ 2 ^ 24 then (if off < 2 * 2 ^ 24 ∧ off % 64 = 0x10 then 8 else 4)
  else match specialAt off with
  | some x => specialBytes x
  | none =>
    match regAt off with
    | some (w, _) => w.bytes
    | none => 4

/-- The global queue of a VF's local queue (R292). -/
def State.vfQueue (s : State) (f j : Nat) : Option Nat :=
  if j < s.rget HOST_VF_QMAP.COUNT f then some (s.rget HOST_VF_QMAP.BASE f + j) else none

/-- A context belongs to a function. -/
def State.ownsCtx (s : State) (f id : Nat) : Bool := decide ((s.ctx id).field .func = f)

/-- A register as a VF sees it (R19, R20, R269, R292, R328): IDENT, RGW without the log, its own queues, and the
records and trails of its own contexts. -/
def State.vfValue (s : State) (f off : Nat) : Nat :=
  if off < 0x10000 then s.regValue off
  else if 0x700000 ≤ off ∧ off < 0x800000 then
    if (0x701000 ≤ off ∧ off < 0x701400) ∨ off = 0x700100 then 0 else s.regValue off
  else if 0x500000 ≤ off ∧ off < 0x580000 then
    match s.vfQueue f ((off - 0x500000) / 8) with
    | some q => s.regValue (0x500000 + 8 * q + off % 8)
    | none => 0
  else if 0x800010 ≤ off ∧ off < 0x800050 then
    if s.ownsCtx f (s.ringCtx (s.rget AUD_ENTRY_SEL.INDEX)) then s.regValue off else 0
  else if 0x800108 ≤ off ∧ off < 0x800128 then
    if s.ownsCtx f (s.rget AUD_TRAIL_SEL.ID) then s.regValue off else 0
  else if off = 0x800200 then 0
  else if 0x800000 ≤ off ∧ off < 0x900000 then s.regValue off
  else 0

/-- The VF that a global queue is given to, if any (R292). -/
def State.vfOf (s : State) (q : Nat) : Option Nat :=
  (List.range 255).findSome? fun i =>
    let f := i + 1
    let b := s.rget HOST_VF_QMAP.BASE f
    if b ≤ q ∧ q < b + s.rget HOST_VF_QMAP.COUNT f then some f else none

/-- The function that owns a global queue: its VF, or PF0. -/
def State.ownerOf (s : State) (q : Nat) : Nat := (s.vfOf q).getD 0

/-- The global queue that an agent's write to queue `q` reaches (R292): a VF's own, by its local number, or for the
others one that no VF has. -/
def State.reachQueue (s : State) (a : Agent) (q : Nat) : Option Nat :=
  match a with
  | .vf f => s.vfQueue f q
  | _ => if (s.vfOf q).isSome then none else some q

/-- DB_STATUS of a global queue (R293). -/
def State.dbStatus (s : State) (q : Nat) : Nat :=
  let x := s.hq q
  packFields [(x.sqHead, 0), (x.cqTail, 16), (x.inflight.length % 128, 32), (x.err, 40), (if x.phase then 1 else 0, 44), (x.state, 45)]

/-- A register of a queue page in BAR2, as a function sees it (R292, R293): the doorbells are write-only, and a page that is
another's reads 0. -/
def State.pageView (s : State) (a : Agent) (o : Nat) : Nat :=
  match s.reachQueue a (o / 64) with
  | none => 0
  | some g =>
    match o % 64 with
    | 0x10 => s.dbStatus g
    | 0x18 => (s.hq g).modCount + 256 * (s.hq g).modTime
    | _ => 0

/-- A 4-byte word of a function's BAR4 (R303): the MSI-X table, whose word 3 has the mask bit, and from 0x8000 the PBA. -/
def State.msixView (s : State) (f o : Nat) : Nat :=
  if o < 0x8000 then
    let v := o / 16
    if o % 16 = 12 then (if s.host.unmasked.contains (f, v) then 0 else 1) else Assoc.get 0 s.host.msix (4 * (2048 * f + v) + o % 16 / 4)
  else if o < 0x8100 then
    ((List.range 32).map fun i => if s.host.pba.contains (f, (o - 0x8000) * 8 + i) then 2 ^ i else 0).sum
  else 0

/-- The function of a host agent. -/
def hostFunc (a : Agent) : Option Nat :=
  match a with
  | .pf0 => some 0
  | .vf f => some f
  | _ => none

/-- What a host function reads in BAR2, from 2²⁴, or BAR4, from 2²⁵ (log 39); nothing in Bivouac mode (R351). -/
def State.barView (s : State) (a : Agent) (off : Nat) : Nat :=
  match hostFunc a with
  | none => 0
  | some f => if s.bivouac then 0 else if off < 2 * 2 ^ 24 then s.pageView a (off - 2 ^ 24) else s.msixView f (off - 2 * 2 ^ 24)

/-- A register as an agent sees it. -/
def State.agentValue (s : State) (a : Agent) (off : Nat) : Nat :=
  if off ≥ 2 ^ 24 then s.barView a off
  else match a with
  | .vf f => s.vfValue f off
  | _ => s.regValue off

/-! ### Read accesses (R9) -/

/-- A 4-byte word of BAR0 as one agent reads it (R9): the low half of a 64-bit register latches its high half, a read of
the high half returns what the agent's own low-half read of that register latched, and the half as it stands without one.
There is one latch for each agent and register (log 51). -/
def State.wordRead (s : State) (a : Agent) (o : Nat) : Nat × State :=
  let base := o / 8 * 8
  if regBytes base ≠ 8 then (s.agentValue a o % 2 ^ 32, s)
  else
    let v := s.agentValue a base
    let rest := s.clk.hiLatch.filter fun e => decide (e.1 ≠ (a, base))
    if o = base then (v % 2 ^ 32, { s with clk := { s.clk with hiLatch := rest ++ [((a, base), v / 2 ^ 32 % 2 ^ 32)] } })
    else
      match s.clk.hiLatch.find? fun e => decide (e.1 = (a, base)) with
      | some e => (e.2, { s with clk := { s.clk with hiLatch := rest } })
      | none => (v / 2 ^ 32 % 2 ^ 32, s)

/-- `n` bytes of BAR0 from an offset, word by word with the lowest first, so that a 64-bit register read whole gives one
consistent value (R9). -/
def State.busRead (s : State) (a : Agent) (off n : Nat) : List Byte × State :=
  let first := off / 4
  let words := (List.range ((off + n + 3) / 4 - first)).map fun i => 4 * (first + i)
  let r := words.foldl (fun (acc : List Byte × State) o =>
    let (v, s) := acc.2.wordRead a o
    (acc.1 ++ bytesOf v 4, s)) ([], s)
  ((r.1.drop (off % 4)).take n, r.2)

/-- LOW_HALF_READ (R9): a read access of 4 or 8 bytes. Of a 64-bit register, 4 bytes at its offset latch the high half, 4
bytes at offset + 4 read it, and 8 bytes read both. -/
def execLowHalfRead (agent : Agent) (off size : Nat) (s : State) : Result :=
  .next (
    let (bs, s) := s.busRead agent off size
    s.emit (.regValue agent off (natOfBytes bs)))

/-! ### STATS_READ (R72, R73, R252, R287, R297) -/

/-- The snapshot registers as STATS_READ gives them, 8 bytes each (R73; log 19): the frame's record, the telemetry, fabric,
link, Guyline, memory, selection and audit counters, the power averages, the measured peak, the greatest debts and the cores'
numeric flags. -/
def State.snapBytes (s : State) : List Byte :=
  let run (off stride n : Nat) : List Byte := (List.range n).flatMap fun k => bytesOf (s.regValue (off + stride * k)) 8
  run 0x40200 8 3 ++ run 0x900100 8 12 ++ run 0x380200 8 8 ++
  ((List.range 18).flatMap fun p => run (0x300100 + 0x1000 * p) 8 8) ++ run 0x340010 8 1 ++ run 0x200100 8 12 ++
  run 0x400100 8 16 ++ run 0x400180 8 16 ++ run 0x800200 8 1 ++ run 0x44000 4 288 ++
  bytesOf (s.rget PWR_MEASURE.PEAK_W) 8 ++
  ((List.range 288).flatMap fun r => bytesOf (s.rget CLK_REGION_DEBT.MAX_LAST r) 8) ++
  ((List.range 256).flatMap fun c => bytesOf (s.core c).flagsSnap 8)

/-- The bytes of a kind of statistics, and the state in which free ones are drawn: the manual does not lay out
the counters of kind 4 (log 19). -/
def State.statsBytes (s : State) (kind n : Nat) : List Byte × State :=
  match kind with
  | 0 => (s.snapBytes, s)
  | 1 => (s.faultBytes, s)
  | 2 => ((List.range 32768).flatMap fun i => bytesOf (Assoc.get 0 s.fab.samples i) 32, s)
  | 3 => ((List.range 4096).flatMap fun i => bytesOf (Assoc.get 0 s.roll.lostPages i) 16, s)
  | _ => s.freeBytes n

/-- STATS_READ's effect. -/
def State.statsRead (s : State) (h : HostCmd) : State × CmdEnd :=
  if h.a0 > 4 then (s, .done 0x03 0 0 0)
  else if h.func ≠ 0 ∧ h.a0 ≠ 4 then (s, .done 0x04 0 0 0)
  else
    let (bs, s) := s.statsBytes h.a0 h.a2
    let bs := bs.take h.a2
    (s.emit (.hostWrite h.func h.a1 bs), .done 0 0 bs.length 0)

/-- STATS_READ (R73, R297). -/
def execStatsRead (h : HostCmd) (s : State) : Result := .next (s.runCmd h cmdStatsRead (.statsRead h) fun s => s.statsRead h)

end Sys2Proof.Machine
end

