-- ==== Sys2Proof/Machine/Host.lean ====
section
/-! DEFINITION. The host port (spec/14): queue pairs and doorbells (R292 to R294), fetching and starting commands
(R301, R302), interrupts (R303), resets of functions (R304 to R307) and the host link (R291). -/
namespace Sys2Proof.Machine

/-! ### Queues and functions (R292) -/

/-- A ring's number of entries. -/
def State.ringSize (s : State) (q : Nat) : Nat := 2 ^ s.rget HOST_Q.LOG2 q

/-- The submission ring's host address. -/
def State.ringBase (s : State) (q : Nat) : Nat := s.rget HOST_Q.BASE q * 4096

/-! ### Interrupts and errors (R294, R303) -/

/-- A vector fires, or sets its PBA bit while it is masked (R303). -/
def State.fireVector (s : State) (f v : Nat) : State :=
  if s.host.unmasked.contains (f, v) then s.emit (.msix f v)
  else if s.host.pba.contains (f, v) then s
  else { s with host := { s.host with pba := s.host.pba ++ [(f, v)] } }

/-- A queue's vector fires; the pending count is cleared. -/
def State.fireQueue (s : State) (q : Nat) : State :=
  (s.setHq q { s.hq q with unsignalled := 0 }).fireVector (s.ownerOf q) (s.rget HOST_Q.VECTOR q)

/-- A queue enters the error state with a code (R294). -/
def State.queueError (s : State) (q code : Nat) : State :=
  let s := s.setHq q { s.hq q with err := code, state := 2 }
  (s.event HOST_EVENT.QUEUE_ERR).fireQueue q

/-- A write of an MSI-X table entry's mask bit: an unmasked vector whose PBA bit is set fires. -/
def State.maskVector (s : State) (f v : Nat) (mask : Bool) : State :=
  let rest := s.host.unmasked.filter fun e => e ≠ (f, v)
  if mask then { s with host := { s.host with unmasked := rest } }
  else
    let pend := s.host.pba.contains (f, v)
    let s := { s with host := { s.host with unmasked := rest ++ [(f, v)], pba := s.host.pba.filter fun e => e ≠ (f, v) } }
    if pend then s.emit (.msix f v) else s

/-! ### Draining (R293, R304) -/

/-- Commands waiting on a tick complete nowhere (R304). -/
def State.dropWaits (s : State) (p : HostCmd → Bool) : State :=
  s.setFrame { s.frame with waits := s.frame.waits.filter (fun w => !p w.cmd), stops := s.frame.stops.filter fun c => !p c }

/-- A queue's commands in flight: those that wait on a tick or copy end here, the others run to their end, and none is answered
(R293, R304). -/
def State.drain (s : State) (q : Nat) : State :=
  let mine (c : HostCmd) : Bool := decide (c.queue = q)
  let waiting (c : HostCmd) : Bool :=
    (s.frame.waits.any fun w => decide (w.cmd.queue = q ∧ w.cmd.cmdId = c.cmdId)) ||
      (s.frame.stops.any fun w => decide (w.queue = q ∧ w.cmdId = c.cmdId)) ||
      s.mem.svcDma.any fun e => decide (e.2.busy = true ∧ e.2.cmd.queue = q ∧ e.2.cmd.cmdId = c.cmdId)
  let x := s.hq q
  let gone := x.inflight.filter fun e => waiting e.cmd
  let left := x.inflight.filter fun e => !waiting e.cmd
  let s := s.rset0 HOST_INFLIGHT.COUNT (s.rget HOST_INFLIGHT.COUNT - gone.length)
  let s := (s.dropWaits mine).stopCopies mine
  let s := { s with host := { s.host with dropped := s.host.dropped ++ left.map fun (e : InFlight) => (q, e.cmd.cmdId) } }
  s.setHq q { x with inflight := left, replies := [], unsignalled := 0, state := 3 }

/-! ### HOST_Q (R293) -/

/-- Enabling a queue resets its pointers; a LOG2 outside 4 to 16 leaves it disabled. -/
def State.enableQueue (s : State) (q : Nat) : State :=
  let x := s.hq q
  let log2 := s.rget HOST_Q.LOG2 q
  if log2 < 4 ∨ log2 > 16 then s.setHq q { x with err := 5 }
  else
    let s := s.rset0 HOST_INFLIGHT.COUNT (s.rget HOST_INFLIGHT.COUNT - x.inflight.length)
    (s.rset HOST_Q.ENABLE q 1).setHq q { modCount := x.modCount, modTime := x.modTime, state := 1 }

/-- Clearing ENABLE starts a drain. -/
def State.disableQueue (s : State) (q : Nat) : State := (s.rset HOST_Q.ENABLE q 0).drain q

/-- A HOST_Q entry of global queue `q` takes a 64-bit value: while the queue is enabled only ENABLE changes; a VF's
class is at least its MINCLASS. -/
def State.hostQ (s : State) (a : Agent) (q v : Nat) : State :=
  if s.rget HOST_Q.ENABLE q = 1 then (if bitAt v 0 then s else s.disableQueue q)
  else
    let cls := match a with
      | .vf f => Nat.max (bitsOf v 1 2) (s.rget HOST_VF_QMAP.MINCLASS f)
      | _ => bitsOf v 1 2
    let s := (s.rset HOST_Q.CLASS q cls).rset HOST_Q.LOG2 q (bitsOf v 3 5)
    let s := (s.rset HOST_Q.VECTOR q (bitsOf v 8 11)).rset HOST_Q.BASE q (bitsOf v 19 45)
    if bitAt v 0 then s.enableQueue q else s

/-- A write of HOST_Q[q] by an agent. -/
def State.hostQWrite (s : State) (a : Agent) (q v : Nat) : State :=
  match s.reachQueue a q with
  | some g => s.hostQ a g v
  | none => s

/-- QUEUE_ENABLE (R293). -/
def execQueueEnable (agent : Agent) (q value : Nat) (s : State) : Result :=
  onUnit s (decide (q < 65536)) (s.regWrite agent (0x500000 + 8 * q) fun s => s.hostQWrite agent q value)

/-- QUEUE_DISABLE (R293): a write with ENABLE = 0. -/
def execQueueDisable (agent : Agent) (q value : Nat) (s : State) : Result :=
  onUnit s (decide (q < 65536))
    (s.regWrite agent (0x500000 + 8 * q) fun s => s.hostQWrite agent q (value - value % 2))

/-- DRAIN_COMPLETE (R293): a draining queue with nothing in flight reads disabled. -/
def execDrainComplete (q : Nat) (s : State) : Result :=
  onUnit s (decide (q < 65536))
    (if (s.hq q).state = 3 ∧ (s.hq q).inflight.isEmpty = true then s.setHq q { s.hq q with state := 0 } else s)

/-! ### Doorbells (R293, R294) -/

/-- DB_SQ_TAIL of a global queue. -/
def State.sqTail (s : State) (q tail : Nat) : State :=
  let x := s.hq q
  if x.state ≠ 1 then s
  else if tail ≥ s.ringSize q then s.queueError q 1
  else s.setHq q { x with tail := tail }

/-- DB_CQ_HEAD of a global queue. -/
def State.cqHead (s : State) (q head : Nat) : State :=
  let x := s.hq q
  if x.state ≠ 1 then s
  else if head ≥ s.ringSize q then s.queueError q 4
  else s.setHq q { x with cqHead := head }

/-- DB_MOD of a global queue. -/
def State.dbMod (s : State) (q v : Nat) : State :=
  s.setHq q { s.hq q with modCount := bitsOf v 0 8, modTime := bitsOf v 8 16 }

/-- A write in an agent's queue page. -/
def State.queuePage (s : State) (a : Agent) (q : Nat) (f : State → Nat → State) : State :=
  match s.reachQueue a q with
  | some g => f s g
  | none => s

/-- DB_SQ_TAIL (R293). -/
def execDbSqTail (agent : Agent) (q tail : Nat) (s : State) : Result :=
  onUnit s (decide (q < 65536)) (s.queuePage agent q fun s g => s.sqTail g (tail % 65536))

/-- DB_CQ_HEAD (R294). -/
def execDbCqHead (agent : Agent) (q head : Nat) (s : State) : Result :=
  onUnit s (decide (q < 65536)) (s.queuePage agent q fun s g => s.cqHead g (head % 65536))

/-! ### Fetching (R294, R301) -/

/-- The completion ring of a queue has a free slot for one more reply (R294). -/
def State.slotFree (s : State) (q : Nat) : Bool :=
  decide (((s.hq q).cqTail + 1) % s.ringSize q ≠ (s.hq q).cqHead)

/-- A queue may be picked for fetching (R301, R307). -/
def State.fetchable (s : State) (q : Nat) : Bool :=
  let x := s.hq q
  decide (x.state = 1) && decide (x.tail ≠ x.sqHead) && decide (x.inflight.length < 64) && s.slotFree q &&
    s.busMaster (s.ownerOf q)

/-- The queue that the fetch unit picks: the lowest class, then the lowest number (R301). In D3 and D4 it fetches
nothing (R312). -/
def State.pickQueue (s : State) : Option Nat :=
  if s.rget HOST_INFLIGHT.COUNT ≥ 4096 ∨ s.rget PWR_STATE.DSTATE ≥ 3 then none
  else
    let qs := (s.host.queues.map (·.1)).filter s.fetchable
    (List.range 4).findSome? fun c => qs.find? fun q => decide (s.rget HOST_Q.CLASS q = c)

/-- A command packet as its 64 bytes give it (spec/14, command packet): the opcode and the fields. -/
def packetCmd (f q : Nat) (bs : List Byte) : Nat × HostCmd :=
  let a (k : Nat) : Nat := natOfBytes ((bs.drop (8 + 8 * k)).take 8)
  ((bs.headD 0).toNat,
   { func := f, queue := q, cmdId := natOfBytes ((bs.drop 2).take 2), flags := natOfBytes ((bs.drop 1).take 1),
     config := natOfBytes ((bs.drop 4).take 4), a0 := a 0, a1 := a 1, a2 := a 2, a3 := a 3, a4 := a 4, a5 := a 5, a6 := a 6 })

/-- FETCH (R294, R301): the picked queue's next entry is read once. -/
def execFetch (readOk : Bool) (entry : List Byte) (s : State) : Result :=
  .next (match s.pickQueue with
    | none => s
    | some q =>
      if readOk then
        let x := s.hq q
        let (op, cmd) := packetCmd (s.ownerOf q) q entry
        let s := s.setHq q { x with sqHead := (x.sqHead + 1) % s.ringSize q,
                                    inflight := x.inflight ++ [{ opcode := op, cmd := cmd, started := false, pick := s.host.picked }] }
        { s with host := { s.host with picked := s.host.picked + 1 } }.rinc HOST_INFLIGHT.COUNT 0
      else s.queueError q 2)

/-! ### Starting (R302) -/

/-- The opcodes of R297's table. -/
def knownOpcodes : List Nat :=
  [0x00, 0x01, 0x02, 0x03, 0x04, 0x05, 0x06, 0x10, 0x11, 0x12, 0x20, 0x21, 0x22, 0x28, 0x29, 0x2A, 0x30, 0x38, 0x39, 0x40,
   0x48, 0x50, 0x58, 0x59]

/-- The context that a command names, if it names one. -/
def namedCtx (op : Nat) (c : HostCmd) : Option Nat :=
  if op = 0x10 then some (c.a1 % 2 ^ 16)
  else if [0x20, 0x21, 0x22, 0x28, 0x29, 0x2A].contains op || (decide (op = 0x39) && !bitAt c.a0 16) then some (c.a0 % 2 ^ 16)
  else if op = 0x30 ∧ bitsOf c.a4 16 16 ≠ 0 then some (bitsOf c.a4 16 16)
  else none

/-- The variant slot that a command names, if it names one. -/
def namedVariant (op : Nat) (c : HostCmd) : Option Nat :=
  if [0x01, 0x02, 0x03, 0x10, 0x11].contains op then some (c.a0 % 4) else none

/-- The command writes the shadows or closes the set. -/
def writesShadows (op : Nat) (c : HostCmd) : Bool := [0x10, 0x11, 0x12, 0x28, 0x29, 0x2A].contains op || bitAt c.flags 0

/-- Two commands that start one at a time (R302). -/
def oneAtATime (op1 op2 : Nat) (a b : HostCmd) : Bool :=
  let same (x y : Option Nat) : Bool := x.isSome && decide (x = y)
  same (namedCtx op1 a) (namedCtx op2 b) || same (namedVariant op1 a) (namedVariant op2 b) ||
    (decide (op1 = 0x40) && decide (op2 = 0x40) && decide (a.a0 = b.a0)) ||
    (decide (op1 = 0x48) && decide (op2 = 0x48) && decide (a.a0 = b.a0)) || (writesShadows op1 a && writesShadows op2 b)

/-- A command waits for a decision tick or an apply tick, and so holds nothing up (R52, R62, R182, R296, R298, R302). -/
def State.waitsForTick (s : State) (c : HostCmd) : Bool :=
  let same (w : HostCmd) : Bool := decide (w.queue = c.queue ∧ w.cmdId = c.cmdId)
  (s.frame.waits.any fun w => same w.cmd) || s.frame.stops.any same || (s.frame.activates.any fun e => same e.2.2) ||
    s.frame.deferred.any (carries same)

/-- The commands that go before one that constraints hold back: those that run, started, not completed and not waiting for a
tick, and those that were picked before it and have not started (R302). -/
def State.cmdsBefore (s : State) (x : InFlight) : List InFlight :=
  (s.host.queues.flatMap fun e => e.2.inflight).filter fun e =>
    if e.started then !s.waitsForTick e.cmd else decide (e.pick < x.pick)

/-- How many commands a command processor works on: one that waits for a tick holds none (R302). -/
def State.cpLoad (s : State) (n : Nat) : Nat := ((Assoc.get [] s.host.cpWork n).filter fun c => !s.waitsForTick c).length

/-- The command processor with the fewest commands; the lowest among equals (log 26). -/
def State.leastCp (s : State) : Nat := (List.range 8).foldl (fun best n => if s.cpLoad n < s.cpLoad best then n else best) 0

/-- The next command of a queue to start, if FENCE and its constraints allow it (R302, R312). -/
def State.nextStart (s : State) (q : Nat) : Option InFlight :=
  let l := (s.hq q).inflight
  match l.find? fun e => !e.started with
  | none => none
  | some e =>
    let fenced := bitAt e.cmd.flags 2 && decide ((l.head?.map fun x => x.cmd.cmdId) ≠ some e.cmd.cmdId)
    let blocked := (s.cmdsBefore e).any fun r => oneAtATime e.opcode r.opcode e.cmd r.cmd
    let moving := decide (s.rget PWR_STATE.MOVING = 1) && decide (e.opcode ≠ 0x50)
    if fenced || blocked || moving then none else some e

/-- COMMAND_START (R297, R302): the command goes to a command processor; its effect is its own row's. An opcode that
is not in the table is answered here. -/
def execCommandStart (q : Nat) (s : State) : Result :=
  onUnit s (decide (q < 65536)) (match s.nextStart q with
    | none => s
    | some e =>
      if knownOpcodes.contains e.opcode then
        let x := s.hq q
        let mark (l : List InFlight) : List InFlight :=
          l.map fun y => if y.cmd.cmdId = e.cmd.cmdId ∧ y.opcode = e.opcode then { y with started := true } else y
        let s := s.setHq q { x with inflight := mark x.inflight }
        let n := s.leastCp
        { s with host := { s.host with cpWork := Assoc.put [] s.host.cpWork n (Assoc.get [] s.host.cpWork n ++ [e.cmd]) } }
      else s.reply e.cmd e.opcode 0x02 0 0 0)

/-! ### Replies (R294, R303, R307) -/

/-- A reply's 32 bytes (spec/14, reply). -/
def State.replyBytes (s : State) (x : HQueue) (r : Reply) : List Byte :=
  bytesOf r.cmdId 2 ++ bytesOf r.status 1 ++ bytesOf (if x.phase then 1 else 0) 1 ++ bytesOf x.sqHead 2 ++ bytesOf r.opcode 1 ++
  bytesOf r.detail 1 ++ bytesOf r.r0 8 ++ bytesOf r.r1 8 ++ bytesOf s.gst 8

/-- A reply goes into completion slot CQ_TAIL, and the vector fires where R303 lets it. -/
def State.writeReply (s : State) (q : Nat) (r : Reply) (rest : List Reply) : State :=
  let x := s.hq q
  let n := s.ringSize q
  let s := s.emit (.hostWrite (s.ownerOf q) (s.ringBase q + 64 * n + 32 * x.cqTail) (s.replyBytes x r))
  let tail := (x.cqTail + 1) % n
  let pend := x.unsignalled + 1
  let since := if x.unsignalled = 0 then s.clk.wall else x.pendAt
  let s := s.setHq q { x with replies := rest, cqTail := tail, phase := if tail = 0 then !x.phase else x.phase, unsignalled := pend, pendAt := since }
  if r.irqNow || (decide (x.modCount ≥ 1) && decide (pend ≥ x.modCount)) then s.fireQueue q else s

/-- REPLY_WRITE (R294): the oldest held reply of a queue. -/
def execReplyWrite (q : Nat) (writeOk : Bool) (s : State) : Result :=
  onUnit s (decide (q < 65536)) (match (s.hq q).replies with
    | [] => s
    | r :: rest =>
      if decide ((s.hq q).state = 1 ∨ (s.hq q).state = 2) && s.slotFree q && s.busMaster (s.ownerOf q) then
        if writeOk then s.writeReply q r rest
        else (s.setHq q { s.hq q with replies := rest }).queueError q 3
      else s)

/-- MODERATION_TIMER (R303): the oldest pending reply has waited TIME_US. -/
def execModerationTimer (q : Nat) (s : State) : Result :=
  onUnit s (decide (q < 65536))
    (if (s.hq q).modTime ≥ 1 ∧ (s.hq q).unsignalled ≥ 1 ∧ (s.hq q).pendAt + usEdges (s.hq q).modTime ≤ s.clk.wall then s.fireQueue q else s)

/-! ### HOST_VF_QMAP (R309) -/

/-- VF `f` is enabled. -/
def State.vfEnabled (s : State) (f : Nat) : Bool := s.host.vfOn && decide (f ≤ s.rget HOST_STATUS.VFS)

/-- Two runs of queues share a queue. -/
def runsOverlap (a n b m : Nat) : Bool := decide (a < b + m) && decide (b < a + n) && decide (n ≠ 0) && decide (m ≠ 0)

/-- A map write is refused (R309). -/
def State.qmapRefused (s : State) (f base count : Nat) : Bool :=
  s.vfEnabled f || decide (base + count > 65536) || decide (count > 1024) ||
    ((List.range 255).any fun i => decide (i + 1 ≠ f) &&
      runsOverlap base count (s.rget HOST_VF_QMAP.BASE (i + 1)) (s.rget HOST_VF_QMAP.COUNT (i + 1))) ||
    (s.host.queues.any fun e => decide (base ≤ e.1) && decide (e.1 < base + count) && decide (s.rget HOST_Q.ENABLE e.1 = 1))

/-- A write of HOST_VF_QMAP[f]. -/
def State.qmapWrite (s : State) (f v : Nat) : State :=
  if s.qmapRefused f (bitsOf v 0 16) (bitsOf v 16 11) then s.event HOST_EVENT.MAP_REJECT
  else
    let s := (s.rset HOST_VF_QMAP.BASE f (bitsOf v 0 16)).rset HOST_VF_QMAP.COUNT f (bitsOf v 16 11)
    s.rset HOST_VF_QMAP.MINCLASS f (bitsOf v 32 2)

/-- HOST_VF_QMAP (R309). -/
def execHostVfQmap (agent : Agent) (f value : Nat) (s : State) : Result :=
  onUnit s (decide (0 < f) && decide (f < 256)) (s.regWrite agent (0x580100 + 8 * f) fun s => s.qmapWrite f value)

/-! ### Resets of functions (R304 to R306) -/

/-- A queue returns to its reset values; its commands are not answered (R304). -/
def State.resetQueue (s : State) (q : Nat) : State :=
  let s := s.drain q
  let x := s.hq q
  let s := s.rset0 HOST_INFLIGHT.COUNT (s.rget HOST_INFLIGHT.COUNT - x.inflight.length)
  let s := ((s.setHq q {}).rset HOST_Q.ENABLE q HOST_Q.ENABLE.reset).rset HOST_Q.CLASS q HOST_Q.CLASS.reset
  ((s.rset HOST_Q.LOG2 q HOST_Q.LOG2.reset).rset HOST_Q.VECTOR q HOST_Q.VECTOR.reset).rset HOST_Q.BASE q HOST_Q.BASE.reset

/-- The queues that hold anything of a function's. -/
def State.queuesOf (s : State) (f : Nat) : List Nat :=
  let keyed := (s.regs.filter fun e => decide (0x500000 * 64 ≤ e.1) && decide (e.1 < 0x580000 * 64)).map fun e => (e.1 / 64 - 0x500000) / 8
  ((s.host.queues.map (·.1) ++ keyed).eraseDups).filter fun q => decide (s.ownerOf q = f)

/-- The queues and MSI-X state of a function return to their reset values (R304, R306). -/
def State.resetFunc (s : State) (f : Nat) : State :=
  let s := (s.queuesOf f).foldl (fun s q => s.resetQueue q) s
  let s := s.dropWaits fun c => decide (c.func = f)
  { s with host := { s.host with unmasked := s.host.unmasked.filter (fun e => decide (e.1 ≠ f)),
                                 msix := s.host.msix.filter (fun e => decide (e.1 / 8192 ≠ f)),
                                 pba := s.host.pba.filter (fun e => decide (e.1 ≠ f)),
                                 paused := s.host.paused.filter (fun c => !carries (fun h => decide (h.func = f)) c),
                                 bme := Assoc.put false s.host.bme f false } }

/-- A VF reset (R304): its host state, and the unbind of its contexts at the next apply tick. -/
def State.vfReset (s : State) (f : Nat) : State :=
  let s := s.resetFunc f
  let pend := (s.srv.ctxs.any fun e => decide (e.2.field .func = f)) && !s.host.unbind.contains f
  let s := { s with host := { s.host with unbind := if pend then s.host.unbind ++ [f] else s.host.unbind,
                                          flr := if s.host.flr.contains f then s.host.flr else s.host.flr ++ [f] } }
  (s.event HOST_EVENT.VF_RESET).rset0 HOST_EVENT.VF f

/-- VF_FLR (R304). -/
def execVfFlr (f : Nat) (s : State) : Result := onUnit s (decide (0 < f) && decide (f < 256)) (s.vfReset f)

/-- Every enabled VF is reset and the VFs are gone. -/
def State.resetVfs (s : State) : State :=
  let s := if s.host.vfOn then (List.range (s.rget HOST_STATUS.VFS)).foldl (fun s i => s.vfReset (i + 1)) s else s
  { s.rset0 HOST_STATUS.VFS 0 with host := { s.host with vfOn := false } }

/-- VF_ENABLE_CLEAR (R304). -/
def execVfEnableClear (s : State) : Result := .next s.resetVfs

/-- VF_FLR_COMPLETION (R305): the FLR completes, the unbind applied or still pending. -/
def execVfFlrCompletion (f : Nat) (s : State) : Result :=
  onUnit s (decide (0 < f) && decide (f < 256))
    { s with host := { s.host with flr := s.host.flr.filter fun g => decide (g ≠ f) } }

/-- PF0_FLR (R306). -/
def execPf0Flr (s : State) : Result := .next (s.resetFunc 0).resetVfs

/-- PERST_N (R306, R314): as a PF0 FLR, then link training; its deassertion is a wake cause. -/
def execPerstN (s : State) : Result :=
  .next (
    let s := (s.resetFunc 0).resetVfs
    let s := ((s.rset0 HOST_STATUS.GEN 0).rset0 HOST_STATUS.WIDTH 0).rset0 HOST_STATUS.FLIT 0
    (s.rset0 HOST_STATUS.FULL 0).wakeCause 2)

/-- PCIE_LINK_TRAINING (R290, R291). -/
def execPcieLinkTraining (gen width : Nat) (flitMode : Bool) (s : State) : Result :=
  .next (
    let s := ((s.rset0 HOST_STATUS.GEN gen).rset0 HOST_STATUS.WIDTH width).rset0 HOST_STATUS.FLIT (if flitMode then 1 else 0)
    s.rset0 HOST_STATUS.FULL (if gen = 6 ∧ width = 16 ∧ flitMode = true then 1 else 0))

end Sys2Proof.Machine
end

