-- ==== Sys2Proof/Machine/Roll.lean ====
section
/-! DEFINITION. Roll Call (spec/13): heartbeats and suspicions (R272, R274, R275), agreement (R276 to R279, R281, R288),
and the leases' revocation (R287). -/
namespace Sys2Proof.Machine

/-! ### Links and changes -/

/-- The other end of a link (R238). -/
def State.otherEnd (s : State) (dev port : Nat) : Nat × Nat := (s.neighbour dev (bundleOf port), pairedPort port)

/-- Two ends name one link. -/
def State.sameLink (s : State) (a b : Nat × Nat) : Bool := decide (a = b) || decide (s.otherEnd a.1 a.2 = b)

/-- An entry brings a device or a link back (cause 5). -/
def RcEntry.joins (e : RcEntry) : Bool := decide (e.cause = 5)

/-- The member bitmap after a change's entries. -/
def applyMembers (members : Nat) (es : List RcEntry) : Nat :=
  es.foldl (fun m e =>
    if e.link then m
    else if decide (e.cause = 5) then m ||| 2 ^ e.dev
    else if m.testBit e.dev then m - 2 ^ e.dev else m) members

/-- The excluded links after a change's entries. -/
def State.applyLinks (s : State) (es : List RcEntry) : List (Nat × Nat) :=
  es.foldl (fun l e =>
    if e.link then
      let rest := l.filter fun x => !s.sameLink x (e.dev, e.port)
      if decide (e.cause = 5) then rest else rest ++ [(e.dev, e.port)]
    else l) s.roll.exclLinks

/-- An entry's place in the order of a PROPOSE: by device, then port (R277). -/
def insertEntry (e : RcEntry) : List RcEntry → List RcEntry
  | [] => [e]
  | x :: xs => if e.dev < x.dev ∨ (e.dev = x.dev ∧ e.port ≤ x.port) then e :: x :: xs else x :: insertEntry e xs

/-- Entries in ascending order of device and port. -/
def sortEntries (es : List RcEntry) : List RcEntry := es.foldl (fun acc e => insertEntry e acc) []

/-- The distinct neighbours of a device in the current membership (R275). -/
def State.memberNeighbours (s : State) (dev : Nat) : List Nat :=
  (((List.range 6).map fun b => s.neighbour dev b).eraseDups).filter fun d => decide (d ≠ dev) && s.roll.members.testBit d

/-- COORD and MEMBERS follow what this device holds (R271, R289). -/
def State.showRoll (s : State) : State :=
  let n := ((List.range 16384).filter s.roll.members.testBit).length
  let coord := s.isMember && decide (s.coordinator = s.ownId)
  (s.rset0 ROLL_STATUS.MEMBERS n).rset0 ROLL_STATUS.COORD (if coord then 1 else 0)

/-! ### Heartbeats and lost neighbours (R272, R274) -/

/-- A heartbeat on every UP port (R272). -/
def State.heartbeats (s : State) : State :=
  (List.range 18).foldl (fun s p =>
    if s.portUp p then
      let round := if s.rget ROLL_STATUS.AGREEING = 1 then s.rget ROLL_STATUS.ROUND else 0
      let fields := s.ownId + s.rget ROLL_STATUS.STATE * 2 ^ 14 + round * 2 ^ 16
      s.emit (.orderedSet p (setBytes 0xF5 fields [s.rget ROLL_EPOCH.EPOCH, s.rget ROLL_DIGEST.DIGEST]))
    else s) s

/-- HEARTBEAT_SEND (R272): every HB_US of wall time. -/
def execHeartbeatSend (s : State) : Result :=
  .next (
    if s.roll.heartAt ≤ s.clk.wall then
      { s with roll := { s.roll with heartAt := s.clk.wall + usEdges (s.rget ROLL_CFG.HB_US) } }.heartbeats
    else s)

/-- A member has been lost or has left (R274): the suspicion goes out. -/
def State.lostNeighbour (s : State) (dev cause : Nat) : State :=
  let s := { s with roll := { s.roll with heard := Assoc.erase s.roll.heard dev } }
  if s.roll.members.testBit dev && decide (dev ≠ s.ownId) then (s.suspect { dev := dev, cause := cause }).showRoll else s

/-- This device learns that a later epoch excludes it (R279): frames stop at once. -/
def State.goOutside (s : State) : State :=
  let s := s.advance (Nat.min s.frameLen s.ftick)
  let s := (s.rset0 ROLL_STATUS.AGREEING 0).stopNow
  let s := { s with roll := { s.roll with accepted := none, proposal := none, suspects := [], collecting := false, parts := [],
                                          switch := none } }
  ((s.rset0 ROLL_STATUS.STATE (if s.failSafe then 2 else 3)).event ROLL_EVENT.OUTSIDE).rset0 ROLL_STATUS.COORD 0

/-- A heartbeat of a later epoch shows that it excludes this device: its digest is that of a proposal that does. -/
def State.excludedBy (s : State) (epoch digest : Nat) : Bool :=
  decide (epoch > s.rget ROLL_EPOCH.EPOCH) && (match s.roll.accepted with
    | some p => decide (p.epoch = epoch) && decide (p.digest = digest) && !p.members.testBit s.ownId
    | none => false)

/-- HEARTBEAT (R272, R274, R279). -/
def execHeartbeat (p dev state _round epoch digest : Nat) (crcOk : Bool) (s : State) : Result :=
  s.onSet p crcOk (
    let s := if s.isMember && s.excludedBy epoch digest then s.goOutside else s
    if state ≥ 2 then s.lostNeighbour dev (if state = 2 then 2 else 1)
    else
      let heard := if state = 0 then Assoc.insert s.roll.heard dev s.clk.wall else s.roll.heard
      let gone := s.roll.gone.filter fun e => e.link || decide (e.dev ≠ dev)
      { s with roll := { s.roll with heard := heard, gone := gone } })

/-- A neighbour of the membership has been silent on every port for LOSS_US, from its last heartbeat or from the epoch's
start (R274). -/
def State.silent (s : State) (dev : Nat) : Bool :=
  (s.memberNeighbours s.ownId).contains dev &&
    decide (Nat.max (Assoc.get 0 s.roll.heard dev) s.roll.epochAt + usEdges (s.rget ROLL_CFG.LOSS_US) ≤ s.clk.wall)

/-- NEIGHBOUR_LOST (R274). -/
def execNeighbourLost (dev : Nat) (s : State) : Result := .next (if s.silent dev then s.lostNeighbour dev 1 else s)

/-! ### What the coordinator excludes (R275, R276, R288) -/

/-- SUSPECTs for a device from members that are not in a list of excluded devices. -/
def State.accusers (s : State) (dev : Nat) (out : List Nat) : List Nat :=
  ((s.roll.suspects.filter fun e => !e.2.link && decide (e.2.dev = dev) && decide (e.2.cause ≠ 5) &&
    s.roll.members.testBit e.1 && !out.contains e.1).map (·.1)).eraseDups

/-- At least half of a device's distinct neighbours, rounded up, suspect it (R275). -/
def State.byMajority (s : State) (dev : Nat) (out : List Nat) : Bool :=
  let ns := s.memberNeighbours dev
  let n := ((s.accusers dev out).filter ns.contains).length
  decide (n ≥ 1) && decide (2 * n ≥ ns.length)

/-- The devices that SUSPECTs name. -/
def State.accused (s : State) : List Nat :=
  ((s.roll.suspects.filter fun e => !e.2.link && decide (e.2.cause ≠ 5) && s.roll.members.testBit e.2.dev).map
    fun e => e.2.dev).eraseDups

/-- Whom a device suspects. -/
def State.accusedBy (s : State) (dev : Nat) : List Nat :=
  ((s.roll.suspects.filter fun e => decide (e.1 = dev) && !e.2.link && decide (e.2.cause ≠ 5)).map fun e => e.2.dev).eraseDups

/-- The pairs of devices that suspect only each other (R275). -/
def State.mutualPairs (s : State) : List (Nat × Nat) :=
  s.accused.filterMap fun a =>
    match s.accusedBy a with
    | [b] =>
      if decide (a < b) && decide (s.accusedBy b = [a]) && decide (s.accusers a [] = [b]) && decide (s.accusers b [] = [a])
      then some (a, b) else none
    | _ => none

/-- The links between two devices, as entries of the first one's ports. -/
def State.linksBetween (s : State) (a b : Nat) : List RcEntry :=
  ((List.range 18).filter fun p => decide (s.neighbour a (bundleOf p) = b)).map fun p =>
    { dev := a, port := p, link := true, cause := 1 }

/-- The devices excluded at once: fail-safe or drained (R275). -/
def State.atOnce (s : State) : List RcEntry :=
  ((s.roll.suspects.filter fun e => !e.2.link && decide (e.2.cause = 2 ∨ e.2.cause = 3) && s.roll.members.testBit e.2.dev).map
    fun e => { dev := e.2.dev, cause := e.2.cause }).eraseDups

/-- The devices excluded by the majority rule; SUSPECTs of a device that is itself excluded do not count (R275). -/
def State.outvoted (s : State) : List Nat :=
  let fast := s.atOnce.map (·.dev)
  let paired := s.mutualPairs.flatMap fun e => [e.1, e.2]
  let first := s.accused.filter fun d => !fast.contains d && !paired.contains d && s.byMajority d fast
  first.filter fun d => s.byMajority d (fast ++ first.filter fun x => decide (x ≠ d))

/-- The joins and the links that SUSPECTs and REQUESTs name. -/
def State.namedLinks (s : State) : List RcEntry :=
  ((s.roll.suspects.filter fun e => e.2.link || decide (e.2.cause = 5)).map (·.2)).eraseDups

/-- The change that the window's SUSPECTs and REQUESTs make (R275, R276, R288), on top of one that is proposed. A device
outside the domain's sizes cannot join (R238). -/
def State.changeOf (s : State) : List RcEntry :=
  let old := match s.roll.proposal with
    | some p => p.entries
    | none => []
  let voted : List RcEntry := s.outvoted.map fun d => { dev := d, cause := 1 }
  let links := s.mutualPairs.flatMap fun e => s.linksBetween e.1 e.2
  let new := (s.atOnce ++ voted ++ links ++ s.namedLinks).filter fun e =>
    !old.any fun x => decide (x.dev = e.dev ∧ x.port = e.port ∧ x.link = e.link)
  sortEntries (old ++ new.filter fun e => e.link || decide (e.cause ≠ 5) || s.inDims e.dev)

/-! ### The variant's choice (R281) -/

/-- A cover contains an element of L: a device group its devices and every link with an end in it, a link cover the link
alone. -/
def State.covers (s : State) (v : Nat) (e : RcEntry) : Bool :=
  let base := s.rget ROLL_ALT.DEV v
  let inGroup (d : Nat) : Bool := decide (base ≤ d) && decide (d < base + 2 ^ s.rget ROLL_ALT.SPAN_LOG2 v)
  if s.rget ROLL_ALT.KIND v = 1 then e.link && s.sameLink (base, s.rget ROLL_ALT.PORT v) (e.dev, e.port)
  else inGroup e.dev || (e.link && inGroup (s.otherEnd e.dev e.port).1)

/-- Every core's preload fits in the ticks from S to the next frame; without frames every variant is eligible. -/
def State.eligible (s : State) (v : Nat) : Bool :=
  let room := 64 * (s.frame.gap - s.rget PLAN_VAR_VTICKS.VERDICT_TICKS (s.plan.active.getD 0) - 2048)
  let bytes (c : Nat) : Nat := ((preload (s.variant v).image c).map fun e => e.2.length).sum
  !s.running || s.validCores.all fun c => decide (bytes c ≤ room)

/-- A cover's size: one link is less than any group of devices. -/
def State.coverSize (s : State) (v : Nat) : Nat := if s.rget ROLL_ALT.KIND v = 1 then 0 else 2 ^ s.rget ROLL_ALT.SPAN_LOG2 v

/-- The variant chosen for the lost set L: the eligible one with the smallest cover, the lowest among equals; 7 for none. -/
def State.chooseVariant (s : State) (lost : List RcEntry) : Nat :=
  let fits (v : Nat) : Bool :=
    decide (s.rget PLAN_VAR_STATE.STATE v = 2) && decide (s.rget ROLL_ALT.VALID v = 1) && (lost.all fun e => s.covers v e) &&
      s.eligible v
  ((List.range 4).filter fits).foldl (fun best v => if best = 7 ∨ s.coverSize v < s.coverSize best then v else best) 7

/-- The exclusions of a change. -/
def exclusions (es : List RcEntry) : List RcEntry := es.filter fun e => decide (e.cause ≠ 5)

/-! ### Revocation (R287) -/

/-- Revocations of this epoch are counted (R289). -/
def State.countRevoked (s : State) (n : Nat) : State :=
  if n = 0 then s else (s.rsat ROLL_LEASES.REVOKED 0 n).event ROLL_EVENT.REVOKED

/-- A lost-page record goes to the ring (R287). -/
def State.lostPage (s : State) (ctx dev : Nat) : State :=
  let v := ctx % 2 ^ 16 + dev % 2 ^ 14 * 2 ^ 16 + s.rget ROLL_EPOCH.EPOCH % 2 ^ 32 * 2 ^ 32
  let r := { s.roll with lostPages := Assoc.put 0 s.roll.lostPages (s.roll.lostHead % 4096) v,
                         lostHead := (s.roll.lostHead + 1) % 4096 }
  { s with roll := r }.event ROLL_EVENT.LOST_PAGES

/-- A service DMA for a remote requester stops (R287): its packet is answered FLUSHED. -/
def State.stopRemoteDma (s : State) (k : Nat) (d : SvcDma) : State :=
  let s := ({ s with mem := { s.mem with svcDma := Assoc.put {} s.mem.svcDma k {} } }).showDrain d.gates
  match d.pkt with
  | some (_, p) => s.fabCount 5 |>.originate (responseTo p 0x0E [])
  | none => s

/-- The leases of an excluded owner or server end at the COMMIT (R287): pages read from a lost device leave their contexts
unbound at S, and a lost requester's service DMA stops. -/
def State.revoke (s : State) (out : List Nat) (at' : Nat) : State :=
  let hit := s.roll.leases.filter fun l => out.contains l.owner || out.contains l.server
  let mine := hit.filter fun l => decide (l.kind = 0) && decide (l.owner = s.ownId)
  let dmas := s.mem.svcDma.filter fun e => match e.2.requester with
    | some d => out.contains d
    | none => false
  let s := { s with roll := { s.roll with leases := s.roll.leases.filter (fun l => !hit.contains l),
                                          unbinds := s.roll.unbinds ++ mine.map fun (l : Lease) => (at', l.item) } }
  let s := mine.foldl (fun s l => s.lostPage l.item l.server) s
  let s : State := dmas.foldl (fun (s : State) (e : Nat × SvcDma) => s.stopRemoteDma e.1 e.2) s
  let ports : List Nat := (List.range 18).filter fun p => out.contains (s.rget KL_PORT_STATUS.PEER_ID p) &&
    decide (s.rget KL_PORT_STATUS.PEER_VALID p = 1)
  let waits := s.treeLeases
  let s : State := ports.foldl State.treeFlush s
  (s.countRevoked (hit.length + (waits - s.treeLeases))).showLeases

/-! ### COMMIT (R278, R279, R284) -/

/-- A COMMIT excludes a member of the verdict tree as this device sees it: the peer of its parent or child port (R284). -/
def State.treeLoses (s : State) (out : List Nat) : Bool :=
  let (parent, kids) := verdictTree s.activeImage
  (header s.activeImage).multi && (List.range 18).any fun p => (decide (p = parent) || kids.testBit p) &&
    decide (s.rget KL_PORT_STATUS.PEER_VALID p = 1) && out.contains (s.rget KL_PORT_STATUS.PEER_ID p)

/-- ROLL_CHANGE records a change (R279). -/
def State.recordChange (s : State) (es : List RcEntry) : State :=
  let e := es.headD { dev := 0 }
  let s := (s.rset0 ROLL_CHANGE.EPOCH_LO (s.rget ROLL_EPOCH.EPOCH % 2 ^ 32)).rset0 ROLL_CHANGE.DEV e.dev
  let s := (s.rset0 ROLL_CHANGE.PORT e.port).rset0 ROLL_CHANGE.LINK (if e.link then 1 else 0)
  (s.rset0 ROLL_CHANGE.CAUSE e.cause).rset0 ROLL_CHANGE.COUNT (Nat.min 255 es.length)

/-- The switch of a change that excludes something is due at S; one that only joins selects no alternate (R279, R288). -/
def State.setSwitch (s : State) (es : List RcEntry) (at' planId : Nat) : State :=
  if (exclusions es).isEmpty then s
  else { s with roll := { s.roll with switch := some (at', planId), lost := s.roll.lost ++ exclusions es } }

/-- The new membership is taken (R270, R271, R279, R284, R287). -/
def State.takeEpoch (s : State) (epoch digest members : Nat) (es : List RcEntry) (at' planId : Nat) : State :=
  let out := ((exclusions es).filter fun e => !e.link).map (·.dev)
  let s := s.advance (Nat.min s.frameLen s.ftick)
  let s := if decide (s.frame.phase = .inFrame) && s.frame.first.isNone && !s.frame.bad && s.treeLoses out then
      s.raiseFault { cause := 0x18, region := regionCode 143 } (Nat.max s.frame.now s.ftick)
    else s
  let s := { s with roll := { s.roll with members := members, exclLinks := s.applyLinks es, accepted := none, proposal := none,
                                          parts := [], epochAt := s.clk.wall, gone := s.roll.gone.filter (fun e => members.testBit e.dev && !e.link),
                                          suspects := s.roll.suspects.filter fun e => !es.any fun x =>
                                            decide (x.dev = e.2.dev ∧ x.port = e.2.port ∧ x.link = e.2.link) } }
  let s := ((s.rset0 ROLL_EPOCH.EPOCH epoch).rset0 ROLL_DIGEST.DIGEST digest).rset0 ROLL_STATUS.AGREEING 0
  let s := (s.event ROLL_EVENT.NEW_EPOCH).recordChange es
  let s := if s.rget ROLL_STATUS.STATE = 1 then s.rset0 ROLL_STATUS.STATE 0 else s
  let s := (s.rset0 ROLL_LEASES.REVOKED 0).rset0 CLK_STATUS.KEEPER (if s.keeperId = s.ownId then 1 else 0)
  let s := s.reparent
  let s := if s.clk.ratePend.isSome then s.dropRate 5 else s
  (((s.setSwitch es at' planId).revoke out at').showRoll)

/-- A COMMIT's change, as far as this device holds it: the one it accepted, else the one that the message itself carries. -/
def State.commitChange (s : State) (m : RcMsg) : Option (Nat × List RcEntry) :=
  let own := applyMembers s.roll.members m.entries
  match s.roll.accepted with
  | some p =>
    if p.epoch = m.epoch ∧ p.digest = m.digest then some (p.members, p.entries)
    else if memberDigest own = m.digest then some (own, m.entries) else none
  | none => if memberDigest own = m.digest then some (own, m.entries) else none

/-- A COMMIT takes effect (R279). -/
def State.gotCommit (s : State) (m : RcMsg) : State :=
  if m.epoch ≤ s.rget ROLL_EPOCH.EPOCH then s
  else
    match s.commitChange m with
    | none => s
    | some (members, es) =>
      if members.testBit s.ownId then s.takeEpoch m.epoch m.digest members es m.s m.planId
      else if s.isMember then s.goOutside else s

/-- The first copy of a flooded message goes on (R276, R277); the key has the part index of a PROPOSE. -/
def State.floodOn (s : State) (m : RcMsg) (rtype : Nat) : State × Bool :=
  let key := (m.epoch, m.round, rtype, if rtype = 2 then m.reason % 256 else 0)
  if s.roll.flooded.contains key then (s, false)
  else
    let s := { s with roll := { s.roll with flooded := s.roll.flooded ++ [key] } }
    (s.floodBody m.sender m.inPort (rcBody m rtype), true)

/-- This device takes part in agreement: it is a member, or it is joining, or it has failed safe and is not yet excluded. -/
def State.takesPart (s : State) : Bool := decide (s.rget ROLL_STATUS.STATE ≠ 3)

/-- COMMIT (R276, R279). -/
def execCommit (m : RcMsg) (s : State) : Result :=
  .next (s.rollArrive m 0x05 fun s =>
    if s.takesPart then
      match s.floodOn m 0x05 with
      | (s, true) => s.gotCommit m
      | (s, false) => s
    else s)

/-! ### ACCEPT and REFUSE (R278) -/

/-- S: the first apply tick of the running timeline at least 262,144 ticks ahead (R278). -/
def State.switchTick (s : State) : Nat := s.boundaryAfter 262144

/-- Every member of the proposed membership has accepted. -/
def Proposal.complete (p : Proposal) : Bool :=
  (List.range 16384).all fun d => !p.members.testBit d || p.accepts.any fun e => decide (e.1 = d)

/-- The PLAN_ID that every ACCEPT names; 0 where two differ. -/
def Proposal.planId (p : Proposal) : Nat :=
  match p.accepts with
  | [] => 0
  | (_, v) :: rest => if rest.all fun e => decide (e.2 = v) then v else 0

/-- The coordinator floods the COMMIT and takes it itself (R278). -/
def State.sendCommit (s : State) (p : Proposal) : State :=
  let m : RcMsg := { sender := s.ownId, round := p.round, coord := s.ownId, epoch := p.epoch, digest := p.digest,
                     planId := p.planId, s := s.switchTick }
  let s := { s with roll := { s.roll with flooded := s.roll.flooded ++ [(p.epoch, p.round, 5, 0)],
                                          accepted := some p } }
  (s.flood (rcBody m 0x05) true).gotCommit m

/-- An ACCEPT of the proposal in progress (R278). -/
def State.gotAccept (s : State) (sender round epoch planId : Nat) : State :=
  match s.roll.proposal with
  | none => s
  | some p =>
    if p.round ≠ round ∨ p.epoch ≠ epoch ∨ p.members.testBit sender = false ∨ (p.accepts.any fun e => decide (e.1 = sender)) = true
    then s
    else
      let p := { p with accepts := p.accepts ++ [(sender, planId)] }
      let s := { s with roll := { s.roll with proposal := some p } }
      if p.complete then s.sendCommit p else s

/-- ACCEPT (R278). -/
def execAccept (m : RcMsg) (s : State) : Result :=
  .next (s.rollArrive m 0x03 fun s => if s.addressed m then s.gotAccept m.sender m.round m.epoch m.planId else s)

/-- A REFUSE of the proposal in progress, once from each member (R276): on REASON 1 the member is sent a FULL. -/
def State.gotRefuse (s : State) (m : RcMsg) : State :=
  match s.roll.proposal with
  | none => s
  | some p =>
    if p.round = m.round ∧ p.epoch = m.epoch ∧ p.refused.contains m.sender = false then
      let s := { s with roll := { s.roll with proposal := some { p with refused := p.refused ++ [m.sender] } } }
      let s := s.event ROLL_EVENT.RESTART
      if m.reason = 1 then s.unicast m.sender (rcFullBody { s.newMsg with round := p.round, digest := p.digest } s.roll.members)
      else s
    else s

/-- REFUSE (R276). -/
def execRefuse (m : RcMsg) (s : State) : Result :=
  .next (s.rollArrive m 0x04 fun s => if s.addressed m then s.gotRefuse m else s)

/-! ### PROPOSE and FULL (R276, R277, R281) -/

/-- The answer to a PROPOSE goes to its coordinator. -/
def State.answer (s : State) (m : RcMsg) (rtype planId reason : Nat) : State :=
  let a : RcMsg := { sender := s.ownId, round := m.round, coord := m.coord, epoch := m.epoch, digest := m.digest, planId := planId,
                     reason := reason }
  if m.coord = s.ownId then (if rtype = 3 then s.gotAccept s.ownId m.round m.epoch planId else s)
  else s.unicast m.coord (rcBody a rtype)

/-- A proposal is accepted (R276, R281): AGREEING, the variant's choice and the ACCEPT. -/
def State.acceptIt (s : State) (m : RcMsg) (es : List RcEntry) (members : Nat) : State :=
  let choice := if (exclusions es).isEmpty then 7 else s.chooseVariant (s.roll.lost ++ exclusions es)
  let p : Proposal := { round := m.round, epoch := m.epoch, entries := es, members := members, digest := m.digest }
  let s := { s with roll := { s.roll with accepted := some p, acceptedCoord := m.coord } }
  let s := ((s.rset0 ROLL_STATUS.AGREEING 1).rset0 ROLL_STATUS.ROUND m.round).rset0 ROLL_STATUS.CHOICE choice
  s.answer m 0x03 (if choice < 4 then s.rget PLAN_VAR_ID.PLAN_ID choice else 0) 0

/-- A member applies a whole change and answers (R276). -/
def State.consider (s : State) (m : RcMsg) (es : List RcEntry) : State :=
  let members := applyMembers s.roll.members es
  let lower := match s.roll.accepted with
    | some p => decide (p.epoch = m.epoch) && decide (s.roll.acceptedCoord < m.coord)
    | none => false
  if m.epoch ≤ s.rget ROLL_EPOCH.EPOCH then s.answer m 0x04 0 2
  else if lower then s.answer m 0x04 0 3
  else if memberDigest members ≠ m.digest ∨ m.epoch ≠ s.rget ROLL_EPOCH.EPOCH + 1 then s.answer m 0x04 0 1
  else s.acceptIt m es members

/-- The number of parts of a PROPOSE (R277). -/
def partCount (m : RcMsg) : Nat := Nat.max 1 (m.reason / 256)

/-- A PROPOSE's part joins those of its round; a higher round discards an incomplete one. -/
def State.addPart (s : State) (m : RcMsg) : State :=
  let same := s.roll.parts.filter fun x => decide (x.epoch = m.epoch ∧ x.round = m.round ∧ x.coord = m.coord)
  let newer := s.roll.parts.any fun x => decide (x.epoch = m.epoch ∧ x.round > m.round)
  if newer || same.any fun x => decide (x.reason = m.reason) then s
  else { s with roll := { s.roll with parts := same ++ [{ m with ring := none }] } }

/-- The entries of every part held, in their order. -/
def State.partEntries (s : State) (n : Nat) : List RcEntry :=
  (List.range n).flatMap fun k => match s.roll.parts.find? fun m => decide (m.reason % 256 = k) with
    | some m => m.entries
    | none => []

/-- Once every part of the round is held, the change is considered. -/
def State.considerParts (s : State) (m : RcMsg) : State :=
  if s.roll.parts.length = partCount m then s.consider m (s.partEntries (partCount m)) else s

/-- A PROPOSE takes effect. -/
def State.gotPropose (s : State) (m : RcMsg) : State := (s.addPart m).considerParts m

/-- PROPOSE (R276, R277). -/
def execPropose (m : RcMsg) (s : State) : Result :=
  .next (s.rollArrive m 0x02 fun s =>
    if s.takesPart then
      match s.floodOn m 0x02 with
      | (s, true) => s.gotPropose m
      | (s, false) => s
    else s)

/-- A FULL's membership is taken, and the proposal that could not be applied is considered again; one that excludes this
device puts it outside (R276, R279). -/
def State.gotFull (s : State) (m : RcMsg) (bitmap : Nat) : State :=
  if ¬ s.takesPart ∨ m.epoch < s.rget ROLL_EPOCH.EPOCH then s
  else if m.epoch > s.rget ROLL_EPOCH.EPOCH ∧ s.isMember = true ∧ bitmap.testBit s.ownId = false then s.goOutside
  else
    let s := { s with roll := { s.roll with members := bitmap } }
    let s := ((s.rset0 ROLL_EPOCH.EPOCH m.epoch).rset0 ROLL_DIGEST.DIGEST (memberDigest bitmap)).showRoll
    match s.roll.parts.head? with
    | some p => s.considerParts p
    | none => s

/-- FULL (R276, R279): never on the Guyline, since it does not fit. -/
def execFull (m : RcMsg) (bitmap : Nat) (s : State) : Result := .next (s.handled.gotFull m bitmap)

/-! ### Proposing (R276 to R278) -/

/-- A change's parts: 946 entries each (R277). -/
def partsOf : Nat → List RcEntry → List (List RcEntry)
  | 0, _ => []
  | fuel + 1, es => if es.length ≤ 946 then [es] else es.take 946 :: partsOf fuel (es.drop 946)

/-- The next round for the next epoch (R278): one more than any that this device knows. -/
def State.nextRound (s : State) : Nat :=
  let epoch := s.rget ROLL_EPOCH.EPOCH + 1
  let of' (p : Option Proposal) : Nat := match p with
    | some p => if p.epoch = epoch then p.round else 0
    | none => 0
  Nat.min 255 (Nat.max (of' s.roll.proposal) (of' s.roll.accepted) + 1)

/-- One part of a PROPOSE is flooded and taken. -/
def State.proposePart (s : State) (p : Proposal) (k n : Nat) (es : List RcEntry) : State :=
  let m : RcMsg := { sender := s.ownId, round := p.round, coord := s.ownId, epoch := p.epoch, digest := p.digest,
                     reason := k + 256 * n, entries := es }
  let s := { s with roll := { s.roll with flooded := s.roll.flooded ++ [(p.epoch, p.round, 2, k)] } }
  (s.flood (rcBody m 0x02) (decide (n = 1))).gotPropose m

/-- The coordinator floods a PROPOSE of a change, and takes it as a member (R276). -/
def State.proposeChange (s : State) (es : List RcEntry) : State :=
  let members := applyMembers s.roll.members es
  let p : Proposal := { round := s.nextRound, epoch := s.rget ROLL_EPOCH.EPOCH + 1, entries := es, members := members,
                        digest := memberDigest members }
  let s := if s.roll.proposal.isSome then s.event ROLL_EVENT.RESTART else s
  let s := { s with roll := { s.roll with proposal := some p, proposedAt := s.clk.wall } }
  let parts := partsOf 256 es
  ((List.range parts.length).zip parts).foldl (fun s e => s.proposePart p e.1 parts.length e.2) s

/-- The collection window closes (R276): a change that it makes is proposed. -/
def State.closeWindow (s : State) : State :=
  let es := s.changeOf
  let old := match s.roll.proposal with
    | some p => p.entries.length
    | none => 0
  let s := { s with roll := { s.roll with collecting := false, suspects := [] } }
  if es.length > old then s.proposeChange es else s

/-- COLLECTION_WINDOW (R276): COLLECT_US after the first SUSPECT. -/
def execCollectionWindow (s : State) : Result :=
  .next (
    if s.roll.collecting = true ∧ s.roll.collectAt + usEdges (s.rget ROLL_CFG.COLLECT_US) ≤ s.clk.wall then s.closeWindow else s)

/-- ROUND + 1 (R278): the proposal again, with the members that have not answered added as excluded. -/
def State.reproposal (s : State) (p : Proposal) : State :=
  let silent := (List.range 16384).filter fun d =>
    p.members.testBit d && !(p.accepts.any fun e => decide (e.1 = d)) && !p.refused.contains d
  let more : List RcEntry := silent.map fun d => { dev := d, cause := 1 }
  s.proposeChange (sortEntries (p.entries ++ more))

/-- ACK_TIMEOUT (R278): ACK_US after the PROPOSE. -/
def execAckTimeout (s : State) : Result :=
  .next (match s.roll.proposal with
    | none => s
    | some p => if s.roll.proposedAt + usEdges (s.rget ROLL_CFG.ACK_US) ≤ s.clk.wall then s.reproposal p else s)

/-- ACCEPTANCE_DROP (R278): 1 ms without a COMMIT. -/
def execAcceptanceDrop (s : State) : Result :=
  .next (
    if s.rget ROLL_STATUS.AGREEING = 1 then
      ({ s with roll := { s.roll with accepted := none } }.rset0 ROLL_STATUS.AGREEING 0).rset0 ROLL_STATUS.CHOICE 7
    else s)

/-! ### SUSPECT and REQUEST (R275, R288, R359) -/

/-- SUSPECT (R275): of a member, in the current epoch. -/
def execSuspect (m : RcMsg) (s : State) : Result :=
  .next (s.rollArrive m 0x01 fun s =>
    if s.addressed m && s.isMember && decide (m.epoch = s.rget ROLL_EPOCH.EPOCH) && s.roll.members.testBit m.sender then
      s.collect m.sender m.entries
    else s)

/-- REQUEST (R288): as a SUSPECT, without the majority rule. A member that is not the coordinator sends a packet that reaches it
on to the coordinator (log 67). -/
def execRequest (m : RcMsg) (s : State) : Result :=
  .next (s.rollArrive m 0x07 fun s =>
    if ¬ s.addressed m then s
    else if s.isMember && decide (s.coordinator ≠ s.ownId) then s.sendBody s.coordinator (rcBody { m with coord := s.coordinator } 0x07)
    else if s.isMember || decide (s.roll.members = 0) then s.collect m.sender m.entries
    else s)

/-- A request of this device goes to the coordinator. -/
def State.submit (s : State) (e : RcEntry) : State :=
  if s.coordinator = s.ownId then s.collect s.ownId [e]
  else s.unicast s.coordinator (rcBody { s.newMsg with entries := [e] } 0x07)

/-- A device asks to join: it sends heartbeats with STATE 1 from now on (R288). One outside the domain's sizes cannot be a
member (R238). -/
def State.askToJoin (s : State) : State :=
  if ¬ s.inDims s.ownId then s
  else if s.rget ROLL_STATUS.STATE = 3 then
    (s.rset0 ROLL_STATUS.STATE 1).submit { dev := s.ownId, cause := 5 }
  else if s.rget ROLL_STATUS.STATE = 1 then s.submit { dev := s.ownId, cause := 5 }
  else s

/-- A write of ROLL_REQ (R288, R359). -/
def State.rollReq (s : State) (value : Nat) : State :=
  if ¬ bitAt value 31 then s
  else
    let dev := bitsOf value 2 14
    let port := bitsOf value 16 5
    match bitsOf value 0 2 with
    | 0 => s.submit { dev := dev, cause := 3 }
    | 1 => s.submit { dev := dev, port := port, link := true, cause := 3 }
    | 2 =>
      if bitAt value 21 then
        if port < 18 ∧ s.portUp port = true then s.submit { dev := s.ownId, port := port, link := true, cause := 5 } else s
      else s.askToJoin
    | _ => s

/-- EXCLUDE_DEVICE (R288). -/
def execExcludeDevice (agent : Agent) (dev : Nat) (s : State) : Result :=
  .next (s.regWrite agent 0x600020 fun s => s.rollReq (2 ^ 31 + dev % 2 ^ 14 * 4))

/-- EXCLUDE_LINK (R288). -/
def execExcludeLink (agent : Agent) (dev port : Nat) (s : State) : Result :=
  .next (s.regWrite agent 0x600020 fun s => s.rollReq (2 ^ 31 + port % 32 * 2 ^ 16 + dev % 2 ^ 14 * 4 + 1))

/-- JOIN_THIS_DEVICE (R288). -/
def execJoinThisDevice (agent : Agent) (s : State) : Result := .next (s.regWrite agent 0x600020 fun s => s.rollReq (2 ^ 31 + 2))

/-- LINK_RETURN (R359). -/
def execLinkReturn (agent : Agent) (port : Nat) (s : State) : Result :=
  .next (s.regWrite agent 0x600020 fun s => s.rollReq (2 ^ 31 + 2 ^ 21 + port % 32 * 2 ^ 16 + 2))

/-! ### SERVICE_DMA and CP_WORK leases (R287, R326) -/

/-- SERVICE_DMA_EXPIRY (R287): 100 ms without a piece. -/
def execServiceDmaExpiry (die ch : Nat) (s : State) : Result :=
  onUnit s (decide (die < 2) && decide (ch < 16)) (
    let k := 16 * die + ch
    let d := Assoc.get ({} : SvcDma) s.mem.svcDma k
    if d.requester.isSome then
      let s := { s with roll := { s.roll with leases := s.roll.leases.filter fun l => !(decide (l.kind = 1) && decide (l.item = k)) } }
      ((s.stopRemoteDma k d).countRevoked 1).showLeases
    else s)

/-- CP_WORK_RENEWAL (R287). -/
def execCpWorkRenewal (n : Nat) (s : State) : Result :=
  onUnit s (decide (n < 8))
    { s with host := { s.host with cpExpired := s.host.cpExpired.filter (· ≠ n) } }

/-- A command's pieces of work in the other units forget it (R287). -/
def State.forgetCmd (s : State) (c : HostCmd) : State :=
  let same (x : HostCmd) : Bool := decide (x.queue = c.queue ∧ x.cmdId = c.cmdId)
  let sameO (x : Option HostCmd) : Bool := match x with
    | some y => same y
    | none => false
  let s := s.stopCopies same
  let s := s.mapCores fun k => if sameO k.svc.cmd then { k with svc := { k.svc with state := 0, cmd := none, waitingCall := none } } else k
  let ports := s.ports.map fun (e : Nat × Port) => (e.1, if sameO e.2.linkCmd then { e.2 with linkCmd := none } else e.2)
  let pwr := { s.pwr with entryCmd := if sameO s.pwr.entryCmd then none else s.pwr.entryCmd,
                          waiters := s.pwr.waiters.filter fun x => !same x }
  let keep (d : Instr) : Bool := !carries same d
  { s with ports := ports, pwr := pwr, host := { s.host with paused := s.host.paused.filter keep } }.setFrame
    { s.frame with deferred := s.frame.deferred.filter keep }

/-- A command in progress completes FLUSHED. -/
def State.flushCmd (s : State) (c : HostCmd) : State :=
  let op := ((s.hq c.queue).inflight.find? fun e => decide (e.cmd.cmdId = c.cmdId) && e.started).map (·.opcode)
  (s.forgetCmd c).reply c (op.getD 0) 0x0E 0 0 0

/-- The Ranger resets a command processor (R287): its commands are flushed and it restarts from its active slot. -/
def State.resetCp (s : State) (n : Nat) : State :=
  let work := (Assoc.get [] s.host.cpWork n).filter fun c => !s.waitsForTick c
  let s := work.foldl (fun s c => s.flushCmd c) s
  let rgr := { s.rgr with cpResets := Assoc.put 0 s.rgr.cpResets n (Assoc.get 0 s.rgr.cpResets n + 1) }
  let s := { s with rgr := rgr, host := { s.host with cpExpired := s.host.cpExpired.filter (· ≠ n) } }
  ((s.countRevoked (if work.isEmpty then 0 else 1))).trialStart 0

/-- CP_WORK_EXPIRY (R287, R326): while the Ranger's firmware restarts, the lease waits for it. -/
def execCpWorkExpiry (n : Nat) (s : State) : Result :=
  onUnit s (decide (n < 8)) (
    if s.rgr.running then s.resetCp n
    else if s.host.cpExpired.contains n then s
    else { s with host := { s.host with cpExpired := s.host.cpExpired ++ [n] } })

end Sys2Proof.Machine
end

