-- ==== Sys2Proof/Machine/Reset.lean ====
section
/-! DEFINITION. Resets of the device (R333, R346, R349, R350, R352, R374): what each loses and what it records. -/
namespace Sys2Proof.Machine

/-! ### What a reset loses -/

/-- Register fields that a reset leaves: what the fuses and the Ranger's non-volatile record give back (R346, R347,
R355), the key epoch, and while the always-on domain keeps its supply, the rejected-write log's head (R328).
RGR_UPD.TRIAL_MAX is in no record, so a cold reset gives it its Reset value (R8). -/
def keptOverReset (cold : Bool) (key : Nat) : Bool :=
  let off := key / 64
  decide (0x700008 ≤ off ∧ off < 0x700030) || decide (0x700200 ≤ off ∧ off < 0x700230) ||
    (decide (0x700400 ≤ off ∧ off < 0x700420) && !(cold && decide (key % 64 = RGR_UPD.TRIAL_MAX.lo))) || decide (off = 0x700448) || decide (key = RGR_STATUS.FW_SLOT.key 0) ||
    decide (key = RGR_STATUS.FW_VER.key 0) || decide (key = RGR_BOOT.REASON.key 0) ||
    decide (key = RGR_BOOT.BIV_REASON.key 0) || decide (key = RGR_MGMT.I3C_SA.key 0) ||
    decide (key = RGR_MGMT.LINK_KEY.key 0) || decide (key = MEM_CRYPT.KEY_EPOCH.key 0) ||
    decide (key = IDENT_COUNTS.LCORES.key 0) || decide (key = IDENT_DEVICE.GRADE.key 0) || (decide (off = 0x700100) && !cold)

/-- The Ranger's own state over a reset: its record, its keys, the straps; a cold one loses the log too. -/
def Rgr.kept (r : Rgr) (cold : Bool) : Rgr :=
  { rej := if cold then [] else r.rej, linkKey := r.linkKey, nextSession := r.nextSession, powerOff := r.powerOff,
    supplyLoss := r.supplyLoss, mgtIps := r.mgtIps, startOpen := r.startOpen, bivouacFlag := r.bivouacFlag,
    lastFailed := r.lastFailed, trialsRun := r.trialsRun, trialBad := r.trialBad, fw := r.fw, retired := r.retired,
    sysRst := r.sysRst, rstCause := r.rstCause, numbered := r.numbered, mgtSgmii := r.mgtSgmii, testEn := r.testEn }

/-- Everything else takes its reset value (R8). -/
def State.wipe (s : State) (cold : Bool) : State :=
  { pending := s.pending, freeCount := s.freeCount, out := s.out, regs := s.regs.filter fun e => keptOverReset cold e.1,
    raised := [], coreMap := s.coreMap, pcores := s.pcores, clk := { xings := s.clk.xings }, rgr := s.rgr.kept cold }

/-- The device is in Bivouac mode, with its pins as R351 has them. -/
def State.bivouacPins (s : State) : State :=
  ((s.rset0 RGR_STATUS.MODE 2).rset0 RGR_STATUS.FAULT_N 0).rset0 RGR_STATUS.PWR_REQ 0

/-- A reset takes the device: a start that it interrupts has failed (R349), unless its cause is 2 or 3; Bivouac mode
stays, unless this reset may end it (R352). -/
def State.resetTo (s : State) (cold : Bool) (cause : Nat) (leave : Bool) : State :=
  let fs := if s.failSafe then 1 else 0
  let stays := s.bivouac && !leave
  let s := if !cold && s.unsettled && decide (cause ≠ 2) && decide (cause ≠ 3) then s.failedStart 0x0D else s
  let s := ((s.wipe cold).rset0 RGR_RESET.FS_BEFORE fs).rset0 RGR_NVREC.BAD 0
  if stays then s.bivouacPins else s

/-- The Ranger records a reset (R346): the cause is 5 after a loss of VDD_AO (R374) and 4 when a power cycle or a
DEVICE_RESET ends a thermal shutdown (R334). -/
def State.recordReset (s : State) (cause : Nat) : State :=
  let off := s.rgr.powerOff && decide (cause = 0 ∨ cause = 2)
  let cause := if s.rgr.supplyLoss then 5 else if off then 4 else cause
  let s := (s.rset0 RGR_RESET.CAUSE cause).rsat RGR_BOOTS.COUNT 0 1
  { s with rgr := { s.rgr with supplyLoss := false, powerOff := s.rgr.powerOff && !off } }

/-- A reset that the Ranger performs. -/
def State.deviceReset (s : State) (cause : Nat) (leave : Bool := false) : State := (s.resetTo false cause leave).recordReset cause

/-! ### SYS_RST_N, power-on and VDD_AO (R333, R348, R350, R352, R374) -/

/-- SYS_RST_N_ASSERTED (R333, R234, R370). -/
def execSysRstNAsserted (s : State) : Result :=
  .next (
    if s.rgr.sysRst then s
    else
      let s := s.resetTo false 1 false
      { s with rgr := { s.rgr with sysRst := true, rstCause := 1, startDue := false } })

/-- SYS_RST_N (R346, R348): its release; the reset is recorded, and a start is due. -/
def execSysRstN (s : State) : Result :=
  .next (
    if s.rgr.sysRst then
      let s := s.recordReset s.rgr.rstCause
      { s with rgr := { s.rgr with sysRst := false, startDue := true } }
    else s)

/-- What a power-on reset finds in the record (R350, R352): the Bivouac flag, or the mark of a start that was
interrupted. -/
def State.powerOnMarks (s : State) : State :=
  if s.rgr.bivouacFlag then
    let s := s.rset0 RGR_RESET.FAILED (s.rget RGR_RESET.BIVOUAC_N - 1)
    ({ s with rgr := { s.rgr with bivouacFlag := false } }).journal
  else if s.rgr.startOpen then
    let s := (s.rsat RGR_RESET.FAILED 0 1).rset0 RGR_BOOT.REASON 0x0D
    ({ s with rgr := { s.rgr with lastFailed := true, startOpen := false } }).journal
  else s

/-- RGR_NVREC.BAD of the start that follows: `copyBad` says that power was lost within a write of the copy that is not in use
(R355). -/
def State.copyFound (s : State) (copyBad : Bool) : State := s.rset0 RGR_NVREC.BAD (if copyBad then 1 else 0)

/-- POWER_ON_RESET (R8, R346, R350, R352, R355): power is good, and a start is due. -/
def execPowerOnReset (copyBad : Bool) (s : State) : Result :=
  .next (
    let s := (((s.resetTo true 0 true).copyFound copyBad).powerOnMarks).recordReset 0
    { s with rgr := { s.rgr with sysRst := false, rstCause := 0, startDue := true } })

/-- VDD_AO_LOW (R355, R374): the always-on domain resets; the next start records cause 5. -/
def execVddAoLow (copyBad : Bool) (s : State) : Result :=
  .next (
    let s := (s.resetTo true 5 true).copyFound copyBad
    { s with rgr := { s.rgr with supplyLoss := true, startDue := true } })

/-- RAIL_OUT_OF_RANGE (R374): a rail other than VDD_AO, which is number 0 of the supply table. -/
def execRailOutOfRange (rail : Nat) (s : State) : Result :=
  onUnit s (decide (rail < 16)) (if rail = 0 then s else s.enterFailSafe 0x43 511)

/-- STRAP_SAMPLE (R369). -/
def execStrapSample (mgtMode : Bool) (i3cAddr : BitVec 3) (testEn : Bool) (s : State) : Result :=
  .next (
    let s := s.rset0 RGR_MGMT.I3C_SA (0x48 + i3cAddr.toNat)
    { s with rgr := { s.rgr with mgtSgmii := mgtMode, testEn := testEn } })

/-- BOOT_RETRY (R350): 1 s after a failed start. -/
def execBootRetry (s : State) : Result := .next (if s.rgr.retryAt then s.deviceReset 6 else s)

/-- READY_TIMEOUT (R348). -/
def execReadyTimeout (s : State) : Result := .next (if s.rgr.starting then s.failedStart 0x0B else s)

end Sys2Proof.Machine
end

