-- ==== Sys2Proof/Machine/Boot.lean ====
section
/-! DEFINITION. A start of the device, phase by phase (R348 to R351, R356, R357, R369), and Bivouac mode. -/
namespace Sys2Proof.Machine

/-! ### START (R348, R350) -/

/-- A start begins: the start-open mark, the check of CLK32K (R376, log 24), and the trial starts of the one before are
judged. -/
def State.beginStart (s : State) : State :=
  let s := if s.rgr.supplyLoss then s.recordReset 5 else s
  let r := s.rgr
  let s := { s with rgr := { r with startDue := false, starting := true, ready := false, nextPhase := 0, retryAt := false,
                                    startOpen := true, trialBad := if r.lastFailed then r.trialsRun else [], trialsRun := [] },
                    pwr := { s.pwr with clk32k := Config.clk32kPresent (s.rget RGR_BOOTS.COUNT) } }
  (((s.rset0 RGR_BOOT.PHASE 0).rset0 RGR_BOOT.SETTLED 0).rset0 RGR_BOOT.READY_MS 0).journal

/-- START (R348, R350): none begins while SYS_RST_N is asserted, nor after a thermal shutdown (R334). -/
def execStart (s : State) : Result :=
  .next (if s.rgr.startDue && !s.rgr.sysRst && !s.rgr.powerOff then s.beginStart else s)

/-! ### Phases -/

/-- The start has come to phase `k`. -/
def State.atPhase (s : State) (k : Nat) : Bool := s.rgr.starting && decide (s.rgr.nextPhase = k)

/-- Phase `k` has passed its check. -/
def State.phaseDone (s : State) (k : Nat) : State := { s with rgr := { s.rgr with nextPhase := k + 1 } }

/-- A rollback at a device start also sets FAILED to 0 (R357). -/
def State.bootRollback (s : State) (kind : Nat) : State := (s.rollback kind).rset0 RGR_RESET.FAILED 0

/-- A kind whose last trial start ended in a failed start of the device (R356, R357). -/
def State.bootTrial (s : State) (kind : Nat) : State :=
  if s.rgr.trialBad.contains kind && decide (s.rget RGR_UPD.TRIAL kind = 1) &&
      decide (s.rget RGR_UPD.TRIALS kind ≥ s.rget RGR_UPD.TRIAL_MAX kind) then s.bootRollback kind
  else s

/-- A kind's image at boot: the active slot, else the other as if rolled back (R357); none where both fail. -/
def State.bootImage (s : State) (kind : Nat) (activeOk otherOk : Bool) : Option State :=
  if activeOk then some (s.trialStart kind) else if otherOk then some (s.bootRollback kind) else none

/-- Bivouac mode (R350, R351): the mark is cleared and the flag set in one change. -/
def State.enterBivouac (s : State) (reason : Nat) : State :=
  let s := { s with rgr := { s.rgr with startOpen := false, bivouacFlag := true, starting := false, ready := false } }
  (((s.journal.bivouacPins).rset0 RGR_BOOT.BIV_REASON reason).closeBypass).emit (.ibi 0x04)

/-- The first boot after manufacture numbers the logical cores by the fuses, once (R12). -/
def State.firstBoot (s : State) : State :=
  if s.rgr.numbered then s else ({ s.assignCores with rgr := { s.rgr with numbered := true } }).journal

/-- B0 (R12, R348, R357, R369): where both Ranger slots fail, the ROM itself runs Bivouac mode (R351). -/
def execB0 (fusesOk slotAOk slotBOk testEn : Bool) (s : State) : Result :=
  .next (
    if ¬ s.atPhase 0 then s
    else if !fusesOk || testEn || s.rgr.testEn then s.failedStart 0x02
    else
      let s := s.firstBoot.bootTrial 1
      let a := decide (s.rget RGR_UPD.ACTIVE 1 = 0)
      match s.bootImage 1 (if a then slotAOk else slotBOk) (if a then slotBOk else slotAOk) with
      | some s => s.phaseDone 0
      | none => (s.rset0 RGR_BOOT.REASON 0x01).enterBivouac 0x01)

/-- The rails are requested and PWR_REQ is raised (R344, R348). -/
def State.raiseRails (s : State) : State :=
  let s := (s.rset RGR_AVS.TARGET_MV 2 750).emit (.avs 2 750)
  (((s.setRail 0).setRail 1).rset0 RGR_STATUS.PWR_REQ 1).rset0 RGR_STATUS.FAULT_N 1

/-- A start that is not in Bivouac mode clears its flag (R350). -/
def State.leaveBivouac (s : State) : State :=
  let s := (s.rset0 RGR_STATUS.MODE 0).rset0 RGR_BOOT.BIV_REASON 0
  if s.rgr.bivouacFlag then ({ s with rgr := { s.rgr with bivouacFlag := false } }).journal else s

/-- B1 (R348, R351, R357): the trials first, then the Bivouac check, then the rails. -/
def execB1 (railsOk : Bool) (s : State) : Result :=
  .next (
    if ¬ s.atPhase 1 then s
    else
      let s := [0, 1, 2, 3].foldl (fun s k => s.bootTrial k) (s.rset0 RGR_BOOT.PHASE 1)
      let s := { s with rgr := { s.rgr with trialBad := [], lastFailed := false } }
      if s.rget RGR_RESET.FAILED ≥ s.rget RGR_RESET.BIVOUAC_N then s.enterBivouac (s.rget RGR_BOOT.REASON)
      else
        let s := s.leaveBivouac.raiseRails
        if railsOk then s.phaseDone 1 else s.failedStart 0x03)

/-- A crossing's result (R29): LAT = MAX + 2; it passes with MAX − MIN ≤ 3 and LAT ≤ 32. -/
def Xing.measure (x : Xing) (lo hi : Nat) : Xing :=
  { x with min := lo, max := hi, lat := hi + 2, ok := decide (hi ≤ lo + 3) && decide (hi + 2 ≤ 32) }

/-- The crossings are calibrated from their probes: (index, MIN, MAX) (R29). -/
def State.calibrate (s : State) (probes : List (Nat × Nat × Nat)) : State :=
  { s with clk := { s.clk with xings := probes.foldl (fun m e =>
      Assoc.put {} m e.1 ((Assoc.get ({} : Xing) m e.1).measure e.2.1 e.2.2)) s.clk.xings } }

/-- Start edge S (R29): every region sets acc, frac, credit and region_tick to 0, and releases begin. -/
def State.startEdge (s : State) : State :=
  { s with clk := { s.clk with
      gst := 0, acc := 0, frac := 0, steerAt := 0, regions := s.clk.regions.map fun e => (e.1, { e.2 with tick := 0 }),
      xings := s.clk.xings.map fun e => (e.1, { e.2 with wrote := 0, took := 0 }) } }

/-- Every crossing of the device has its probes, and passes (R29, R30). -/
def State.allCalibrated (s : State) (probes : List (Nat × Nat × Nat)) : Bool :=
  (List.range (s.rget CLK_XING_COUNT.COUNT)).all fun i =>
    (probes.any fun e => decide (e.1 = i)) && (Assoc.get ({} : Xing) s.clk.xings i).ok

/-- B2 (R29, R30, R348): all crossings are calibrated at the same time. -/
def execB2 (settled : Bool) (probes : List (Nat × Nat × Nat)) (s : State) : Result :=
  .next (
    if ¬ s.atPhase 2 then s
    else
      let s := s.rset0 RGR_BOOT.PHASE 2
      if ¬ settled then s.failedStart 0x04
      else
        let s := s.startEdge.calibrate probes
        if s.allCalibrated probes then s.phaseDone 2 else s.failedStart 0x05)

/-- B3 (R152, R162, R348): the stacks are identified and trained, and the memory keys generated, which leaves nothing of
what memory held. -/
def execB3 (idOk trained : BitVec 12) (fullRate : Bool) (s : State) : Result :=
  .next (
    if ¬ s.atPhase 3 then s
    else
      let s := s.rset0 RGR_BOOT.PHASE 3
      if idOk ≠ BitVec.allOnes 12 then s.failedStart 0x06
      else
        let s := s.rset0 MEM_STATUS.TRAINED trained.toNat
        if trained ≠ BitVec.allOnes 12 then s.failedStart 0x07
        else
          let s := (s.rset0 MEM_STATUS.FULL_RATE (if fullRate then 1 else 0)).rinc MEM_CRYPT.KEY_EPOCH 0
          ({ s with mem := {} }).phaseDone 3)

/-- B4 (R348, R356, R357). -/
def execB4 (activeOk otherOk : Bool) (s : State) : Result :=
  .next (
    if ¬ s.atPhase 4 then s
    else
      let s := s.rset0 RGR_BOOT.PHASE 4
      match s.bootImage 0 activeOk otherOk with
      | some s => s.phaseDone 4
      | none => s.failedStart 0x08)

/-- READY (R348): the ports with ENABLE = 1 begin bring-up. -/
def State.reachReady (s : State) (elapsedMs : Nat) : State :=
  let s := { s.rset0 RGR_BOOT.READY_MS elapsedMs with rgr := { s.rgr with starting := false, ready := true, libPend := false } }
  ((List.range 18).filter fun p => decide (s.rget KL_PORT_STATUS.STATE p = 0) && decide (s.rget KL_PORT_CTRL.ENABLE p = 1)).foldl
    (fun s p => s.bringUp p) s

/-- B5 (R348, R356, R357): link microcode runs its trial starts with its ports' bring-ups. -/
def execB5 (linkActiveOk linkOtherOk libActiveOk libOtherOk : Bool) (elapsedMs : Nat) (s : State) : Result :=
  .next (
    if ¬ s.atPhase 5 then s
    else
      let s := s.rset0 RGR_BOOT.PHASE 5
      if !linkActiveOk && !linkOtherOk then s.failedStart 0x09
      else
        let s := if linkActiveOk then s else s.bootRollback 2
        match s.bootImage 3 libActiveOk libOtherOk with
        | none => s.failedStart 0x0A
        | some s => if elapsedMs > 2000 then s.failedStart 0x0B else s.reachReady elapsedMs)

/-- SETTLE_POINT (R349, R350). -/
def execSettlePoint (s : State) : Result :=
  .next (
    if s.rgr.ready && decide (s.rget RGR_BOOT.SETTLED = 0) then
      let s := (s.rset0 RGR_RESET.FAILED 0).rset0 RGR_BOOT.SETTLED 1
      ({ s with rgr := { s.rgr with startOpen := false, lastFailed := false } }).journal
    else s)

end Sys2Proof.Machine
end

