-- ==== Sys2Proof/Machine/Recal.lean ====
section
/-! DEFINITION. Recalibration of a region (R360 to R362) and the retirement of a core (R13, R14, R364). -/
namespace Sys2Proof.Machine

/-! ### CLK_RECAL (R361) -/

/-- The gap lets a core region recalibrate: G ≥ V + 19,776 (R361). -/
def State.gapFits (s : State) : Bool :=
  decide (s.frame.gap ≥ s.rget PLAN_VAR_VTICKS.VERDICT_TICKS (s.plan.active.getD 0) + 19776)

/-- A region may recalibrate (R361): a core region in a gap long enough, any region while no frames run. -/
def State.mayRecal (s : State) (r : Nat) : Bool :=
  decide (r < 288) && s.rgr.recal.isNone && (decide (s.frame.phase = .idle) || (isCoreRegion r && s.gapFits))

/-- A recalibration waits for its boundary. -/
def State.armRecal (s : State) (r : Nat) : State :=
  let s := (s.rset0 CLK_RECAL.STATE 1).rset0 CLK_RECAL.RESULT 0
  { s with rgr := { s.rgr with recal := some r } }

/-- A request of CLK_RECAL.GO. -/
def State.recalReq (s : State) (r : Nat) : State := if s.mayRecal r then s.armRecal r else s.rset0 CLK_RECAL.RESULT 5

/-- A write of CLK_RECAL. -/
def State.recalWrite (s : State) (region : Nat) (go : Bool) : State :=
  let s := s.rset0 CLK_RECAL.REGION region
  if go then s.recalReq (s.rget CLK_RECAL.REGION) else s

/-- CLK_RECAL (R361). -/
def execClkRecal (agent : Agent) (value : Nat) (s : State) : Result :=
  .next (s.regWrite agent 0x10060 fun s => s.recalWrite (bitsOf value 0 9) (bitAt value 9))

/-! ### RECALIBRATION (R360, R361) -/

/-- W, if the time has come: A + 1,024 of a boundary for a core region while frames run, now while none do. -/
def State.recalStart (s : State) (r : Nat) : Option Nat :=
  if s.frame.phase = .idle then some s.gst
  else if s.frame.phase = .applied ∧ s.gst ≥ s.applyAt + 1024 ∧ isCoreRegion r = true then some (s.applyAt + 1024)
  else none

/-- RECALIBRATION (R360): the region stops issuing ticks. -/
def execRecalibration (s : State) : Result :=
  .next (match s.rgr.recal with
    | some r =>
      if s.rget CLK_RECAL.STATE = 1 then
        match s.recalStart r with
        | some w => { s.rset0 CLK_RECAL.STATE 2 with rgr := { s.rgr with recalW := w } }
        | none => s
      else s
    | none => s)

/-! ### RECALIBRATION_RESULT (R362) -/

/-- The greatest LAT that every ACTIVE or READY variant's assumptions allow. -/
def State.latLimit (s : State) : Nat :=
  ((List.range 4).filter fun v => decide (s.rget PLAN_VAR_STATE.STATE v = 2 ∨ s.rget PLAN_VAR_STATE.STATE v = 3)).foldl
    (fun m v => Nat.min m (timingXing (s.variant v).image)) 32

/-- What a probe gives: 1 LAT unchanged, 2 a new LAT, 3 its spread above 3, 4 beyond the assumptions. -/
def State.probeResult (s : State) (limit : Nat) (e : Nat × Nat × Nat) : Nat :=
  if e.2.2 > e.2.1 + 3 then 3
  else if e.2.2 + 2 > limit then 4
  else if e.2.2 + 2 = (Assoc.get ({} : Xing) s.clk.xings e.1).lat then 1
  else 2

/-- The result of all a region's crossings. -/
def joinResults (l : List Nat) : Nat :=
  if l.contains 3 then 3 else if l.contains 4 then 4 else if l.contains 2 then 2 else 1

/-- The crossings that start or end in a region (R360). -/
def State.xingsOf (s : State) (r : Nat) : List Nat :=
  (List.range (s.rget CLK_XING_COUNT.COUNT)).filter fun i => decide (xingFrom i = r) || decide (xingTo i = r)

/-- The probes of a region's crossings. -/
def State.probesOf (s : State) (r : Nat) (probes : List (Nat × Nat × Nat)) : List (Nat × Nat × Nat) :=
  probes.filter fun e => (s.xingsOf r).contains e.1

/-- Every crossing of a region has its probes. -/
def State.probed (s : State) (r : Nat) (probes : List (Nat × Nat × Nat)) : Bool :=
  (s.xingsOf r).all fun i => probes.any fun e => decide (e.1 = i)

/-- A region's results (R362): accepted ones are taken, the others leave their crossing as it was. -/
def State.takeProbes (s : State) (r : Nat) (probes : List (Nat × Nat × Nat)) : Nat × State :=
  let limit := s.latLimit
  let mine := s.probesOf r probes
  let s' := s.calibrate (mine.filter fun e => decide (s.probeResult limit e ≤ 2))
  (joinResults (mine.map fun e => s.probeResult limit e),
   { s' with rgr := { s'.rgr with leaving := s'.rgr.leaving.filter fun e => decide (e.1 ≠ r) } })

/-! ### Retirement (R13, R364) -/

/-- The lowest spare of a die. -/
def State.lowestSpare (s : State) (die : Nat) : Option Nat :=
  ((List.range 136).map fun i => 144 * die + i).find? fun r => s.pcoreState r = 1

/-- RGR_RETIRE's fields of a pending retirement. -/
def State.showRetire (s : State) (old spare result : Nat) : State :=
  let s := ((s.rset0 RGR_RETIRE.PENDING 1).rset0 RGR_RETIRE.PCORE (old % 144)).rset0 RGR_RETIRE.PDIE (dieOf old)
  (s.rset0 RGR_RETIRE.SPARE spare).rset0 RGR_RETIRE.RESULT result

/-- The lowest spare comes to P0 and recalibrates, as a region that leaves P5 does (R360); with none left the logical core loses
its place (R13), with RESULT 2, or 3 where spares have failed. -/
def State.trySpare (s : State) (old : Nat) (failed : Bool) : State :=
  match s.lowestSpare (dieOf old) with
  | some spare =>
    let s := ((s.showRetire old (spare % 144) 0).regionTo spare 0).leaveP5 spare
    { s with rgr := { s.rgr with retireTry := some old } }
  | none =>
    let s := s.showRetire old 0 (if failed then 3 else 2)
    { s with rgr := { s.rgr with retireTry := none, retire := some (old, 288) } }

/-- A spare has recalibrated: the map change waits, or the next spare is tried (R364). -/
def State.spareResult (s : State) (old spare result : Nat) : State :=
  if result ≤ 2 then { s with rgr := { s.rgr with retireTry := none, retire := some (old, spare) } }
  else ((({ s with pcores := Assoc.insert s.pcores spare 2 }).rinc IDENT_MAP_GEN.GEN 0).journal).trySpare old true

/-- A region that left P5 takes its results (R360, R362); the spare that a retirement tries is judged by them (R364). -/
def State.leftP5 (s : State) (r : Nat) (probes : List (Nat × Nat × Nat)) : State :=
  let (res, s) := s.takeProbes r probes
  match s.rgr.retireTry with
  | some old => if s.spareTried = some r then s.spareResult old r res else s
  | none => s

/-- The regions that left P5 and have been probed for 16,640 ticks take their results, and may issue ticks (R27, R360). -/
def State.leavingDone (s : State) (probes : List (Nat × Nat × Nat)) : State :=
  let due := s.rgr.leaving.filter fun e => decide (e.2 + 16639 ≤ s.gst) && s.probed e.1 probes
  (due.foldl (fun s e => s.leftP5 e.1 probes) s).endLoads

/-- The requested recalibration has its results (R361, R362). -/
def State.recalDone (s : State) (probes : List (Nat × Nat × Nat)) : State :=
  match s.rgr.recal with
  | some r =>
    if s.rget CLK_RECAL.STATE = 2 ∧ s.gst ≥ s.rgr.recalW + 16639 ∧ s.probed r probes = true then
      let (res, s) := s.takeProbes r probes
      { (s.rset0 CLK_RECAL.STATE 0).rset0 CLK_RECAL.RESULT res with rgr := { s.rgr with recal := none } }
    else s
  | none => s

/-- RECALIBRATION_RESULT (R27, R360, R362, R364): at the end of W + 16,639, the probes (crossing, MIN, MAX). -/
def execRecalibrationResult (probes : List (Nat × Nat × Nat)) (s : State) : Result := .next ((s.recalDone probes).leavingDone probes)

/-- CORE_RETIRE's effect and status (R336, R364). -/
def State.retireCore (s : State) (old : Nat) : State × Nat :=
  if (s.coreOfRegion old).isNone ∨ s.rgr.retireTry.isSome ∨ s.rgr.retire.isSome then (s, 0x01)
  else (s.trySpare old false, 0x00)

end Sys2Proof.Machine
end

