-- ==== Sys2Proof/Machine/Regs.lean ====
section
/-! DEFINITION. Register writes (R6, R7, R18 to R20, R327, R328): the parts of an access, what each register takes, the
doorbells and the MSI-X table (R290, R293, R294, R303), and JTAG (R370). -/
namespace Sys2Proof.Machine

/-! ### An access and its parts -/

/-- The part of an access that falls on one register: its offset, the bits enabled and their values. -/
structure RegPart where
  off : Nat
  mask : Nat
  value : Nat
  deriving DecidableEq, Repr

/-- The register that a byte of BAR0 belongs to. -/
def regBase (a : Nat) : Nat := if regBytes (a / 8 * 8) = 8 then a / 8 * 8 else a / 4 * 4

/-- One more byte of an access joins its register's part. -/
def addByte (ps : List RegPart) (b : Nat × Byte) : List RegPart :=
  let base := regBase b.1
  let sh := 2 ^ (8 * (b.1 - base))
  let one : RegPart := ⟨base, 255 * sh, b.2.toNat * sh⟩
  if ps.any fun p => p.off = base then
    ps.map fun p => if p.off = base then ⟨base, p.mask + one.mask, p.value + one.value⟩ else p
  else ps ++ [one]

/-- The parts of an access, from its enabled bytes. -/
def regPartsOf (bytes : List (Nat × Byte)) : List RegPart := bytes.foldl addByte []

/-- The enabled bytes of a write of `size` bytes at an offset. -/
def enabledBytes (off size be value : Nat) : List (Nat × Byte) :=
  ((List.range size).filter fun i => be.testBit i).map fun i => (off + i, byteOf value i)

/-- A part covers at least one bit of a field. -/
def RegPart.hits (p : RegPart) (f : Field) : Bool := decide (bitsOf p.mask f.lo f.width ≠ 0)

/-- The value of a whole register after the part's bits are written over it. -/
def RegPart.onto (p : RegPart) (old : Nat) : Nat := p.value + (old - (old &&& p.mask))

/-- The value of a field after the part's bits are written over it. -/
def RegPart.field (p : RegPart) (f : Field) (old : Nat) : Nat :=
  bitsOf p.value f.lo f.width + (old - (old &&& bitsOf p.mask f.lo f.width))

/-- A part covers at least one bit of an RGO field (R7). The rejected-write log is the Ranger's
too (R327, R328). -/
def RegPart.coversRgo (p : RegPart) : Bool :=
  (decide (0x701000 ≤ p.off) && decide (p.off < 0x701400)) ||
  match regAt p.off with
  | some (w, _) => w.fields.any fun e => decide (e.2 = .rgo) && p.hits e.1
  | none => false

/-! ### What a field takes -/

/-- Values that a field ignores on a write (the register tables of spec/02, 08, 10, 11, 13). -/
def fieldTakes (f : Field) (v : Nat) : Bool :=
  if f = CLK_STEER_CFG.INTERVAL_LOG2 then decide (10 ≤ v) && decide (v ≤ 16)
  else if f = CLK_HOLDOVER.FRAMES ∨ f = CLK_HOLDOVER.IDLE_MS ∨ f = CLK_PIN_CFG.WINDOW_US ∨ f = GL_CTRL.CORR_MS then decide (v ≠ 0)
  else if f = CLK_PIN_CFG.DEBT_THRESH then decide (1 ≤ v) && decide (v ≤ 64)
  else if f = KL_GRACE.GRACE then decide (1 ≤ v) && decide (v ≤ 500)
  else if f = FAB_SAMPLE_CFG.RATE_LOG2 then decide (4 ≤ v) && decide (v ≤ 24)
  else if f = MEM_PF_CFG.MAX_DEPTH then decide (4 ≤ v) && decide (v ≤ 64)
  else if f = ROLL_ALT.SPAN_LOG2 then decide (v ≠ 15)
  else true

/-- One field of register number `i` under a write: RW takes the new value, RW1C falls where a 1 is written, and every
other field ignores it (spec/00's access codes, R7). -/
def State.fieldWrite (s : State) (i : Nat) (p : RegPart) (e : Field × Access) : State :=
  let old := s.rget e.1 i
  if ¬ p.hits e.1 then s
  else match e.2 with
    | .rw =>
      let v := p.field e.1 old
      if fieldTakes e.1 v then s.rset e.1 i v else s
    | .rw1c => s.clearBits e.1 i (bitsOf p.value e.1.lo e.1.width)
    | _ => s

/-- A register's fields under a write. -/
def State.rowWrite (s : State) (w : RegRow) (i : Nat) (p : RegPart) : State := w.fields.foldl (fun s e => s.fieldWrite i p e) s

/-- ROLL_CFG's ranges hold (spec/13): a write that breaks one is ignored whole. -/
def State.rollCfgOk (s : State) : Bool :=
  let hb := s.rget ROLL_CFG.HB_US
  let loss := s.rget ROLL_CFG.LOSS_US
  decide (4 ≤ hb) && decide (hb ≤ 16) && decide (16 ≤ loss) && decide (loss ≤ 127) && decide (4 * hb ≤ loss) &&
    decide (16 ≤ s.rget ROLL_CFG.COLLECT_US) && decide (100 ≤ s.rget ROLL_CFG.ACK_US)

/-- A write of a register that needs no more than its fields, with what follows from them: ROLL_CFG's ranges, the bypass
under GL_CTRL.ENABLE = 0 (R234), and the counts under TEL_CTRL.ENABLE = 0 (R257). -/
def State.plainWrite (s : State) (p : RegPart) : State :=
  match regAt p.off with
  | none => s
  | some (w, i) =>
    let t := s.rowWrite w i p
    if p.off = 0x600018 then (if t.rollCfgOk then t else s)
    else if p.off = 0x340008 then (if t.rget GL_CTRL.ENABLE = 0 then t.closeBypass else t)
    else if p.off = 0x900000 then
      (if t.rget TEL_CTRL.ENABLE = 0 then { t with fab := { t.fab with tel := [], telMilli := 0 } } else t)
    else t

/-! ### Registers with effects of their own -/

/-- PLAN_FAULT_HEAD under a part (R72): TAIL where it is enabled, else only OVF's clear. -/
def State.faultTailPart (s : State) (p : RegPart) : State :=
  if p.hits PLAN_FAULT_HEAD.TAIL then s.faultTail (p.onto (s.regValue p.off % 2 ^ 31)) else s.plainWrite p

/-- One part of an access by an agent: each register's own effect, as its command has it. -/
def State.partWrite (s : State) (a : Agent) (p : RegPart) : State :=
  let o := p.off
  let v := p.onto (s.agentValue a o)
  if o = 0x10020 then s.rateReq p.value
  else if o = 0x10060 then
    (if p.hits CLK_RECAL.REGION || p.hits CLK_RECAL.GO then s.recalWrite (bitsOf v 0 9) (bitAt p.value 9) else s)
  else if 0x11000 ≤ o ∧ o < 0x11480 then (if p.hits CLK_REGION_CEIL.CEIL_MHZ then s.ceilWrite ((o - 0x11000) / 4) v else s)
  else if o = 0x20014 then s.wakeSend a p.value
  else if o = 0x40300 then s.faultTailPart p
  else if 0x100000 ≤ o ∧ o < 0x200000 then
    (if o % 0x1000 = 0x200 ∧ s.hasWindow ((o - 0x100000) / 0x1000) = true then s.setSvcArea ((o - 0x100000) / 0x1000) v else s)
  else if 0x300000 ≤ o ∧ o < 0x312000 ∧ o % 0x1000 = 8 then s.portCtrl ((o - 0x300000) / 0x1000) v
  else if o = 0x380000 then s.fabIdWrite (bitsOf v 0 14) (bitAt p.value 31)
  else if o = 0x380008 then s.dimsWrite v
  else if o = 0x401000 then (if p.hits SRV_CTX_SEL.ID then s.ctxSelWrite v else s)
  else if 0x500000 ≤ o ∧ o < 0x580000 then s.hostQWrite a ((o - 0x500000) / 8) v
  else if 0x580108 ≤ o ∧ o < 0x580900 then s.qmapWrite ((o - 0x580100) / 8) v
  else if o = 0x600020 then s.rollReq p.value
  else if o = 0x800100 then (if p.hits AUD_TRAIL_SEL.ID then s.trailSelWrite v else s)
  else if o = 0x900010 then (if p.hits TEL_PUSH.GO then s.telPushWrite (bitAt v 0) (bitAt v 1) else s)
  else s.plainWrite p

/-- Whether an agent's access may write at every one of its bytes (R18, R20). -/
def accessAllowed (a : Agent) (bytes : List (Nat × Byte)) : Bool := bytes.all fun b => agentWrites a b.1

/-- A remote device's access that R18 refuses. -/
def remoteRefused (a : Agent) (bytes : List (Nat × Byte)) : Bool :=
  match a with
  | .remote _ => !accessAllowed a bytes
  | _ => false

/-- One access to BAR0 by an agent (R7, R18, R20, R328): at most one entry in the log, then the parts that it may
write. In Bivouac mode no register takes a write (R351). -/
def State.busWrite (s : State) (a : Agent) (off : Nat) (bytes : List (Nat × Byte)) : State :=
  let parts := regPartsOf bytes
  let s := if parts.any RegPart.coversRgo || remoteRefused a bytes then s.logReject a off else s
  if s.bivouac || remoteRefused a bytes then s
  else (parts.filter fun p => agentWrites a p.off).foldl (fun s p => s.partWrite a p) s

/-! ### BAR2 and BAR4 (R290, R293, R303) -/

/-- A 4-byte word of a queue page in BAR2 (R293, R294). -/
def State.pageWrite (s : State) (a : Agent) (o be value : Nat) : State :=
  let q := o / 64
  let mask := ((List.range 4).map fun i => if be.testBit i then 255 * 2 ^ (8 * i) else 0).sum
  if mask = 0 then s
  else match o % 64 with
    | 0x00 => s.queuePage a q fun s g => s.sqTail g ((value &&& mask) % 65536)
    | 0x08 => s.queuePage a q fun s g => s.cqHead g ((value &&& mask) % 65536)
    | 0x18 => s.queuePage a q fun s g =>
      let old := (s.hq g).modCount + 256 * (s.hq g).modTime
      s.dbMod g ((value &&& mask) + (old - (old &&& mask)))
    | _ => s

/-- A 4-byte word of a function's MSI-X table in BAR4 (R303): words 0 to 2 are the message's address and data, and
bit 0 of word 3 masks the vector. The PBA is read-only. -/
def State.msixWrite (s : State) (f o be value : Nat) : State :=
  let v := o / 16
  let mask := ((List.range 4).map fun i => if be.testBit i then 255 * 2 ^ (8 * i) else 0).sum
  let key := 4 * (2048 * f + v) + o % 16 / 4
  if o ≥ 0x8000 ∨ mask = 0 then s
  else if o % 16 = 12 then (if be.testBit 0 then s.maskVector f v (bitAt value 0) else s)
  else
    let old := Assoc.get 0 s.host.msix key
    { s with host := { s.host with msix := Assoc.put 0 s.host.msix key ((value &&& mask) + (old - (old &&& mask))) } }

/-- The 4-byte words of an access: offset, byte enables and value of each. -/
def accessWords (off size be value : Nat) : List (Nat × Nat × Nat) :=
  (List.range (size / 4)).map fun i => (off + 4 * i, be / 16 ^ i % 16, bitsOf value (32 * i) 32)

/-- A host function's access to BAR2 or BAR4; in Bivouac mode neither takes a write (R351). -/
def State.pageAccess (s : State) (a : Agent) (off size be value : Nat) : State :=
  match hostFunc a with
  | none => s
  | some f =>
    if s.bivouac ∨ off % 4 ≠ 0 then s
    else (accessWords off size be value).foldl (fun s w =>
      if w.1 < 2 * 2 ^ 24 then s.pageWrite a (w.1 - 2 ^ 24) w.2.1 w.2.2 else s.msixWrite f (w.1 - 2 * 2 ^ 24) w.2.1 w.2.2) s

/-- A write of `size` bytes with byte enables `be`: BAR0 at its offset, BAR2 from 2²⁴ and BAR4 from 2²⁵ (log 39). -/
def State.memWriteReg (s : State) (a : Agent) (off size be value : Nat) : State :=
  if off < 2 ^ 24 then s.busWrite a off (enabledBytes off size be value) else s.pageAccess a off size be value

/-- REGISTER_WRITE (R6, R7, R18, R20). -/
def execRegisterWrite (agent : Agent) (off size be value : Nat) (s : State) : Result :=
  .next (s.memWriteReg agent off size be value)

/-! ### JTAG (R370) -/

/-- The IDCODE (R370). -/
def idcode : Nat := 0x10960A5B

/-- A JTAG instruction (R370): 0 BYPASS, 1 IDCODE, 2 a register write, any other a boundary scan, whose captured levels
are free (log 2). While SYS_RST_N is released all but IDCODE behave as BYPASS. `jtag` holds what the instruction
captures. -/
def State.jtagIr (s : State) (ir off value : Nat) : State :=
  let capture (s : State) (v : Nat) : State := { s with rgr := { s.rgr with jtag := v } }
  if ir = 1 then capture s idcode
  else if ¬ s.rgr.sysRst ∨ ir = 0 then capture s 0
  else if ir = 2 then (capture s 0).busWrite .jtag off (enabledBytes off 4 15 value)
  else
    let (k, s) := s.draw
    capture s (Config.freeNat k)

/-- JTAG_INSTRUCTION (R370). -/
def execJtagInstruction (ir : Nat) (off value : Nat) (s : State) : Result := .next (s.jtagIr ir off value)

end Sys2Proof.Machine
end

