-- ==== Sys2Proof/Machine/Fabric.lean ====
section
/-! DEFINITION. The service plane at this device (spec/11): what a packet reaches (R16 to R18, R156), the gates of
sleeping regions (R253 to R255, R318), requests, responses and broadcasts (R246, R250, R251), and the hops of packets
that pass through (R245, R247, R249). -/
namespace Sys2Proof.Machine

/-! ### Places (R16 to R18, R156) -/

/-- What a service access reaches. -/
inductive Place
  | mem (off : Nat)
  | spad (core addr : Nat)
  | reg (off : Nat)

/-- The place of `n` bytes at an Afruak address of this device; none where R17 or R156 refuses the access. A command
processor's access may reach the reserved areas. -/
def State.place (s : State) (addr n : Nat) (cp : Bool) : Option Place :=
  let space := bitsOf addr 48 2
  let off := bitsOf addr 0 48
  let n := Nat.max 1 n
  if space = 0 then (if off + n ≤ installed ∧ (cp || !inReserved off n) = true then some (.mem off) else none)
  else if space = 1 then
    (if off + n ≤ 2 ^ 30 ∧ windowCore off = windowCore (off + n - 1) ∧ s.coreValid (windowCore off) = true then
      some (.spad (windowCore off) (off % 2 ^ 22))
     else none)
  else if space = 2 ∧ off + n ≤ 2 ^ 24 then some (.reg off)
  else none

/-- The regions through whose gates an access goes: the core's, the memory regions', or the control region. -/
def State.gateRegions (s : State) (p : Place) (n : Nat) : List Nat :=
  match p with
  | .mem off => ((burstParts (n + 1) off (Nat.max 1 n)).map fun e => regionOfStack (stackOf e.1)).eraseDups
  | .spad c _ => [s.regionOfCore c]
  | .reg _ => [143]

/-! ### Gates (R253 to R255, R318) -/

/-- WAKE as it counts for an arrival: 0 for a sleep that the profile schedules (R255), in D1 and deeper (R318), and in
the fail-safe state (R330). -/
def State.gateWakes (s : State) (r : Nat) : Bool :=
  decide (s.rget FAB_GATE.WAKE r = 1) && decide (s.rget PWR_REGION.SCHED r = 0) && decide (s.rget PWR_STATE.DSTATE = 0) && !s.failSafe

/-- RETRY_AFTER in µs (R254, R255, R318). -/
def State.retryAfter (s : State) (r : Nat) : Nat :=
  let byTarget := match (s.region r).target with
    | 3 => 1
    | 4 => 10
    | _ => 100
  match s.rget PWR_STATE.DSTATE with
  | 0 =>
    if s.rget PWR_REGION.SCHED r = 1 then
      match (s.region r).sleep with
      | some (_, stop, _) => ceilDiv (stop - s.ftick) (rateMHz (s.rget CLK_STATUS.RATE_IDX))
      | none => byTarget
    else byTarget
  | 1 => 10
  | 2 => 100
  | 3 => 1000
  | _ => 10000

/-- A region's response to a request (R244). -/
def State.respond (s : State) (k : Packet) (status : Nat) (data : List Byte) : State := s.originate (responseTo k status data)

/-- The porch with one more access: in order of arrival, and within one tick by port, this device's own last (R254). -/
def intoPorch (e : Nat × Nat × Packet) : List (Nat × Nat × Packet) → List (Nat × Nat × Packet)
  | [] => [e]
  | x :: rest => if e.1 = x.1 ∧ e.2.1 < x.2.1 then e :: x :: rest else x :: intoPorch e rest

/-- A request at a gate that is not open (R254): held in the porch, or answered ASLEEP. -/
def State.atClosedGate (s : State) (r inPort : Nat) (k : Packet) : State :=
  let x := s.region r
  if s.gateWakes r && decide (x.porch.length < 16) then
    let s := s.setRegion r { x with porch := intoPorch (s.gst, inPort, k) x.porch }
    let s := s.rset FAB_GATE.HELD r (x.porch.length + 1)
    if s.rget FAB_GATE.STATE r = 2 then s.rset FAB_GATE.STATE r 3 else s
  else (s.fabCount 4).respond k 0x0D (bytesOf (s.retryAfter r) 4)

/-- An access wakes a region at P1 or P2, unless a profile's sleep holds it there (R253, R255). -/
def State.wakeIdle (s : State) (r : Nat) : State :=
  let p := s.rget PWR_REGION.PSTATE r
  if (p = 1 ∨ p = 2) ∧ s.rget PWR_REGION.SCHED r = 0 then s.rset PWR_REGION.PSTATE r 0 else s

/-! ### READ and WRITE (R17, R18, R156, R160, R170, R174) -/

/-- The service DMA channel of a die that is free. -/
def State.freeChannelOf (s : State) (die : Nat) : Option Nat :=
  ((List.range 16).map fun ch => 16 * die + ch).find? fun k => !(Assoc.get ({} : SvcDma) s.mem.svcDma k).busy

/-- The state with a service DMA channel replaced. -/
def State.setSvcDma (s : State) (k : Nat) (d : SvcDma) : State :=
  { s with mem := { s.mem with svcDma := Assoc.put {} s.mem.svcDma k d } }

/-- A request for a scratchpad outside a service window takes a service DMA channel under a lease (R174, R287). -/
def State.holdForWindow (s : State) (inPort : Nat) (k : Packet) (r : Nat) : State :=
  match s.freeChannelOf (dieOf r) with
  | none => s.parkAt inPort k false
  | some ch =>
    let l : Lease := { kind := 1, owner := k.src, server := s.ownId, item := ch }
    let s := s.setSvcDma ch { busy := true, requester := some k.src, pkt := some (inPort, k), prio := k.status % 4, gates := [r] }
    ({ s with roll := { s.roll with leases := s.roll.leases ++ [l] } }).showLeases

/-- The die that an access comes from: its arriving port's, or die 0 for this device's own (R10, R11). -/
def inPortDie (inPort : Nat) : Nat := if inPort < 18 then inPort / 9 else 0

/-- The die that holds a place. -/
def State.placeDie (s : State) (p : Place) : Nat :=
  match p with
  | .mem off => off / dieBytes
  | .spad c _ => s.dieOfCore c
  | .reg _ => 0

/-- The bytes that a READ returns: the status with them. -/
def State.readPlace (s : State) (k : Packet) (p : Place) : Nat × List Byte × State :=
  match p with
  | .mem off =>
    let (bs, bad, s) := s.svcRead off k.len physTweak (reqRemote k.src)
    if bad then (0x0C, [], s) else (0, bs, s)
  | .spad c a => if spadBad (s.core c) a k.len then (0x0C, [], s) else (0, spadBytes (s.core c) a k.len, s)
  | .reg off =>
    let (bs, s) := s.busRead (.remote k.src) off k.len
    (0, bs, s)

/-- A WRITE's effect: its status. -/
def State.writePlace (s : State) (k : Packet) (p : Place) : Nat × State :=
  let bs := k.data.take k.len
  match p with
  | .mem off =>
    let (bad, s) := s.svcWrite off bs physTweak
    (if bad then 0x0C else 0, s)
  | .spad c a =>
    let x := s.core c
    (if spadWriteBad x a bs.length then 0x0C else 0, s.setCore c (spadWrite x a bs))
  | .reg off =>
    let bytes := ((List.range bs.length).zip bs).map fun e => (off + e.1, e.2)
    let a := Agent.remote k.src
    (if remoteRefused a bytes then 0x04 else 0, s.busWrite a off bytes)

/-- A request takes its effect and is answered; its bytes cross the bridge where its place lies on the other die (R11). -/
def State.perform (s : State) (inPort : Nat) (k : Packet) (p : Place) : State :=
  if k.kind = 0x01 then
    let (st, bs, s) := (s.crossBridge (s.placeDie p) (inPortDie inPort) k.len).readPlace k p
    s.respond k st bs
  else
    let (st, s) := (s.crossBridge (inPortDie inPort) (s.placeDie p) k.len).writePlace k p
    s.respond k st []

/-- The flits of the response to a request (R244). -/
def responseFlits (k : Packet) : Nat := ceilDiv (16 + (if k.kind = 0x01 then k.len else 4)) 240

/-- The space of the outgoing channel-2 buffer that is taken or reserved: responses on their way out, and those of the requests
held in porches and for a service window (R246). -/
def State.responseSpace (s : State) : Nat :=
  s.bufferFlits 31 2 false + ((s.clk.regions.flatMap fun e => e.2.porch).map fun e => responseFlits e.2.2).sum +
    ((s.mem.svcDma.filterMap fun e => e.2.pkt).map fun e => responseFlits e.2).sum

/-- A READ or a WRITE at its target (R17, R18, R246, R254): it waits while the outgoing channel-2 buffer has no room for its
response (32 flits, as every buffer of R245; log 66); else refused, at a gate, waiting for a service window, or served. -/
def State.serveRequest (s : State) (inPort : Nat) (k : Packet) : State :=
  if 32 < s.responseSpace + responseFlits k then s.parkAt inPort k false
  else
  match s.place k.addr k.len false with
  | none => s.respond k 0x04 []
  | some p =>
    let rs := s.gateRegions p k.len
    match rs.find? fun r => decide (s.rget FAB_GATE.STATE r ≠ 0) with
    | some r => s.atClosedGate r inPort k
    | none =>
      let s := rs.foldl State.wakeIdle s
      match p with
      | .spad c _ => if s.inWindow then s.perform inPort k p else s.holdForWindow inPort k (s.regionOfCore c)
      | _ => s.perform inPort k p

/-- A packet of a kind arrives (R244 to R246): on another channel than its kind's it is discarded and counted; one for
another device waits for a hop; one for this device sinks. -/
def State.packetAt (s : State) (kind inPort : Nat) (k : Packet) (sink : State → Packet → State) : State :=
  let k := { k with kind := kind }
  if kindVc kind ≠ some k.vc then s.fabCount 7
  else if k.dest ≠ s.ownId then s.parkAt inPort k false
  else sink ((s.sampleRecord k inPort 31 false s.gst).fabCount 1) k

/-- An arriving port exists; 31 stands for this device itself. -/
def inPortOk (p : Nat) : Bool := decide (p < 18) || decide (p = 31)

/-- READ (R17, R156, R246). -/
def execRead (inPort : Nat) (pkt : Packet) (s : State) : Result :=
  onUnit s (inPortOk inPort) (s.packetAt 0x01 inPort pkt fun s k => s.serveRequest inPort k)

/-- WRITE (R17, R18, R156, R246). -/
def execWrite (inPort : Nat) (pkt : Packet) (s : State) : Result :=
  onUnit s (inPortOk inPort) (s.packetAt 0x02 inPort pkt fun s k => s.serveRequest inPort k)

/-! ### Broadcasts (R250, R251) -/

/-- The children of a tree. -/
def State.childrenOf (s : State) (t : Nat) : List Nat := (List.range 18).filter fun p => (s.rget FAB_TREE.CHILDREN t).testBit p

/-- A BWRITE is accepted: from the tree's parent, or at its root from the command processors (R250). -/
def State.treeAccepts (s : State) (inPort : Nat) (k : Packet) : Bool :=
  k.bcast && decide (s.rget FAB_TREE.ENABLE k.tree = 1) && decide (s.rget FAB_TREE.PARENT k.tree = inPort)

/-- A member's own write of a BWRITE, at ADDR's offset in its memory. One that a command processor issued, which is one
of the tree's root, may reach the reserved areas (R156, R250). -/
def State.treeWrite (s : State) (inPort : Nat) (k : Packet) : Nat × State :=
  let byCp := decide (inPort = 31) || decide (k.src = s.rget FAB_TREE.ROOT k.tree)
  match s.place (bitsOf k.addr 0 50) k.len byCp with
  | some (.mem off) => s.writePlace k (.mem off)
  | _ => (0x04, s)

/-- A child's port may still carry the copy: UP, or within its grace (R226, R250). -/
def State.childAlive (s : State) (p : Nat) : Bool :=
  decide (s.rget KL_PORT_STATUS.STATE p = 7) || decide (s.rget KL_PORT_STATUS.STATE p = 8)

/-- A BWRITE at a member (R250, R251): the write, the wait for its children's BACKs, and the copy that waits until every
child's buffer can take it whole. A child whose port is down counts as FLUSHED. -/
def State.broadcast (s : State) (inPort : Nat) (k : Packet) : State :=
  let (k, s) := if inPort = 31 then s.stampPacket k else (k, s)
  let s := ((if k.hops ≤ 1 then s.sampleRecord k inPort 31 false s.gst else s).fabCount 1)
  let kids := s.childrenOf k.tree
  let w : TreeWait := { tag := k.tag, tree := k.tree, parent := inPort, waiting := kids, status := 0 }
  let s := s.setTrees (s.fab.trees ++ [w])
  let s := if (kids.filter s.childAlive).isEmpty then s else s.parkAt inPort k false
  let (st, s) := s.treeWrite inPort k
  let s := s.treeStatus k.tree k.tag none st
  (kids.filter fun p => !s.childAlive p).foldl (fun s p => s.treeStatus k.tree k.tag (some p) 0x0E) s

/-- The children that a waiting copy still goes to: those of its broadcast whose status is not in. -/
def State.copyPorts (s : State) (k : Packet) : List Nat :=
  match s.fab.trees.find? fun w => decide (w.tree = k.tree ∧ w.tag = k.tag) with
  | some w => w.waiting
  | none => []

/-- BWRITE (R250): from any other port than the tree's parent it is discarded and counted. -/
def execBwrite (inPort : Nat) (pkt : Packet) (s : State) : Result :=
  let k := { pkt with kind := 0x06 }
  onUnit s (inPortOk inPort) (if k.vc = 3 ∧ s.treeAccepts inPort k = true then s.broadcast inPort k else s.fabCount 7)

/-- BACK (R251): a child's status; the root's own ends its command there. -/
def execBack (inPort : Nat) (pkt : Packet) (s : State) : Result :=
  onUnit s (inPortOk inPort) (s.packetAt 0x07 inPort pkt fun s k =>
    if inPort < 18 then s.treeStatus k.tree k.tag (some inPort) k.status else s)

/-! ### Responses and host packets (R246, R258) -/

/-- A part of a service DMA is answered (R174): its bytes take their place, or its status ends the DMA. -/
def State.partAnswered (s : State) (ch : Nat) (k : Packet) : State :=
  let d := Assoc.get ({} : SvcDma) s.mem.svcDma ch
  match d.waiting.find? fun e => decide (e.1 = k.tag) with
  | none => s
  | some (_, at', n) =>
    let d := { d with waiting := d.waiting.filter fun e => e.1 ≠ k.tag }
    let d := if k.status ≠ 0 then { d with status := if d.status = 0 then k.status else d.status }
      else if d.writing then d else { d with got := d.got ++ [(at', k.data.take n)] }
    s.setSvcDma ch d

/-- A response by its TAG (R244, R246): a telemetry push that its target refused counts in PUSH_FAIL (R258). -/
def State.response (s : State) (k : Packet) : State :=
  let why := Assoc.get 0 s.fab.requests k.tag
  let s := { s with fab := { s.fab with requests := Assoc.put 0 s.fab.requests k.tag 0 } }
  if why = 0 then s
  else if why = 1 then (if k.status = 0 then s else s.rsat TEL_STATUS.PUSH_FAIL 0 1)
  else s.partAnswered (why - 2) k

/-- RESP (R246). -/
def execResp (inPort : Nat) (pkt : Packet) (s : State) : Result :=
  onUnit s (inPortOk inPort) (s.packetAt 0x03 inPort pkt State.response)

/-- HOSTCPL (R246): it sinks into the host staging area, which the host port drains as posted writes to PF0's memory. -/
def execHostcpl (inPort : Nat) (pkt : Packet) (s : State) : Result :=
  onUnit s (inPortOk inPort) (s.packetAt 0x04 inPort pkt fun s k => s.toStage inPort k)

/-! ### Hops (R245, R247, R249) -/

/-- A copy of a broadcast leaves for every child at once, when each child's port is UP and its buffer can take it whole
(R250). -/
def State.copyHop (s : State) (p : Nat) (q : QPkt) (rooms : List (Nat × Nat × Nat)) : Option State :=
  let kids := s.copyPorts q.pkt
  if kids.all fun o => s.portUp o && fitsBeyond rooms o (s.flitsOn o q.pkt) false then
    some (kids.foldl (fun s o => (s.enqueueAt q.pkt o false p).fabCount 2) (s.unwait p q))
  else none

/-- A packet for this device that had to wait goes to its sink (R246): a request while responses have room, a message while the
handlers have, and a host packet while the staging area has. -/
def State.ownHop (s : State) (p : Nat) (q : QPkt) : State :=
  let s := s.unwait p q
  if isRequest q.pkt.kind then s.serveRequest p q.pkt
  else if q.pkt.kind = 0x05 then s.toHandler p q.pkt
  else if q.pkt.kind = 0x04 then s.toStage p q.pkt
  else s.emit (.packet 31 q.pkt)

/-- A hop of a waiting packet (R247, R248), if it can take one: to the chosen port's queue, over the die bridge where that port
is on the other die (R238). -/
def State.packetHop (s : State) (p : Nat) (q : QPkt) (rooms : List (Nat × Nat × Nat)) : Option State :=
  if q.pkt.bcast then s.copyHop p q rooms
  else if q.pkt.dest = s.ownId then some (s.ownHop p q)
  else
    (s.hopOf q rooms).map fun h =>
      let s := (s.unwait p q).enqueueAt q.pkt h.1 h.2 p
      let s := s.crossBridge (inPortDie p) (h.1 / 9) (16 + q.pkt.data.length)
      let s := if p < 18 then s.fabCount 2 else s
      if h.2 && !q.escape then s.fabCount 3 else s

/-- SERVICE_PACKET_FORWARD (R245, R247, R248): the first packet of a channel's adaptive or escape buffer that can take its hop
takes it; `rooms` is what the neighbours' buffers have free (log 66). -/
def execServicePacketForward (p vc : Nat) (rooms : List (Nat × Nat × Nat)) (s : State) : Result :=
  onUnit s (inPortOk p) (((s.headsOf p vc).findSome? fun q => s.packetHop p q rooms).getD s)

/-- KL_GRACE in REFCLK edges for a packet at an arriving port: that port's, or for an own packet that of the first port of its
escape bundle (R249). -/
def State.packetGrace (s : State) (p : Nat) (k : Packet) : Nat :=
  let port := if p < 18 then p else match s.escapeBundle k.dest with
    | some b => 3 * b
    | none => 0
  s.graceEdges port

/-- The ports that a waiting packet could leave on, UP or not (R249). -/
def State.allPorts (s : State) (q : QPkt) : List Nat :=
  match q.via with
  | some o => [o]
  | none => (s.productive q.pkt.dest).flatMap fun b => [3 * b, 3 * b + 1, 3 * b + 2]

/-- Since when a packet has stood first in its buffer with no UP port to leave on (R249). -/
def State.stuckSince (s : State) (q : QPkt) : Nat := (s.allPorts q).foldl (fun t o => Nat.max t (s.port o).downAt) q.head

/-- PACKET_DISCARD (R249): the first packet of a buffer has had no UP port for KL_GRACE.GRACE. -/
def execPacketDiscard (p vc : Nat) (s : State) : Result :=
  onUnit s (inPortOk p) (
    match (s.headsOf p vc).find? fun q => !q.pkt.bcast && decide (q.pkt.dest ≠ s.ownId) && ((s.allPorts q).filter s.portUp).isEmpty &&
        decide (s.stuckSince q + s.packetGrace p q.pkt ≤ s.clk.wall) with
    | some q => (s.unwait p q).flushPacket q.pkt p
    | none => s)

/-! ### Gates of regions (R253, R254, R317) -/

/-- The porch is served in arrival order before any later arrival (R254). -/
def State.servePorch (s : State) (r : Nat) : State :=
  let x := s.region r
  let s := (s.setRegion r { x with porch := [] }).rset FAB_GATE.HELD r 0
  x.porch.foldl (fun s e => s.serveRequest e.2.1 e.2.2) s

/-- A region reaches P0: its gate opens, and held accesses are served (R254, R317). -/
def State.openGate (s : State) (r : Nat) : State := ((s.setRegion r { s.region r with tick := s.gst }).regionTo r 0).servePorch r

/-- GATE_CLOSED (R253, R254): the drain count of a closing gate is 0: the entry proceeds, or, with accesses in the
porch, is abandoned. -/
def execGateClosed (r : Nat) (s : State) : Result :=
  onUnit s (decide (r < 288)) (
    if s.rget FAB_GATE.STATE r = 1 ∧ s.openAccesses r = 0 then
      let s := s.rset FAB_GATE.DRAIN r 0
      if (s.region r).porch.isEmpty then (s.rset FAB_GATE.STATE r 2).pstateTo r (s.region r).target
      else s.openGate r
    else s)

/-- REGION_EXIT_COMPLETE (R317): a region that a fabric wake has called reaches P0. -/
def execRegionExitComplete (r : Nat) (s : State) : Result :=
  onUnit s (decide (r < 288)) (if s.rget FAB_GATE.STATE r = 3 then s.openGate r else s)

end Sys2Proof.Machine
end

