-- ==== Sys2Proof/Machine/SvcDma.lean ====
section
/-! DEFINITION. The service DMA engines (spec/08 R174, spec/14 R300): DMA_COPY's checks and start, its requests to other
devices, and its completion. -/
namespace Sys2Proof.Machine

/-! ### Sides (R171, R300) -/

/-- A host side: word 0 is the host address. -/
def hostSide (w0 w1 : Nat) : DmaSide :=
  { base := w0, len := orFull (bitsOf w1 0 16) 65536, count := orFull (bitsOf w1 16 16) 65536, stride := bitsOf w1 32 24,
    prio := bitsOf w1 62 2 }

/-- A device side: no register takes part, a remote one has its device from ARG5, a context-virtual one its page table
from the context in ARG4. -/
def deviceSide (w0 w1 dev pt : Nat) : DmaSide :=
  { base := bitsOf w0 0 48, space := bitsOf w0 48 2, remote := bitAt w0 57, dev := if bitAt w0 57 then dev else 0,
    xlate := bitAt w0 58, rsv := bitsOf w0 59 5, len := orFull (bitsOf w1 0 16) 65536,
    count := orFull (bitsOf w1 16 16) 65536, stride := bitsOf w1 32 24, pt := if bitAt w0 58 then pt else 0,
    prio := bitsOf w1 62 2 }

/-- A DMA_COPY as its arguments give it. -/
structure Copy where
  srcHost : Bool
  dstHost : Bool
  ctx : Nat
  src : DmaSide
  dst : DmaSide

/-- The copy that a command asks for. -/
def State.copyOf (s : State) (h : HostCmd) : Copy :=
  let srcHost := bitAt h.a4 0
  let dstHost := bitAt h.a4 1
  let ctx := bitsOf h.a4 16 16
  let pt := (s.ctx ctx).field .pt
  { srcHost := srcHost, dstHost := dstHost, ctx := ctx,
    src := if srcHost then hostSide h.a0 h.a1 else deviceSide h.a0 h.a1 (bitsOf h.a5 0 14) pt,
    dst := if dstHost then hostSide h.a2 h.a3 else deviceSide h.a2 h.a3 (bitsOf h.a5 16 14) pt }

/-! ### Checks (R172, R300) -/

/-- A device side's word 0 names a register, or ARG5 a device for a side that is not remote. -/
def sideBadArg (host : Bool) (w0 dev : Nat) : Bool :=
  (!host && decide (bitsOf w0 50 7 ≠ 0)) || ((host || !bitAt w0 57) && decide (dev ≠ 0))

/-- R300's BAD_ARGUMENT cases, with the reserved bits of ARG4 and ARG5. -/
def copyBadArg (h : HostCmd) : Bool :=
  (bitAt h.a4 0 && bitAt h.a4 1) || decide (bitsOf h.a4 2 14 ≠ 0) || decide (h.a4 ≥ 2 ^ 32) || decide (bitsOf h.a5 14 2 ≠ 0) ||
    decide (h.a5 ≥ 2 ^ 30) || sideBadArg (bitAt h.a4 0) h.a0 (bitsOf h.a5 0 14) || sideBadArg (bitAt h.a4 1) h.a2 (bitsOf h.a5 16 14)

/-- A VF's device side is context-virtual, through a context of its own (R300). -/
def State.vfSideOk (s : State) (f ctx : Nat) (host : Bool) (x : DmaSide) : Bool :=
  host || (decide (x.space = 0) && x.xlate && decide ((s.ctx ctx).field .state ≠ 0) && decide ((s.ctx ctx).field .func = f))

/-- Checks 1 to 4 of R172 on the sides of a copy, with check 3 alone for a host side's lines (R300): the failed one. -/
def State.copyFault (s : State) (c : Copy) : Option Nat :=
  let bad1 (host : Bool) (x : DmaSide) (dst : Bool) : Bool :=
    (!host && (decide (x.rsv ≠ 0) || decide (x.space = 3) || (x.xlate && decide (x.space ≠ 0)))) ||
      (dst && decide (x.prio ≠ 0))
  let g := pieceSize c.src c.dst
  if bad1 c.srcHost c.src false || bad1 c.dstHost c.dst true then some 1
  else if c.src.size ≠ c.dst.size then some 2
  else if (c.src.misaligned g).isSome || (c.dst.misaligned g).isSome then some 3
  else if (!c.srcHost && (s.badLine c.src).isSome) || (!c.dstHost && (s.badLine c.dst).isSome) then some 4
  else none

/-- The status of a DMA_COPY before it starts, 0 where it may: with the failed check in DETAIL. -/
def State.copyStatus (s : State) (h : HostCmd) (c : Copy) : Nat × Nat :=
  let xlate := (!c.srcHost && c.src.xlate) || (!c.dstHost && c.dst.xlate)
  if copyBadArg h then (0x03, 0)
  else if h.func ≠ 0 ∧ (s.vfSideOk h.func c.ctx c.srcHost c.src && s.vfSideOk h.func c.ctx c.dstHost c.dst) = false then (0x04, 0)
  else match s.copyFault c with
    | some n => (if n = 2 ∨ n = 3 then 0x0B else 0x04, n)
    | none => if xlate && s.unbindPending c.ctx then (0x01, 0) else (0, 0)

/-! ### Start (R174) -/

/-- The memory or other regions of this device that a physical side reaches. -/
def State.sideRegions (s : State) (host : Bool) (x : DmaSide) : List Nat :=
  if host || x.remote || x.xlate then []
  else ((List.range x.count).flatMap fun i =>
    let a := x.line i
    if x.space = 0 then s.gateRegions (.mem a) x.len
    else if x.space = 1 then s.gateRegions (.spad (windowCore a) (a % 2 ^ 22)) x.len
    else s.gateRegions (.reg a) x.len).eraseDups

/-- Splits `n` bytes at place `o` of a stream and address `a` into parts of a packet's data, within one granule each where
`split` says so. -/
def streamParts (split : Bool) : Nat → Nat → Nat → Nat → List (Nat × Nat × Nat)
  | 0, _, _, _ => []
  | fuel + 1, o, a, n =>
    if n = 0 then []
    else
      let m := Nat.min n (if split then Nat.min 3824 (granule - a % granule) else 3824)
      (o, a, m) :: streamParts split fuel (o + m) (a + m) (n - m)

/-- The contiguous parts of a side's stream, each at most a packet's data: place in the stream, address, length. -/
def DmaSide.packets (x : DmaSide) : List (Nat × Nat × Nat) :=
  (List.range x.count).flatMap fun i => streamParts x.xlate (x.len + 1) (i * x.len) (x.line i) x.len

/-- The Afruak address of a remote side's byte. -/
def DmaSide.afruak (x : DmaSide) (a : Nat) : Nat := x.dev * 2 ^ 50 + x.space * 2 ^ 48 + a

/-- The physical place of a piece of a memory side for channel `ch`: none for a null side (R165), or a status (R385). -/
def State.piecePlace (s : State) (ch : Nat) (x : DmaSide) (a : Nat) (write : Bool) : (Option Nat ⊕ Nat) × State :=
  if ¬ x.xlate then (.inl (some a), s)
  else if ¬ ptValid x.pt then (.inl none, s)
  else match s.svcTranslate x.pt a write (reqDma (ch / 16) (ch % 16)) with
    | (.inl p, s) => (.inl (some p), s)
    | (.inr st, s) => (.inr st, s)

/-- The place on the other device of a part of a remote side: a context-virtual one is translated here, through the
context's table (log 40). -/
def State.remotePlace (s : State) (ch : Nat) (x : DmaSide) (a : Nat) (write : Bool) : (Option Nat ⊕ Nat) × State := s.piecePlace ch x a write

/-- The requests of a service DMA to another device: one for each part, in the purpose 2 + channel. A part that does not
translate ends the copy with its status, and one of a null side needs no request (R165, R385). -/
def State.sendParts (s : State) (ch kind : Nat) (d : SvcDma) (x : DmaSide) (data : List Byte) : State :=
  x.packets.foldl (fun s e =>
    match s.remotePlace ch x e.2.1 (decide (kind = 0x02)) with
    | (.inl none, s) => s
    | (.inr st, s) =>
      let y := Assoc.get ({} : SvcDma) s.mem.svcDma ch
      s.setSvcDma ch { y with status := if y.status = 0 then st else y.status }
    | (.inl (some a), s) =>
      let (tag, s) := s.newTag
      let y := Assoc.get ({} : SvcDma) s.mem.svcDma ch
      let s := s.setSvcDma ch { y with waiting := y.waiting ++ [(tag, e.1, e.2.2)] }
      let s := { s with fab := { s.fab with requests := Assoc.put 0 s.fab.requests tag (2 + ch) } }
      s.originate { src := s.ownId, dest := x.dev, kind := kind, vc := 3, status := d.prio, tag := tag, len := e.2.2,
                    addr := x.afruak a, data := if kind = 0x02 then (data.drop e.1).take e.2.2 else [] }) s

/-- A closed gate on the way that WAKE does not open (R254). -/
def State.gateShut (s : State) (rs : List Nat) : Bool := rs.any fun r => decide (s.rget FAB_GATE.STATE r ≠ 0) && !s.gateWakes r

/-- A fabric wake for each closed gate on the way (R254). -/
def State.callGates (s : State) (rs : List Nat) : State :=
  rs.foldl (fun s r => if s.rget FAB_GATE.STATE r = 2 then s.rset FAB_GATE.STATE r 3 else s.wakeIdle r) s

/-- A copy starts on a channel: its gates are counted where they stand open, and a remote source is asked for. -/
def State.startCopy (s : State) (h : HostCmd) (c : Copy) (hostData : List Byte) (ch : Nat) : State :=
  let rs := (s.sideRegions c.srcHost c.src ++ s.sideRegions c.dstHost c.dst).eraseDups
  let d : SvcDma := { busy := true, cmd := h, prio := s.rget HOST_Q.CLASS h.queue, src := c.src, dst := c.dst, srcHost := c.srcHost,
                      dstHost := c.dstHost, data := if c.srcHost then hostData.take c.src.size else [],
                      gates := rs.filter fun r => decide (s.rget FAB_GATE.STATE r = 0) }
  let s := (s.setSvcDma ch d).callGates rs
  if !c.srcHost && c.src.remote then s.sendParts ch 0x01 d c.src [] else s

/-- The first free channel, die 0 first (log 40). -/
def State.freeChannel (s : State) : Option Nat := [s.freeChannelOf 0, s.freeChannelOf 1].findSome? id

/-- DMA_COPY's body (R300). -/
def State.dmaCopy (s : State) (h : HostCmd) (hostData : List Byte) : State × CmdEnd :=
  let c := s.copyOf h
  let (st, detail) := s.copyStatus h c
  if st ≠ 0 then (s, .done st detail 0 0)
  else if s.gateShut (s.sideRegions c.srcHost c.src ++ s.sideRegions c.dstHost c.dst) then (s.fabCount 4, .done 0x0D 0 0 0)
  else match s.freeChannel with
    | none => (s, .done 0x01 0 0 0)
    | some ch => (s.startCopy h c hostData ch, .later)

/-- DMA_COPY reads a descriptor: one of its device sides is context-virtual (R182, R300). -/
def copyReadsCtx (h : HostCmd) : Bool := (!bitAt h.a4 0 && bitAt h.a0 58) || (!bitAt h.a4 1 && bitAt h.a2 58)

/-- DMA_COPY (R174, R300); one through a context's table waits while the commit engine owns the descriptors (R182). -/
def execDmaCopy (h : HostCmd) (hostData : List Byte) (s : State) : Result :=
  .next (if copyReadsCtx h && s.commitOwns then s.orDefer (.dmaCopy h hostData) s else s.runCmd h cmdDmaCopy (.dmaCopy h hostData) fun s => s.dmaCopy h hostData)

/-! ### Pieces (R160, R165, R170, R385) -/

/-- The tweak of a side's accesses (R162). -/
def DmaSide.tweak (x : DmaSide) : Nat := if x.xlate then ctxTweak (ptTag x.pt) else physTweak

/-- The stream of a remote source, from its parts. -/
def gotBytes (got : List (Nat × List Byte)) (n : Nat) : List Byte :=
  let m := got.foldl (fun (m : Assoc Byte) e => Assoc.putRange (0 : Byte) m e.1 e.2) []
  (List.range n).map fun i => Assoc.get (0 : Byte) m i

/-- `n` bytes at place `o` of the source's stream: its bytes, or a status. What comes from the other die than the channel's
crosses the bridge (R11). -/
def State.copyRead (s : State) (ch : Nat) (d : SvcDma) (stream : List Byte) (o n : Nat) : (List Byte ⊕ Nat) × State :=
  let x := d.src
  let a := x.byteAt o
  if d.srcHost || x.remote then
    (.inl ((List.range n).map fun i => stream.getD (o + i) 0), if d.srcHost then s.crossBridge 0 (ch / 16) n else s)
  else if x.space = 1 then
    let k := s.core (windowCore a)
    (if spadBad k (a % 2 ^ 22) n then .inr 0x0C else .inl (spadBytes k (a % 2 ^ 22) n),
     s.crossBridge (s.dieOfCore (windowCore a)) (ch / 16) n)
  else if x.space = 2 then
    let (bs, s) := s.busRead (if d.cmd.func = 0 then .pf0 else .vf d.cmd.func) a n
    (.inl bs, s.crossBridge 0 (ch / 16) n)
  else match s.piecePlace ch x a false with
    | (.inr st, s) => (.inr st, s)
    | (.inl none, s) => (.inl (List.replicate n 0), s)
    | (.inl (some p), s) =>
      let (bs, bad, s) := (s.crossBridge (p / dieBytes) (ch / 16) n).svcRead p n x.tweak (reqDma (ch / 16) (ch % 16))
      (if bad then .inr 0x0C else .inl bs, s)

/-- A piece written at place `o` of the destination's stream: its status. A register window is written as PF0. -/
def State.copyWrite (s : State) (ch : Nat) (d : SvcDma) (o : Nat) (bs : List Byte) : Nat × State :=
  let x := d.dst
  let a := x.byteAt o
  let n := bs.length
  if d.dstHost || x.remote then (0, if d.dstHost then s.crossBridge (ch / 16) 0 n else s)
  else if x.space = 1 then
    let s := s.crossBridge (ch / 16) (s.dieOfCore (windowCore a)) n
    let k := s.core (windowCore a)
    (if spadWriteBad k (a % 2 ^ 22) n then 0x0C else 0, s.setCore (windowCore a) (spadWrite k (a % 2 ^ 22) bs))
  else if x.space = 2 then
    (0, (s.crossBridge (ch / 16) 0 n).busWrite (if d.cmd.func = 0 then .pf0 else .vf d.cmd.func) a
      (((List.range n).zip bs).map fun e => (a + e.1, e.2)))
  else match s.piecePlace ch x a true with
    | (.inr st, s) => (st, s)
    | (.inl none, s) => (0, s)
    | (.inl (some p), s) =>
      let (bad, s) := (s.crossBridge (ch / 16) (p / dieBytes) n).svcWrite p bs x.tweak
      (if bad then 0x0C else 0, s)

/-- How far a copy has come: the bytes moved, the status of the piece that ended it, and the state. -/
structure Moved where
  bytes : List Byte
  status : Nat
  st : State

/-- The stream of a copy's source that is not read here: the host's, or another device's. -/
def SvcDma.stream (d : SvcDma) : List Byte := if d.srcHost then d.data else if d.src.remote then gotBytes d.got d.src.size else []

/-- The next `n` pieces of a copy, in their order, up to the first that fails (log 40). -/
def State.movePieces (s : State) (ch : Nat) (d : SvcDma) (n : Nat) : Moved :=
  let g := pieceSize d.src d.dst
  let stream := d.stream
  let first := d.moved.length / g
  (List.range (Nat.min n (d.src.size / g - first))).foldl (fun (m : Moved) i =>
    if m.status ≠ 0 then m
    else match m.st.copyRead ch d stream ((first + i) * g) g with
      | (.inr st, s) => { m with status := st, st := s }
      | (.inl bs, s) =>
        let (st, s) := s.copyWrite ch d ((first + i) * g) bs
        { bytes := if st = 0 then m.bytes ++ bs else m.bytes, status := st, st := s }) { bytes := d.moved, status := 0, st := s }

/-- The bytes moved go out to a function's host memory, line by line. -/
def State.hostLines (s : State) (f : Nat) (x : DmaSide) (bs : List Byte) : State :=
  (List.range (ceilDiv bs.length (Nat.max 1 x.len))).foldl (fun s i =>
    s.emit (.hostWrite f (x.line i) ((bs.drop (i * x.len)).take x.len))) s

/-! ### SERVICE_DMA_COMPLETION (R174) -/

/-- A channel is free again, and the gates that counted it drain. -/
def State.freeSvcDma (s : State) (ch : Nat) (d : SvcDma) : State := (s.setSvcDma ch {}).showDrain d.gates

/-- A copy ends with a status and the bytes moved. -/
def State.endCopy (s : State) (ch : Nat) (d : SvcDma) (status moved : Nat) : State :=
  (s.freeSvcDma ch d).finish d.cmd cmdDmaCopy status 0 moved 0

/-- A remote requester's packet takes its effect in the window, and its lease ends (R174, R287). -/
def State.endRemote (s : State) (ch : Nat) (d : SvcDma) (k : Packet) : State :=
  let leases := s.roll.leases.filter fun l => !(decide (l.kind = 1) && decide (l.item = ch))
  let s := State.showLeases { s.freeSvcDma ch d with roll := { s.roll with leases := leases } }
  match s.place k.addr k.len false with
  | some p => s.perform ((d.pkt.map (·.1)).getD 31) k p
  | none => s.respond k 0x04 []

/-- A side lies in a scratchpad window of this device. -/
def DmaSide.inSpad (x : DmaSide) (host : Bool) : Bool := !host && !x.remote && decide (x.space = 1)

/-- A copy's own part ends after some pieces: with a failure at once, and else with what its destination still needs. -/
def State.finishMove (s : State) (ch : Nat) (d : SvcDma) (m : Moved) : State :=
  if d.dstHost then (s.hostLines d.cmd.func d.dst m.bytes).endCopy ch d m.status m.bytes.length
  else if d.dst.remote ∧ m.status = 0 then
    let d := { d with writing := true, data := [], moved := [] }
    (s.setSvcDma ch d).sendParts ch 0x02 d d.dst m.bytes
  else s.endCopy ch d m.status m.bytes.length

/-- The copy's own part is done: the rest of the data moves, and a remote destination is written to. -/
def State.runCopy (s : State) (ch : Nat) (d : SvcDma) : State :=
  let m := s.movePieces ch d d.src.size
  m.st.finishMove ch d m

/-- The regions of this device that a copy reaches. -/
def State.copyRegions (s : State) (d : SvcDma) : List Nat := s.sideRegions d.srcHost d.src ++ s.sideRegions d.dstHost d.dst

/-- A service DMA's completion: not while packets are out, a scratchpad side waits for a service window, a gate on the
way is still waking, or the function of a host side has no Bus Master Enable (R307). -/
def State.svcDmaDone (s : State) (ch : Nat) : State :=
  let d := Assoc.get ({} : SvcDma) s.mem.svcDma ch
  if ¬ d.busy ∨ d.waiting ≠ [] then s
  else match d.pkt with
    | some (_, k) => if s.inWindow then s.endRemote ch d k else s
    | none =>
      let spad := d.src.inSpad d.srcHost || d.dst.inSpad d.dstHost
      let paused := (d.srcHost || d.dstHost) && !s.busMaster d.cmd.func
      let shut := (s.copyRegions d).any fun r => !d.gates.contains r && decide (s.rget FAB_GATE.STATE r ≠ 0)
      if d.writing || decide (d.status ≠ 0) then s.endCopy ch d d.status (if d.status = 0 then d.dst.size else 0)
      else if (spad && !s.inWindow) || shut || paused then s
      else s.runCopy ch d

/-- SERVICE_DMA_COMPLETION (R174). -/
def execServiceDmaCompletion (die ch : Nat) (s : State) : Result :=
  onUnit s (decide (die < 2) && decide (ch < 16)) (s.svcDmaDone (16 * die + ch))

/-! ### The end of a service window (R97, R174) -/

/-- A copy at work on a scratchpad pauses as the window ends: it has moved some of its pieces, a number that the spec leaves
open (log 62), and goes on in the next window. A piece that fails ends it there. -/
def State.pauseCopy (s : State) (ch : Nat) : State :=
  let d := Assoc.get ({} : SvcDma) s.mem.svcDma ch
  let spad := d.src.inSpad d.srcHost || d.dst.inSpad d.dstHost
  if !d.busy || d.pkt.isSome || d.writing || decide (d.status ≠ 0) || decide (d.waiting ≠ []) || !spad then s
  else
    let left := (d.src.size - d.moved.length) / pieceSize d.src d.dst
    let n := Config.freeNat s.draw.1 % (left + 1)
    let m := s.draw.2.movePieces ch d n
    if m.status ≠ 0 then m.st.finishMove ch d m else m.st.setSvcDma ch { d with moved := m.bytes }

/-- SERVICE_WINDOW_END (R97, R174): service calls pause before their next instruction, and copies at work on scratchpads where
they are, once the window is over. -/
def execServiceWindowEnd (s : State) : Result :=
  .next (if s.inWindow then s else (s.mem.svcDma.map (·.1)).foldl (fun s ch => s.pauseCopy ch) (s.svcAll 1 2))

end Sys2Proof.Machine
end

