-- ==== Sys2Proof/Machine/Apply.lean ====
section
/-! DEFINITION. APPLY_TICK (R58), with the copies that waited for the commit engine (R182). -/
namespace Sys2Proof.Machine

/-- The copies that waited for the commit engine start (R182, R300). -/
def State.runCopies (s : State) : State :=
  (s.frame.deferred.filter isCopy).foldl (fun s c => match c with
    | .dmaCopy h d => match execDmaCopy h d s with
      | .next s => s
      | _ => s
    | _ => s) (s.setFrame { s.frame with deferred := s.frame.deferred.filter fun c => !isCopy c })

/-- APPLY_TICK (R58). -/
def execApplyTick (s : State) : Result :=
  .next (match s.frame.phase with
    | .decided => if s.gst ≥ s.applyAt then s.applyBoundary.runCopies else s
    | .idle => s.applyIdle
    | .waiting => s.applyIdle
    | _ => s)

end Sys2Proof.Machine
end

