-- ==== Sys2Proof/Machine/Update.lean ====
section
/-! DEFINITION. Firmware images and their stages (R353 to R355), activation (R358), trials (R356, R357), the restart of
the Ranger's firmware (R326), and the commands UPDATE_STAGE and UPDATE_CONFIRM. -/
namespace Sys2Proof.Machine

/-! ### Images (R353) -/

/-- KIND of an image. -/
def fwKind (im : List Byte) : Nat := leAt im 0 1
/-- FLAGS [0]: RESET_ACTIVATE. -/
def fwResetActivate (im : List Byte) : Bool := bitAt (leAt im 1 1) 0
/-- VERSION. -/
def fwVersion (im : List Byte) : Nat := leAt im 2 2
/-- SVN. -/
def fwSvn (im : List Byte) : Nat := leAt im 4 1
/-- LENGTH of the payload. -/
def fwLength (im : List Byte) : Nat := leAt im 5 4
/-- The header and the payload, which the signature covers. -/
def fwSigned (im : List Byte) : List Byte := im.take (128 + fwLength im)
/-- The 96-byte signature. -/
def fwSignature (im : List Byte) : Nat := leAt im (128 + fwLength im) 96

/-- The size of a slot (R353's table). -/
def slotBytes (kind : Nat) : Nat :=
  match kind with
  | 0 => 8 * 2 ^ 20
  | 1 => 2 ^ 20
  | 2 => 2 * 2 ^ 20
  | _ => 4 * 2 ^ 20

/-- Whether an image verifies for a kind (R353, R354): 0, BAD_DIGEST, or NOT_PERMITTED for its security version. -/
def State.fwVerify (s : State) (kind : Nat) (im : List Byte) : Nat :=
  let good := decide (im.length ≥ 224 + fwLength im) && decide (fwKind im = kind) &&
    Config.signatureValid Config.imageKeyDigest (fwSigned im) (fwSignature im) &&
    decide (sha256 ((im.drop 128).take (fwLength im)) = (im.drop 9).take 32)
  if ¬ good then 0x08 else if fwSvn im < s.rget RGR_UPD.SVN_MIN kind then 0x04 else 0

/-- The inactive slot's image. -/
def State.otherImage (s : State) (kind : Nat) : List Byte := (s.fwSlot kind (s.otherSlot kind)).image

/-- A download begins (R355): the slot reads downloading before anything in it changes. -/
def State.beginDownload (s : State) (kind : Nat) : State := (s.rset RGR_UPD.OTHER kind 1).journal

/-- The image is in the slot: downloaded. -/
def State.endDownload (s : State) (kind : Nat) (im : List Byte) : State :=
  let s := s.setFwSlot kind (s.otherSlot kind) { image := im }
  ((s.rset RGR_UPD.VER_OTHER kind (fwVersion im)).rset RGR_UPD.OTHER kind 2).journal

/-- The downloaded image is verified (R354, R355): one that fails leaves its slot as downloaded. -/
def State.verifySlot (s : State) (kind : Nat) : Nat × State :=
  let st := s.fwVerify kind (s.otherImage kind)
  (st, if st = 0 then (s.rset RGR_UPD.OTHER kind 3).journal else s)

/-! ### Restarts (R326, R358) -/

/-- The Ranger's firmware restarts: every management session closes. -/
def State.restartRanger (s : State) : State :=
  { s.rset0 RGR_STATUS.SESSIONS 0 with rgr := { s.rgr with running := false, sessions := [], pldmState := 0, algosOk := false } }

/-- WATCHDOG (R326): the hardware loops go on. -/
def execWatchdog (s : State) : Result := .next s.restartRanger

/-- FIRMWARE_RESUME (R326, R356): the leases that ran out meanwhile are revoked. -/
def execFirmwareResume (s : State) : Result :=
  .next (
    if s.rgr.running then s
    else
      let s := ({ s with rgr := { s.rgr with running := true } }).trialStart 1
      s.host.cpExpired.foldl (fun s n => s.resetCp n) s)

/-- The command processors are to restart, one at a time from 0 (R358). -/
def State.restartCps (s : State) (h : Option HostCmd) : State := { s with rgr := { s.rgr with cpRestart := some (0, h) } }

/-- Two commands are one. -/
def sameCmd (a : HostCmd) (b : Option HostCmd) : Bool :=
  match b with
  | some b => decide (a.queue = b.queue ∧ a.cmdId = b.cmdId)
  | none => false

/-- Command processor `n` restarts (R358): what it still holds completes with FLUSHED, save commands that wait for a tick
and the one that asked for the activation. -/
def State.restartCp (s : State) (n : Nat) (h : Option HostCmd) : State :=
  let work := (Assoc.get [] s.host.cpWork n).filter fun c => !s.waitsForTick c && !sameCmd c h
  let s := work.foldl (fun s c => s.flushCmd c) s
  if n = 0 then s.trialStart 0 else s

/-- COMMAND_PROCESSOR_RESTART (R358): in order 0 to 7; the activating command completes after the last. -/
def execCommandProcessorRestart (n : Nat) (s : State) : Result :=
  onUnit s (decide (n < 8)) (match s.rgr.cpRestart with
    | some (k, h) =>
      if k = n then
        let s := s.restartCp n h
        if n = 7 then
          let s := { s with rgr := { s.rgr with cpRestart := none } }
          match h with
          | some h => s.finish h cmdUpdateStage 0 0 0 0
          | none => s
        else { s with rgr := { s.rgr with cpRestart := some (n + 1, h) } }
      else s
    | none => s)

/-- LIBRARY_ACTIVATION (R358): no service call runs on any core. -/
def execLibraryActivation (s : State) : Result :=
  .next (
    if s.rgr.libPend && !s.cores.any fun e => decide (e.2.svc.state = 1 ∨ e.2.svc.state = 2) then
      { s with rgr := { s.rgr with libPend := false, libTrial := decide (s.rget RGR_UPD.TRIAL 3 = 1) } }
    else s)

/-! ### Activation (R355, R358) -/

/-- A loaded variant's library needs fail check 0x09 under the other slot's routines. -/
def State.libraryShort (s : State) : Bool :=
  let version (n : Nat) : Nat :=
    let v := Config.routineVersion (s.rget RGR_UPD.VER_OTHER 3) n
    if [0x0001, 0x0002, 0x0003, 0x0004, 0x0010].contains n then Nat.max 1 v else v
  (List.range 4).any fun k => decide (s.rget PLAN_VAR_STATE.STATE k = 2 ∨ s.rget PLAN_VAR_STATE.STATE k = 3) &&
    (libraryNeeds (s.variant k).image).any fun e => decide (version e.1 < Nat.max 1 e.2)

/-- Why the other slot may not be activated; 0 when it may (R354, R358). -/
def State.activateStatus (s : State) (kind : Nat) : Nat :=
  if s.rget RGR_UPD.OTHER kind ≠ 3 then 0x13
  else if s.rget RGR_UPD.TRIAL kind = 1 then 0x01
  else if fwResetActivate (s.otherImage kind) ∧ s.running then 0x01
  else if kind = 3 ∧ s.libraryShort = true then 0x04
  else 0

/-- The pointer flips, in trial (R355): one journalled change. -/
def State.flipToTrial (s : State) (kind tm : Nat) : State :=
  let s := (s.flipSlot kind).rset RGR_UPD.OTHER kind 3
  let s := (s.rset RGR_UPD.TRIAL kind 1).rset RGR_UPD.TRIALS kind 0
  ((s.rset RGR_UPD.TRIAL_MAX kind tm).rset RGR_UPD.ROLLED kind 0).journal

/-- The activation of a kind (R358); the second result says that command `h` is answered later, or by no one after a
reset. -/
def State.activateKind (s : State) (kind tm : Nat) (h : Option HostCmd) : State × Bool :=
  let reset := fwResetActivate (s.otherImage kind)
  let s := s.flipToTrial kind tm
  if reset then (s.deviceReset 3, true)
  else if kind = 0 then (s.restartCps h, true)
  else if kind = 1 then (s.restartRanger, false)
  else (s, false)

/-! ### UPDATE_STAGE and UPDATE_CONFIRM (R354, R356) -/

/-- PF0 holds a session with the Ranger (R354). -/
def State.pf0Session (s : State) : Bool := s.rgr.sessions.any fun x => x.authed && x.pf0

/-- UPDATE_STAGE's download or verification: its status. -/
def State.stage (s : State) (h : HostCmd) (kind : Nat) (act : Bool) (image : List Byte) : Nat × State :=
  if h.a2 ≠ 0 then ((s.beginDownload kind).endDownload kind (image.take h.a2)).verifySlot kind
  else if s.rget RGR_UPD.OTHER kind = 2 ∧ act = false then s.verifySlot kind
  else (if s.rget RGR_UPD.OTHER kind = 3 then 0 else 0x13, s)

/-- UPDATE_STAGE's effect (R354). -/
def State.updateStage (s : State) (h : HostCmd) (image : List Byte) : State × CmdEnd :=
  let kind := bitsOf h.a0 0 4
  let act := bitAt h.a0 8
  let tm := if bitsOf h.a0 16 3 = 0 then 3 else bitsOf h.a0 16 3
  if ¬ s.pf0Session then (s, .done 0x04 0 0 0)
  else if kind ≥ 4 ∨ bitsOf h.a0 4 4 ≠ 0 ∨ bitsOf h.a0 9 7 ≠ 0 ∨ h.a0 ≥ 2 ^ 19 then (s, .done 0x03 0 0 0)
  else if s.rget RGR_UPD.TRIAL kind = 1 then (s, .done 0x01 0 0 0)
  else if h.a2 > slotBytes kind then (s, .done 0x06 0 0 0)
  else
    let (st, s) := s.stage h kind act image
    if st ≠ 0 ∨ act = false then (s, .done st 0 0 0)
    else if s.activateStatus kind ≠ 0 then (s, .done (s.activateStatus kind) 0 0 0)
    else
      let (s, later) := s.activateKind kind tm (some h)
      (s, if later then .later else .done 0 0 0 0)

/-- UPDATE_STAGE (R354). -/
def execUpdateStage (h : HostCmd) (image : List Byte) (s : State) : Result :=
  .next (s.runCmd h cmdUpdateStage (.updateStage h image) fun s => s.updateStage h image)

/-- UPDATE_CONFIRM's effect (R354, R356). -/
def State.updateConfirm (s : State) (h : HostCmd) : State × CmdEnd :=
  if ¬ s.pf0Session then (s, .done 0x04 0 0 0)
  else if h.a0 ≥ 4 then (s, .done 0x03 0 0 0)
  else if s.rget RGR_UPD.TRIAL h.a0 = 1 then ((s.rset RGR_UPD.TRIAL h.a0 0).journal, .done 0 0 0 0)
  else (s, .done 0x13 0 0 0)

/-- UPDATE_CONFIRM (R356). -/
def execUpdateConfirm (h : HostCmd) (s : State) : Result :=
  .next (s.runCmd h cmdUpdateConfirm (.updateConfirm h) fun s => s.updateConfirm h)

/-- TRIAL_TIMEOUT (R356, R357): 600 s without UPDATE_CONFIRM; kinds 0 and 1 restart their firmware. -/
def execTrialTimeout (kind : Nat) (s : State) : Result :=
  onUnit s (decide (kind < 4)) (
    if s.rget RGR_UPD.TRIAL kind = 1 then
      let s := s.trialFails kind
      match kind with
      | 0 => s.restartCps none
      | 1 => s.restartRanger
      | _ => s
    else s)

end Sys2Proof.Machine
end

