-- ==== Sys2Proof/Machine/Ladder.lean ====
section
/-! DEFINITION. The steps of the power ladder (R310 to R313, R316, R331): an entry's step, the arrival in D0, and the
commands that waited for either. -/
namespace Sys2Proof.Machine

/-- The state of a result. -/
def nextOr (s : State) (r : Result) : State :=
  match r with
  | .next t => t
  | _ => s

/-- A host command that waited for the end of a transition runs in the state reached (R312). -/
def State.runWaiting (s : State) (c : Instr) : State :=
  match c with
  | .nop (.host h) => nextOr s (execNop (.host h) s)
  | .planLoad h image => nextOr s (execPlanLoad h image s)
  | .planActivate h => nextOr s (execPlanActivate h s)
  | .planUnload h => nextOr s (execPlanUnload h s)
  | .frameRun h => nextOr s (execFrameRun h s)
  | .frameStop h => nextOr s (execFrameStop h s)
  | .frameWait h => nextOr s (execFrameWait h s)
  | .slotBind h => nextOr s (execSlotBind h s)
  | .slotUnbind h => nextOr s (execSlotUnbind h s)
  | .paramPatch h => nextOr s (execParamPatch h s)
  | .statsRead h => nextOr s (execStatsRead h s)
  | .svcRun h code => nextOr s (execSvcRun h code s)
  | .dmaCopy h hostData => nextOr s (execDmaCopy h hostData s)
  | .pageMap h => nextOr s (execPageMap h s)
  | .pageUnmap h => nextOr s (execPageUnmap h s)
  | .pageMove h => nextOr s (execPageMove h s)
  | .ctxCreate h desc trail => nextOr s (execCtxCreate h desc trail s)
  | .ctxSet h desc trail => nextOr s (execCtxSet h desc trail s)
  | .ctxDestroy h => nextOr s (execCtxDestroy h s)
  | .cairnRead h => nextOr s (execCairnRead h s)
  | .linkReset h => nextOr s (execLinkReset h s)
  | .updateStage h image => nextOr s (execUpdateStage h image s)
  | .updateConfirm h => nextOr s (execUpdateConfirm h s)
  | _ => s

/-- The commands that waited for the end of a transition run, in their order (R312). -/
def State.runHeld (s : State) : State :=
  s.host.held.foldl (fun s c => s.runWaiting c) { s with host := { s.host with held := [] } }

/-- The commands of a function that paused for want of its Bus Master Enable run, in their order (R307). -/
def State.resumeHost (s : State) (f : Nat) : State :=
  let mine (c : Instr) : Bool := carries (fun h => decide (h.func = f)) c
  (s.host.paused.filter mine).foldl (fun s c => s.runWaiting c)
    { s with host := { s.host with paused := s.host.paused.filter fun c => !mine c } }

/-- BUS_MASTER_ENABLE (R307). The transfers that paused go on. A VF whose bit is set is enabled, and so are those before it (log 26). -/
def execBusMasterEnable (f : Nat) (on : Bool) (s : State) : Result :=
  onUnit s (decide (f < 256)) (
    let s := { s with host := { s.host with bme := Assoc.put false s.host.bme f on } }
    let s := if on then s.resumeHost f else s
    if f = 0 then s.drainStage
    else if on then
      { s.rset0 HOST_STATUS.VFS (Nat.max f (s.rget HOST_STATUS.VFS)) with host := { s.host with vfOn := true } }
    else s)

/-- The POWER_SET whose entry this was is answered. -/
def State.endEntry (s : State) (status r0 r1 : Nat) : State :=
  match s.pwr.entryCmd with
  | some h => { s with pwr := { s.pwr with entryCmd := none } }.finish h cmdPowerSet status 0 r0 r1
  | none => s

/-- Every POWER_SET that waits for D0 is answered. -/
def State.endWaiters (s : State) (status : Nat) : State :=
  let ws := s.pwr.waiters
  ws.foldl (fun s h => s.finish h cmdPowerSet status 0 0 0) { s with pwr := { s.pwr with waiters := [] } }

/-- A transition ends in the state reached. -/
def State.endMove (s : State) : State :=
  { s.rset0 PWR_STATE.MOVING 0 with pwr := { s.pwr with exiting := false, waking := false, abandoned := false, committed := false } }

/-- A step of an entry has ended in state n: the entry is complete, goes on, or gives way to a wake that came after the
commit point (R311, R312, R316); in the fail-safe state it holds (R331). Without CLK32K the ladder ends at D3 (log 24). -/
def State.entryReached (s : State) (n : Nat) : State :=
  let s := s.reachState n
  let target := s.rget PWR_STATE.TARGET
  let waking := s.pwr.waking
  if s.failSafe then ((s.endMove.endEntry 0x0F 0 0).endWaiters 0x0F).runHeld
  else if n = target ∨ (n = 3 ∧ target = 4 ∧ s.pwr.clk32k = false) then
    let s := s.endMove.endEntry 0x00 n 0
    if waking then s.startExit else s.runHeld
  else if waking then
    let s := (s.event PWR_EVENT.ENTRY_ABORTED).startExit
    { s with pwr := { s.pwr with abandoned := true } }
  else s.beginStep (n + 1)

/-- ENTRY_STEP (R310 to R312). -/
def execEntryStep (s : State) : Result := .next (if s.entering then s.entryReached s.pwr.step else s)

/-- Every crossing is recalibrated on an exit from D3 or D4 (R29, R310), which ends what the regions that leave P5 wait for, but
for a spare that a retirement still tries (R364). A crossing that fails shows OK = 0 (log 69). -/
def State.recalibrateAll (s : State) (from' : Nat) (probes : List (Nat × Nat × Nat)) : State :=
  if from' < 3 then s
  else
    let t := s.calibrate probes
    { t with rgr := { t.rgr with leaving := t.rgr.leaving.filter fun e => decide (t.spareTried = some e.1) } }

/-- The wake sequence reaches D0 (R310, R313, R316). -/
def State.wakeDone (s : State) (probes : List (Nat × Nat × Nat)) : State :=
  let aborted := s.pwr.abandoned
  let from' := s.rget PWR_WAKE.FROM
  let s := ((s.leaveSleep from').recalibrateAll from' probes).rset0 PWR_STATE.DSTATE 0
  let s := (s.event PWR_EVENT.WAKE).endMove
  if s.failSafe then ((s.endEntry 0x0F 0 0).endWaiters 0x0F).runHeld
  else
    let s := if aborted then s.endEntry 0x11 0 (s.rget PWR_WAKE.CAUSES) else s
    (s.endWaiters 0x00).runHeld

/-- An exit from D3 or D4 has every crossing's probes (R29, R310). -/
def State.exitProbed (s : State) (probes : List (Nat × Nat × Nat)) : Bool :=
  decide (s.rget PWR_WAKE.FROM < 3) || (List.range (s.rget CLK_XING_COUNT.COUNT)).all fun i => probes.any fun e => decide (e.1 = i)

/-- D0_REACHED (R310, R316), with the probes (crossing, MIN, MAX) of an exit from D3 or D4. -/
def execD0Reached (probes : List (Nat × Nat × Nat)) (s : State) : Result :=
  .next (if s.pwr.exiting && s.exitProbed probes then s.wakeDone probes else s)

end Sys2Proof.Machine
end

