-- ==== Sys2Proof/Machine/Mgmt.lean ====
section
/-! DEFINITION. The Ranger's management (spec/16): sessions (R335), management commands (R336), SPDM (R341), MCTP control
(R337), PLDM (R340), I3C (R339) and the MGT port (R338). Answers are numbered by message type and code (log 38). -/
namespace Sys2Proof.Machine

/-! ### Paths, answers and sessions (R314, R335, R337, R351) -/

/-- The ROM's Bivouac mode, which serves the Ranger alone (R351). -/
def State.romOnly (s : State) : Bool := s.bivouac && decide (s.rget RGR_BOOT.BIV_REASON = 0x01)

/-- A path reaches the Ranger: I3C in every device state (R339), the MGT port while its link is up and PCIe while the host domain
has power, both down to D3 (R314, R334); the ROM's Bivouac mode does not serve PCIe (R351). -/
def State.pathOpen (s : State) (p : MgmtPath) : Bool :=
  match p with
  | .i3c => true
  | .mgt => decide (s.rget RGR_MGMT.MGT_UP = 1) && decide (s.rget PWR_STATE.DSTATE ≤ 3)
  | .pcie _ => decide (s.rget PWR_STATE.DSTATE ≤ 3) && !s.rgr.powerOff && !s.romOnly

/-- The ROM's Bivouac mode offers SPDM and PLDM firmware update (R351), with the MCTP control and PLDM base commands that find
them: not the management commands, nor the sensors. -/
def romOffers (code : Nat) : Bool := decide (code / 256 ≠ 0x7F) && decide (code / 256 ≠ 0x0102)

/-- A message comes to a handler: the firmware does not run while it restarts (R326). -/
def State.hears (s : State) (m : MgmtMsg) (code : Nat) : Bool :=
  s.rgr.running && s.pathOpen m.path && (!s.romOnly || romOffers code)

/-- An answer goes out by the path that its message came by; on I3C the in-band interrupt for a pending message goes with it
(R339). -/
def State.mgmtAnswer (s : State) (m : MgmtMsg) (code status : Nat) (payload : List Byte) : State :=
  let s := s.emit (.mgmt m.path code status payload)
  match m.path with
  | .i3c => s.emit (.ibi 0x03)
  | _ => s

/-- A message outside any session, if it is heard. -/
def State.mgmtPlain (s : State) (m : MgmtMsg) (code : Nat) (body : State → State) : State :=
  if s.hears m code then body s else s

/-- A message of an open and authenticated session that is no replay: its sequence number is not below the next one (R335,
log 38). -/
def State.inSession (s : State) (m : MgmtMsg) : Bool :=
  s.rgr.sessions.any fun x => decide (x.id = m.session) && x.authed && decide (x.seq ≤ m.seq)

/-- A session's message has been taken: a later one has a higher sequence number. -/
def State.took (s : State) (m : MgmtMsg) : State :=
  { s with rgr := { s.rgr with sessions := s.rgr.sessions.map fun x => if x.id = m.session then { x with seq := m.seq + 1 } else x } }

/-- A command that is accepted only in a session (R335): outside one it is answered NOT_PERMITTED and changes nothing. -/
def State.mgmtCmd (s : State) (m : MgmtMsg) (code : Nat) (body : State → State × Nat) : State :=
  s.mgmtPlain m code fun s =>
    if s.inSession m then
      let (s, st) := body (s.took m)
      s.mgmtAnswer m code st []
    else s.mgmtAnswer m code 0x04 []

/-- The list of sessions changes, and RGR_STATUS.SESSIONS with it. -/
def State.setSessions (s : State) (l : List Session) : State :=
  { s.rset0 RGR_STATUS.SESSIONS l.length with rgr := { s.rgr with sessions := l } }

/-- A session closes. -/
def State.closeSession (s : State) (id : Nat) : State := s.setSessions (s.rgr.sessions.filter fun x => x.id ≠ id)

/-- SESSION_EXPIRY (R335): 60 s without a message. -/
def execSessionExpiry (session : Nat) (s : State) : Result := .next (s.closeSession session)

/-! ### Management commands (R336) -/

/-- ID_ASSIGN (R239, R336): the sizes and the ID; BUSY while frames run. -/
def execIdAssign (m : MgmtMsg) (id dims : Nat) (s : State) : Result :=
  .next (s.mgmtCmd m 0x7F01 fun s =>
    if s.running then (s.rset0 FAB_ID.RESULT 2, 0x01) else ((s.dimsWrite dims).assignId id, 0x00))

/-- A loaded variant whose profile fails R75 under a lower allowance (R322). -/
def State.allowanceFails (s : State) : State :=
  (List.range 4).foldl (fun s v =>
    let st := s.rget PLAN_VAR_STATE.STATE v
    if s.allowanceOk (s.variant v).image (s.variant v).cores (s.rget PLAN_VAR_STATE.FRAME_LEN v) then s
    else if st = 2 then (s.rset PLAN_VAR_STATE.STATE v 5).rset PLAN_VAR_STATE.REASON v 0x08
    else if st = 3 then s.event PWR_EVENT.OVER_PROFILE
    else s) s

/-- ALLOW_SET (R322, R336). -/
def execAllowSet (m : MgmtMsg) (allowW hardW : Nat) (s : State) : Result :=
  .next (s.mgmtCmd m 0x7F02 fun s =>
    if 800 ≤ allowW ∧ allowW ≤ 1600 ∧ 20 ≤ hardW ∧ hardW ≤ 200 then
      let lower := decide (allowW < s.rget PWR_ALLOW.ALLOW_W)
      let s := (s.rset0 PWR_ALLOW.ALLOW_W allowW).rset0 PWR_ALLOW.HARD_W hardW
      (if lower then s.allowanceFails else s, 0x00)
    else (s, 0x03))

/-- THERM_SET (R336). -/
def execThermSet (m : MgmtMsg) (hotC critC : Nat) (s : State) : Result :=
  .next (s.mgmtCmd m 0x7F03 fun s =>
    if 70 ≤ hotC ∧ hotC ≤ 105 ∧ hotC + 5 ≤ critC ∧ critC ≤ 120 then
      ((s.rset0 PWR_THERM.HOT_C hotC).rset0 PWR_THERM.CRIT_C critC, 0x00)
    else (s, 0x03))

/-- WAKE (R314, R336): it comes over MGT or I3C; over PCIe it fails that check (R335). -/
def execWake (m : MgmtMsg) (s : State) : Result :=
  .next (s.mgmtCmd m 0x7F04 fun s =>
    match m.path with
    | .pcie _ => (s, 0x04)
    | _ => (s.wakeCause 4, 0x00))

/-- DEVICE_RESET (R333, R336): answered, then cause 2. -/
def execDeviceReset (m : MgmtMsg) (s : State) : Result :=
  .next (
    let t := s.mgmtCmd m 0x7F05 fun s => (s, 0x00)
    if s.hears m 0x7F05 && s.inSession m then t.deviceReset 2 else t)

/-- FAILSAFE_ENTER (R336). -/
def execFailsafeEnter (m : MgmtMsg) (s : State) : Result :=
  .next (s.mgmtCmd m 0x7F06 fun s => (s.enterFailSafe 0x44 511, 0x00))

/-- BIVOUAC_SET (R336). -/
def execBivouacSet (m : MgmtMsg) (n : Nat) (s : State) : Result :=
  .next (s.mgmtCmd m 0x7F07 fun s =>
    if 2 ≤ n ∧ n ≤ 7 then ((s.rset0 RGR_RESET.BIVOUAC_N n).journal, 0x00) else (s, 0x03))

/-- BIVOUAC_EXIT (R336, R352): BUSY outside Bivouac mode. -/
def execBivouacExit (m : MgmtMsg) (s : State) : Result :=
  .next (
    if s.hears m 0x7F08 && s.inSession m && s.bivouac then
      let s := ((s.took m).rset0 RGR_RESET.FAILED 0).mgmtAnswer m 0x7F08 0x00 []
      (({ s with rgr := { s.rgr with bivouacFlag := false } }).journal).deviceReset 2 (leave := true)
    else s.mgmtCmd m 0x7F08 fun s => (s, 0x01))

/-- LINK_MASTER_SET (R336, R342): it takes effect at each port's next bring-up. -/
def execLinkMasterSet (m : MgmtMsg) (key : Nat) (s : State) : Result :=
  .next (s.mgmtCmd m 0x7F09 fun s =>
    ({ s.rset0 RGR_MGMT.LINK_KEY 1 with rgr := { s.rgr with linkKey := some (key % 2 ^ 256) } }, 0x00))

/-- The rejected-write log is emptied. -/
def State.clearRejects (s : State) : State :=
  { (s.rset0 RGR_REJ_HEAD.HEAD 0).rset0 RGR_REJ_HEAD.COUNT 0 with rgr := { s.rgr with rej := [] } }

/-- The fail-safe record is cleared: no cause, no region. -/
def State.clearFs (s : State) : State :=
  (((s.rset0 RGR_FS.CAUSE 0).rset0 RGR_FS.REGION 511).rset0 RGR_FS.MORE 0).rset0 RGR_FS_GST.GST 0

/-- LOG_CLEAR (R328, R336). -/
def execLogClear (m : MgmtMsg) (mask : Nat) (s : State) : Result :=
  .next (s.mgmtCmd m 0x7F0A fun s =>
    let s := if bitAt mask 0 then s.clearRejects else s
    (if bitAt mask 1 then s.clearFs.journal else s, 0x00))

/-- The operator root's digest (RGR_ROOT). -/
def State.rootDigest (s : State) : Nat := ((List.range 6).map fun k => s.rget RGR_ROOT.DIGEST k * 2 ^ (64 * k)).sum

/-- ROOT_ROTATE (R336). -/
def execRootRotate (m : MgmtMsg) (digest sig : Nat) (s : State) : Result :=
  .next (s.mgmtCmd m 0x7F0B fun s =>
    if Config.signatureValid s.rootDigest (bytesOf digest 48) sig then
      (((List.range 6).foldl (fun s k => s.rset RGR_ROOT.DIGEST k (bitsOf digest (64 * k) 64)) s).journal, 0x00)
    else (s, 0x08))

/-- CORE_RETIRE (R336, R364). -/
def execCoreRetire (m : MgmtMsg) (die index : Nat) (s : State) : Result :=
  onUnit s (decide (die < 2) && decide (index < 136))
    (s.mgmtCmd m 0x7F0C fun s => s.retireCore (144 * die + index))

/-! ### SPDM (R341) -/

/-- GET_VERSION. -/
def execGetVersion (m : MgmtMsg) (s : State) : Result :=
  .next (s.mgmtPlain m 0x0584 fun s => s.mgmtAnswer m 0x0584 0 (Config.mgmtPayload 0x0584 0))

/-- GET_CAPABILITIES. -/
def execGetCapabilities (m : MgmtMsg) (s : State) : Result :=
  .next (s.mgmtPlain m 0x05E1 fun s => s.mgmtAnswer m 0x05E1 0 (Config.mgmtPayload 0x05E1 0))

/-- NEGOTIATE_ALGORITHMS: bits 0 to 4 of `offered` are R341's five algorithms in its order; no other is offered. -/
def execNegotiateAlgorithms (m : MgmtMsg) (offered : Nat) (s : State) : Result :=
  .next (s.mgmtPlain m 0x05E3 fun s =>
    let s := { s with rgr := { s.rgr with algosOk := s.rgr.algosOk || decide (offered % 32 = 31) } }
    s.mgmtAnswer m 0x05E3 0 (bytesOf (offered % 32) 1))

/-- GET_DIGESTS. -/
def execGetDigests (m : MgmtMsg) (s : State) : Result :=
  .next (s.mgmtPlain m 0x0581 fun s => s.mgmtAnswer m 0x0581 0 (Config.mgmtPayload 0x0581 0))

/-- GET_CERTIFICATE: only slot 0 holds a chain. -/
def execGetCertificate (m : MgmtMsg) (slot offset len : Nat) (s : State) : Result :=
  .next (s.mgmtPlain m 0x0582 fun s =>
    if slot = 0 then s.mgmtAnswer m 0x0582 0 (((Config.mgmtPayload 0x0582 0).drop offset).take len)
    else s.mgmtAnswer m 0x0582 0x03 [])

/-- CHALLENGE. -/
def execChallenge (m : MgmtMsg) (slot nonce : Nat) (s : State) : Result :=
  .next (s.mgmtPlain m 0x0583 fun s =>
    if slot = 0 then s.mgmtAnswer m 0x0583 0 (Config.mgmtPayload 0x0583 nonce) else s.mgmtAnswer m 0x0583 0x03 [])

/-- The SHA-384 measurement of bytes. -/
def measure (bs : List Byte) : List Byte := sha384 bs

/-- The active slot's image of a kind. -/
def State.activeImageOf (s : State) (kind : Nat) : List Byte := (s.fwSlot kind (s.rget RGR_UPD.ACTIVE kind)).image

/-- The fuse configuration: grade, stepping and core states. -/
def State.fuseBytes (s : State) : List Byte :=
  bytesOf (s.rget IDENT_DEVICE.GRADE) 1 ++ bytesOf (s.rget IDENT_DEVICE.STEP_MAJOR * 16 + s.rget IDENT_DEVICE.STEP_MINOR) 1 ++
    coreRegions.map fun r => byteOf (s.pcoreState r) 0

/-- A measurement block (R341's table): 1 to 5 as SHA-384, 6 as the four digests. -/
def State.measurement (s : State) (index : Nat) : List Byte :=
  match index with
  | 1 => measure (s.activeImageOf 1)
  | 2 => measure (s.activeImageOf 0)
  | 3 => measure (s.activeImageOf 2)
  | 4 => measure (s.activeImageOf 3)
  | 5 => measure s.fuseBytes
  | 6 => (List.range 16).flatMap fun i => bytesOf (s.rget PLAN_VAR_DIGEST.DIGEST i) 8
  | _ => []

/-- GET_MEASUREMENTS: one block, 0 for how many there are, 255 for all. -/
def execGetMeasurements (m : MgmtMsg) (index _nonce : Nat) (s : State) : Result :=
  .next (s.mgmtPlain m 0x05E0 fun s =>
    if index = 0 then s.mgmtAnswer m 0x05E0 0 [6]
    else if index = 255 then s.mgmtAnswer m 0x05E0 0 ([1, 2, 3, 4, 5, 6].flatMap s.measurement)
    else if index ≤ 6 then s.mgmtAnswer m 0x05E0 0 (s.measurement index)
    else s.mgmtAnswer m 0x05E0 0x03 [])

/-- A session begins, not yet authenticated. -/
def State.openSession (s : State) (pf0 : Bool) : State :=
  let x : Session := { id := s.rgr.nextSession, authed := false, pf0 := pf0 }
  let s := s.setSessions (s.rgr.sessions ++ [x])
  { s with rgr := { s.rgr with nextSession := (s.rgr.nextSession + 1) % 2 ^ 32 } }

/-- KEY_EXCHANGE (R335, R341): the Ranger holds at most two sessions, with the algorithms it offers. -/
def execKeyExchange (m : MgmtMsg) (exchange : Nat) (s : State) : Result :=
  .next (s.mgmtPlain m 0x05E4 fun s =>
    if ¬ s.rgr.algosOk then s.mgmtAnswer m 0x05E4 0x04 []
    else if s.rgr.sessions.length ≥ 2 then s.mgmtAnswer m 0x05E4 0x01 []
    else
      let id := s.rgr.nextSession
      (s.openSession (decide (m.path = .pcie true))).mgmtAnswer m 0x05E4 0 (bytesOf id 4 ++ Config.mgmtPayload 0x05E4 exchange))

/-- FINISH (R335): the requester's chain ends in the operator root, and its signature is good. -/
def execFinish (m : MgmtMsg) (chainRoot sig : Nat) (s : State) : Result :=
  .next (s.mgmtPlain m 0x05E5 fun s =>
    let known := s.rgr.sessions.any fun x => decide (x.id = m.session) && !x.authed
    if known && decide (chainRoot = s.rootDigest) && Config.signatureValid chainRoot (bytesOf m.session 4) sig then
      let l := s.rgr.sessions.map fun x => if x.id = m.session then { x with authed := true } else x
      (s.setSessions l).mgmtAnswer m 0x05E5 0 []
    else s.mgmtAnswer m 0x05E5 0x04 [])

/-- HEARTBEAT: the session goes on. -/
def execSpdmHeartbeat (m : MgmtMsg) (s : State) : Result := .next (s.mgmtCmd m 0x05E8 fun s => (s, 0x00))

/-- KEY_UPDATE: operations 1 and 2 update the session's keys, 3 verifies the new one. -/
def execKeyUpdate (m : MgmtMsg) (op : Nat) (s : State) : Result :=
  .next (s.mgmtCmd m 0x05E9 fun s =>
    if op = 1 ∨ op = 2 then
      (s.setSessions (s.rgr.sessions.map fun x => if x.id = m.session then { x with keyGen := x.keyGen + 1 } else x), 0x00)
    else (s, if op = 3 then 0x00 else 0x03))

/-- END_SESSION. -/
def execEndSession (m : MgmtMsg) (s : State) : Result :=
  .next (s.mgmtCmd m 0x05EC fun s => (s.closeSession m.session, 0x00))

/-! ### MCTP control (R337) -/

/-- Set Endpoint ID. -/
def execSetEndpointId (m : MgmtMsg) (eid : Nat) (s : State) : Result :=
  .next (s.mgmtPlain m 0x0001 fun s => (s.rset0 RGR_MGMT.EID eid).mgmtAnswer m 0x0001 0 (bytesOf eid 1))

/-- Get Endpoint ID. -/
def execGetEndpointId (m : MgmtMsg) (s : State) : Result :=
  .next (s.mgmtPlain m 0x0002 fun s => s.mgmtAnswer m 0x0002 0 (bytesOf (s.rget RGR_MGMT.EID) 1))

/-- Get Endpoint UUID. -/
def execGetEndpointUuid (m : MgmtMsg) (s : State) : Result :=
  .next (s.mgmtPlain m 0x0003 fun s => s.mgmtAnswer m 0x0003 0 (Config.mgmtPayload 0x0003 0))

/-- The message types that the endpoint supports (R337). -/
def mctpTypes : List Nat := [0x00, 0x01, 0x05, 0x06, 0x7F]

/-- Get MCTP Version Support: of a message type that is supported. -/
def execGetMctpVersionSupport (m : MgmtMsg) (mtype : Nat) (s : State) : Result :=
  .next (s.mgmtPlain m 0x0004 fun s =>
    if mctpTypes.contains mtype then s.mgmtAnswer m 0x0004 0 (Config.mgmtPayload 0x0004 mtype) else s.mgmtAnswer m 0x0004 0x03 [])

/-- Get Message Type Support. -/
def execGetMessageTypeSupport (m : MgmtMsg) (s : State) : Result :=
  .next (s.mgmtPlain m 0x0005 fun s => s.mgmtAnswer m 0x0005 0 (mctpTypes.map fun t => byteOf t 0))

/-! ### PLDM types 0 and 2 (R340) -/

/-- GetTID. -/
def execGetTid (m : MgmtMsg) (s : State) : Result :=
  .next (s.mgmtPlain m 0x010002 fun s => s.mgmtAnswer m 0x010002 0 (bytesOf s.rgr.tid 1))

/-- The PLDM types. -/
def pldmTypes : List Nat := [0, 2, 5]

/-- GetPLDMVersion: of a type that is supported. -/
def execGetPldmVersion (m : MgmtMsg) (ptype : Nat) (s : State) : Result :=
  .next (s.mgmtPlain m 0x010003 fun s =>
    if pldmTypes.contains ptype then s.mgmtAnswer m 0x010003 0 (Config.mgmtPayload 0x010003 ptype) else s.mgmtAnswer m 0x010003 0x03 [])

/-- GetPLDMTypes. -/
def execGetPldmTypes (m : MgmtMsg) (s : State) : Result :=
  .next (s.mgmtPlain m 0x010004 fun s => s.mgmtAnswer m 0x010004 0 (pldmTypes.map fun t => byteOf t 0))

/-- GetPLDMCommands: of a type that is supported. -/
def execGetPldmCommands (m : MgmtMsg) (ptype : Nat) (s : State) : Result :=
  .next (s.mgmtPlain m 0x010005 fun s =>
    if pldmTypes.contains ptype then s.mgmtAnswer m 0x010005 0 (Config.mgmtPayload 0x010005 ptype) else s.mgmtAnswer m 0x010005 0x03 [])

/-- GetPDR. -/
def execGetPdr (m : MgmtMsg) (record : Nat) (s : State) : Result :=
  .next (s.mgmtPlain m 0x010251 fun s => s.mgmtAnswer m 0x010251 0 (Config.mgmtPayload 0x010251 record))

/-- A numeric sensor (R340), numbered in the order R340 lists them (log 38): power, hottest region, stacks 0 to 11, then
each rail's voltage and current. -/
def State.sensor (s : State) (k : Nat) : Option Nat :=
  if k = 0 then some (s.rget PWR_MEASURE.MEAS_W)
  else if k = 1 then some (s.rget PWR_THERM.MAX_C)
  else if k < 14 then some (s.rget PWR_REGION.TEMP_C (regionOfStack (k - 2)))
  else if k < 20 then
    some (if k % 2 = 0 then s.rget RGR_AVS.READ_MV ((k - 14) / 2) else s.rget RGR_AVS.READ_A ((k - 14) / 2))
  else none

/-- GetSensorReading. -/
def execGetSensorReading (m : MgmtMsg) (sensor : Nat) (s : State) : Result :=
  .next (s.mgmtPlain m 0x010211 fun s => match s.sensor sensor with
    | some v => s.mgmtAnswer m 0x010211 0 (bytesOf v 4)
    | none => s.mgmtAnswer m 0x010211 0x03 [])

/-! ### PLDM type 5, firmware update (R340, R354, R355) -/

/-- The update's stage: 0 idle, 1 components to be listed, 2 ready for a component, 3 download, 4 verify, 5 apply. -/
def State.setPldm (s : State) (n : Nat) : State := { s with rgr := { s.rgr with pldmState := n } }

/-- RequestUpdate: the transfers are at most what the request gives, and at most 1,024 bytes. -/
def execRequestUpdate (m : MgmtMsg) (maxTransfer : Nat) (s : State) : Result :=
  .next (s.mgmtCmd m 0x010510 fun s =>
    if s.rgr.pldmState ≠ 0 then (s, 0x01)
    else ({ s with rgr := { s.rgr with pldmState := 1, pldmMax := Nat.min maxTransfer 1024 } }, 0x00))

/-- PassComponentTable. -/
def execPassComponentTable (m : MgmtMsg) (kind _version : Nat) (s : State) : Result :=
  .next (s.mgmtCmd m 0x010513 fun s =>
    if s.rgr.pldmState ≠ 1 ∧ s.rgr.pldmState ≠ 2 then (s, 0x01) else if kind ≥ 4 then (s, 0x03) else (s.setPldm 2, 0x00))

/-- UpdateComponent: the download begins. -/
def execUpdateComponent (m : MgmtMsg) (kind _version size : Nat) (s : State) : Result :=
  .next (s.mgmtCmd m 0x010514 fun s =>
    if s.rgr.pldmState ≠ 2 then (s, 0x01)
    else if kind ≥ 4 ∨ (s.romOnly = true ∧ kind ≠ 1) then (s, 0x03)
    else if s.rget RGR_UPD.TRIAL kind = 1 then (s, 0x01)
    else if size > slotBytes kind then (s, 0x06)
    else
      let s := { s with rgr := { s.rgr with pldmKind := kind, pldmSize := size, pldmData := [] } }
      ((s.beginDownload kind).setPldm 3, 0x00))

/-- RequestFirmwareData: the next piece of the image. -/
def execRequestFirmwareData (m : MgmtMsg) (offset : Nat) (data : List Byte) (s : State) : Result :=
  .next (s.mgmtCmd m 0x010515 fun s =>
    let have' := s.rgr.pldmData.length
    if s.rgr.pldmState ≠ 3 then (s, 0x01)
    else if offset ≠ have' ∨ data.length > s.rgr.pldmMax ∨ have' + data.length > s.rgr.pldmSize then (s, 0x03)
    else ({ s with rgr := { s.rgr with pldmData := s.rgr.pldmData ++ data } }, 0x00))

/-- TransferComplete: the slot is downloaded; after a failed transfer it stays as it was, downloading. -/
def execTransferComplete (m : MgmtMsg) (result : Nat) (s : State) : Result :=
  .next (s.mgmtCmd m 0x010516 fun s =>
    if s.rgr.pldmState ≠ 3 then (s, 0x01)
    else if result ≠ 0 ∨ s.rgr.pldmData.length ≠ s.rgr.pldmSize then (s.setPldm 2, 0x00)
    else ((s.endDownload s.rgr.pldmKind s.rgr.pldmData).setPldm 4, 0x00))

/-- VerifyComplete. -/
def execVerifyComplete (m : MgmtMsg) (s : State) : Result :=
  .next (s.mgmtCmd m 0x010517 fun s =>
    if s.rgr.pldmState ≠ 4 then (s, 0x01)
    else
      let (st, s) := s.verifySlot s.rgr.pldmKind
      (s.setPldm (if st = 0 then 5 else 2), st))

/-- ApplyComplete. -/
def execApplyComplete (m : MgmtMsg) (s : State) : Result :=
  .next (s.mgmtCmd m 0x010518 fun s => if s.rgr.pldmState ≠ 5 then (s, 0x01) else (s.setPldm 2, 0x00))

/-- ActivateFirmware: the component last applied, with TRIAL_MAX 3. The answer goes out before a restart. -/
def execActivateFirmware (m : MgmtMsg) (s : State) : Result :=
  .next (s.mgmtPlain m 0x01051A fun s =>
    let kind := s.rgr.pldmKind
    let st := if s.rgr.pldmState ≠ 2 then 0x01 else s.activateStatus kind
    if s.inSession m = false then s.mgmtAnswer m 0x01051A 0x04 []
    else if st ≠ 0 then (s.took m).mgmtAnswer m 0x01051A st []
    else ((((s.took m).setPldm 0).mgmtAnswer m 0x01051A 0x00 []).activateKind kind 3 none).1)

/-- GetStatus: inside a session, as every update command. -/
def execGetStatus (m : MgmtMsg) (s : State) : Result :=
  .next (s.mgmtPlain m 0x01051B fun s =>
    if s.inSession m then (s.took m).mgmtAnswer m 0x01051B 0 (bytesOf s.rgr.pldmState 1)
    else s.mgmtAnswer m 0x01051B 0x04 [])

/-- CancelUpdate. -/
def execCancelUpdate (m : MgmtMsg) (s : State) : Result :=
  .next (s.mgmtCmd m 0x01051D fun s => (s.setPldm 0, 0x00))

/-! ### I3C (R339) -/

/-- ENTDAA: a target without a dynamic address takes one. -/
def execEntdaa (addr : Nat) (s : State) : Result :=
  .next (if s.rget RGR_MGMT.I3C_DA = 0 then s.rset0 RGR_MGMT.I3C_DA addr else s)

/-- SETDASA: the target with the static address takes the dynamic one. -/
def execSetdasa (staticAddr addr : Nat) (s : State) : Result :=
  .next (if staticAddr = s.rget RGR_MGMT.I3C_SA then s.rset0 RGR_MGMT.I3C_DA addr else s)

/-- HOT_JOIN: a target without a dynamic address asks for one (numbered 0 among the in-band requests, log 38). -/
def execHotJoin (s : State) : Result := .next (if s.rget RGR_MGMT.I3C_DA = 0 then s.emit (.ibi 0) else s)

/-! ### The MGT port (R338) -/

/-- MGT_LINK_UP. -/
def execMgtLinkUp (up : Bool) (s : State) : Result := .next (s.rset0 RGR_MGMT.MGT_UP (if up then 1 else 0))

/-- The port answers for an address: its own ones, while its link is up. -/
def State.mgtAnswers (s : State) (ip : Nat) (linkLocal : Bool) : Bool :=
  decide (s.rget RGR_MGMT.MGT_UP = 1) && (s.rgr.mgtIps.contains ip || (linkLocal && decide (ip = Config.mgtLinkLocal)))

/-- ARP. -/
def execArp (targetIp : Nat) (s : State) : Result :=
  .next (if s.mgtAnswers targetIp false then s.emit (.mgt 0x0806 targetIp) else s)

/-- NDP. -/
def execNdp (targetIp : Nat) (s : State) : Result :=
  .next (if s.mgtAnswers targetIp true then s.emit (.mgt 0x3A88 targetIp) else s)

/-- ICMP echo. -/
def execIcmpEcho (targetIp ident : Nat) (s : State) : Result :=
  .next (if s.mgtAnswers targetIp true then s.emit (.mgt 0x0800 ident) else s)

end Sys2Proof.Machine
end

