-- ==== Sys2Proof/Machine/Scalar.lean ====
section
/-! DEFINITION. The S queue's instructions (spec/04): scalar arithmetic, LDI, LDS and STS, in plan-class and
service-class code. -/
namespace Sys2Proof.Machine

/-- A scalar operation: rd = ra op (rb + sext(imm)) (R85, R87). -/
def State.alu (s : State) (op : Alu) (x : Issue) (rd ra rb : RegSpec) (imm : BitVec 23) : State :=
  let value (k : Core) : Word := op.value (k.reg ra) (k.operandB rb imm)
  if x.svc then s.svcStep x fun k => (k.setReg rd (value k), none)
  else s.issue x fun s t => s.pushReg x t rd (value (s.core x.core))

/-- ADD (R87). -/
def execAdd (x : Issue) (rd ra rb : RegSpec) (imm : BitVec 23) (s : State) : Result := onCore s x (s.alu .add x rd ra rb imm)

/-- SUB (R87). -/
def execSub (x : Issue) (rd ra rb : RegSpec) (imm : BitVec 23) (s : State) : Result := onCore s x (s.alu .sub x rd ra rb imm)

/-- MUL: the low 64 bits (R87). -/
def execMul (x : Issue) (rd ra rb : RegSpec) (imm : BitVec 23) (s : State) : Result := onCore s x (s.alu .mul x rd ra rb imm)

/-- AND (R87). -/
def execAnd (x : Issue) (rd ra rb : RegSpec) (imm : BitVec 23) (s : State) : Result := onCore s x (s.alu .and x rd ra rb imm)

/-- OR (R87). -/
def execOr (x : Issue) (rd ra rb : RegSpec) (imm : BitVec 23) (s : State) : Result := onCore s x (s.alu .or x rd ra rb imm)

/-- XOR (R87). -/
def execXor (x : Issue) (rd ra rb : RegSpec) (imm : BitVec 23) (s : State) : Result := onCore s x (s.alu .xor x rd ra rb imm)

/-- SHL by b[5:0] (R87). -/
def execShl (x : Issue) (rd ra rb : RegSpec) (imm : BitVec 23) (s : State) : Result := onCore s x (s.alu .shl x rd ra rb imm)

/-- SHR by b[5:0] (R87). -/
def execShr (x : Issue) (rd ra rb : RegSpec) (imm : BitVec 23) (s : State) : Result := onCore s x (s.alu .shr x rd ra rb imm)

/-- SRA by b[5:0] (R87). -/
def execSra (x : Issue) (rd ra rb : RegSpec) (imm : BitVec 23) (s : State) : Result := onCore s x (s.alu .sra x rd ra rb imm)

/-- MIN, signed (R87). -/
def execMin (x : Issue) (rd ra rb : RegSpec) (imm : BitVec 23) (s : State) : Result := onCore s x (s.alu .min x rd ra rb imm)

/-- MAX, signed (R87). -/
def execMax (x : Issue) (rd ra rb : RegSpec) (imm : BitVec 23) (s : State) : Result := onCore s x (s.alu .max x rd ra rb imm)

/-- SLT, signed: 1 or 0 (R87). -/
def execSlt (x : Issue) (rd ra rb : RegSpec) (imm : BitVec 23) (s : State) : Result := onCore s x (s.alu .slt x rd ra rb imm)

/-- SLTU: 1 or 0 (R87). -/
def execSltu (x : Issue) (rd ra rb : RegSpec) (imm : BitVec 23) (s : State) : Result := onCore s x (s.alu .sltu x rd ra rb imm)

/-- SEQ: 1 or 0 (R87). -/
def execSeq (x : Issue) (rd ra rb : RegSpec) (imm : BitVec 23) (s : State) : Result := onCore s x (s.alu .seq x rd ra rb imm)

/-- LDI (R87). -/
def State.ldi (s : State) (x : Issue) (rd : RegSpec) (h : Bool) (imm : BitVec 32) : State :=
  if x.svc then s.svcStep x fun k => (k.setReg rd (ldiValue (k.reg rd) h imm), none)
  else s.issue x fun s t => s.pushReg x t rd (ldiValue ((s.core x.core).reg rd) h imm)

/-- LDI (R87). -/
def execLdi (x : Issue) (rd : RegSpec) (h : Bool) (imm : BitVec 32) (s : State) : Result := onCore s x (s.ldi x rd h imm)

/-- The bank access of LDS or STS to word w (R88, R169). -/
def wordAccess (c t w : Nat) : BankAccess := { cls := 0, issued := t, unit := c, kind := 0, line := w / 8 }

/-- LDS at its issue tick: ADDRESS outside the scratchpad (R88), ECC_DATA on a bad word (R170), else the word
goes to rd. -/
def State.ldsAt (s : State) (x : Issue) (rd ra : RegSpec) (imm : BitVec 23) (t : Nat) : State :=
  let k := s.core x.core
  let w := (k.wordIndex ra imm).toNat
  if w ≥ 524288 then
    if s.mutedAt t then s else s.instrFault x 0x0F 0xFFFF (w % 2 ^ 32) t
  else
    let s := s.access x.core (wordAccess x.core t w)
    if s.mutedAt t then s
    else if spadBad k (8 * w) 8 then s.instrFault x 0x0E (bankOf (w / 8)) (8 * w) t
    else s.pushReg x t rd (BitVec.ofNat 64 (natOfBytes (spadBytes k (8 * w) 8)))

/-- LDS of a good word in service-class code: within the service area only (R98). -/
def ldsSvc (rd ra : RegSpec) (imm : BitVec 23) (k : Core) : Core × Option Nat :=
  let w := (k.wordIndex ra imm).toNat
  if ¬ k.inArea w then (k, some 0x04)
  else (k.setReg rd (BitVec.ofNat 64 (natOfBytes (spadBytes k (8 * w) 8))), none)

/-- LDS in service-class code: a bad word gives rd zeros and ends the call with DATA_ERROR (R98, R170). -/
def State.ldsService (s : State) (x : Issue) (rd ra : RegSpec) (imm : BitVec 23) : State :=
  let k := s.core x.core
  let w := (k.wordIndex ra imm).toNat
  if s.svcReady x.core && k.inArea w && spadBad k (8 * w) 8 then (s.setCore x.core (k.setReg rd 0#64)).svcEnd x.core 0x0C
  else s.svcStep x (ldsSvc rd ra imm)

/-- LDS (R87, R88). -/
def execLds (x : Issue) (rd ra : RegSpec) (imm : BitVec 23) (s : State) : Result :=
  onCore s x (if x.svc then s.ldsService x rd ra imm else s.issue x fun s t => s.ldsAt x rd ra imm t)

/-- STS at its issue tick: ADDRESS outside the scratchpad (R88), else the word takes rs at the end of the
tick. -/
def State.stsAt (s : State) (x : Issue) (rs ra : RegSpec) (imm : BitVec 23) (t : Nat) : State :=
  let k := s.core x.core
  let w := (k.wordIndex ra imm).toNat
  if w ≥ 524288 then
    if s.mutedAt t then s else s.instrFault x 0x0F 0xFFFF (w % 2 ^ 32) t
  else
    s.pendWrite x.core { tick := t, acc := wordAccess x.core t w, addr := 8 * w, bytes := bytesOf (k.reg rs).toNat 8 }

/-- STS in service-class code: within the service area only (R98). -/
def stsSvc (rs ra : RegSpec) (imm : BitVec 23) (k : Core) : Core × Option Nat :=
  let w := (k.wordIndex ra imm).toNat
  if k.inArea w then (spadWrite k (8 * w) (bytesOf (k.reg rs).toNat 8), none) else (k, some 0x04)

/-- STS (R87, R88). -/
def execSts (x : Issue) (rs ra : RegSpec) (imm : BitVec 23) (s : State) : Result :=
  onCore s x (if x.svc then s.svcStep x (stsSvc rs ra imm) else s.issue x fun s t => s.stsAt x rs ra imm t)

end Sys2Proof.Machine
end

