-- ==== Sys2Proof/Machine/Select.lean ====
section
/-! DEFINITION. The selection units' jobs (R190 to R193, R198, R200): their start, their record and the commit list. -/
namespace Sys2Proof.Machine

/-! ### The record and the commit entries (R198, R200) -/

/-- The result record (R198). -/
def resultRecord (bubble : Bool) (o : SelOut) : List Byte :=
  let flags := (if bubble then 1 else 0) + (if o.rejected then 2 else 0) + (if o.empty > 0 then 4 else 0) +
    (if o.nans > 0 then 8 else 0)
  bytesOf o.a 4 ++ bytesOf o.count 4 ++
    ((List.range 8).flatMap fun i => bytesOf (o.tokens.getD i 0xFFFFFFFF) 4) ++ bytesOf flags 4 ++ List.replicate 20 0

/-- The commit entries of a job (R200). -/
def commitEntries (r : SelRun) (j : JobEntry) (c : SelCtx) (o : SelOut) (unit : Nat) : List CommitEntry :=
  let n := if j.mode = 0 then c.adv else o.a + 1
  let cand := if j.mode = 2 then some ((List.range 4).map (r.nextCand o.a)) else none
  let at' (i : Nat) : Nat := if j.mode = 0 then c.pos + c.adv else c.pos + 1 + i
  let toks := o.tokens.zip (List.range o.tokens.length)
  [.advance c.id n o.tokens.getLast? cand] ++ toks.map (fun e => .count c.id e.1) ++
    toks.map fun e => .output c.id e.1 (at' e.2) unit

/-! ### The two steps of a job -/

/-- A job is a bubble (R192). -/
def selBubble (j : JobEntry) (c : SelCtx) (aborted : Bool) : Bool :=
  aborted || decide (c.id = 0) || (decide (j.mode = 0) && decide (c.adv = 0))

/-- A unit's next job starts at its tick (R192): its parameters are those of the start of the tick. -/
def State.startJob (s : State) (u : Nat) (j : JobEntry) : State :=
  let s := s.advance j.tick
  let k := s.core (16 * u + j.core)
  let ps := (List.range 8).map fun i => Assoc.get 0 k.pLive (j.preg + i)
  let bubble := selBubble j (selCtx ps) (s.abortedAt j.tick)
  let x := s.selUnit u
  let s := s.setSel u { x with run := some { entry := x.next, params := ps, bubble := bubble }, next := x.next + 1 }
  (s.rset SRV_SEL_STATE.BUSY u 1).rset SRV_SEL_STATE.JOB u x.next

/-- SELECTION_JOB (R192, R193). -/
def execSelectionJob (u : Nat) (s : State) : Result :=
  onUnit s (decide (u < 16)) (
    let x := s.selUnit u
    match x.run, x.table[x.next]? with
    | none, some v => if s.frame.phase = .inFrame then s.startJob u (jobOf v) else s
    | _, _ => s)

/-- A job's end at its last tick (R193, R198, R200): the record, DONE, the commit entries and the counts. -/
def State.endJob (s : State) (u : Nat) (r : SelRun) (j : JobEntry) : State :=
  let t := j.tick + j.ticks - 1
  let s := s.advance t
  let c := selCtx r.params
  let core := 16 * u + j.core
  let aborted := s.mutedAt t
  let x := s.selUnit u
  let r := x.run.getD r
  let bubble := r.bubble || aborted
  let o := if bubble then {} else r.outcome j c
  let acc : BankAccess := { cls := 5, issued := j.tick, unit := u, kind := 0, line := j.outLine }
  let s := s.pendWrite core { tick := t, acc := acc, addr := 64 * j.outLine,
                              bytes := if aborted then [] else resultRecord bubble o }
  let s := if aborted then s else s.push core t (.tokenAdd 7 0xFFFFFFFF j.done 1)
  let x := s.selUnit u
  let x := { x with run := none, jobs := x.jobs + 1, bubbles := x.bubbles + (if bubble then 1 else 0),
                    proposed := x.proposed + o.examined, accepted := x.accepted + o.a,
                    committed := x.committed + (if j.commit && !bubble then o.tokens.length else 0),
                    nan := x.nan + o.nans, empty := x.empty + o.empty }
  let s := (s.setSel u x).rset SRV_SEL_STATE.BUSY u 0
  let s := if bubble then s else s.tel 10 1
  if j.commit && !bubble then
    let es := (commitEntries r j c o u).map fun e => (256 * u + r.entry, e)
    s.setFrame { s.frame with commits := s.frame.commits ++ es }
  else s

/-- SELECTION_JOB_RESULT (R193, R198, R200). -/
def execSelectionJobResult (u : Nat) (s : State) : Result :=
  onUnit s (decide (u < 16)) (
    let x := s.selUnit u
    match x.run, x.job with
    | some r, some j => if s.frame.phase = .inFrame then s.endJob u r j else s
    | _, _ => s)

end Sys2Proof.Machine
end

