-- ==== Sys2Proof/Machine/Vector.lean ====
section
/-! DEFINITION. The vector chain's instructions (spec/06): VCFG, VRUN, the completion of a run, REDS. -/
namespace Sys2Proof.Machine

/-- VCFG at its issue tick: it reads a line, checks it and writes the slot at the end of the tick (R118, R131). -/
def State.vcfgAt (s : State) (x : Issue) (slot line t : Nat) : State :=
  let k := s.core x.core
  let s := s.access x.core { cls := 2, issued := t, unit := 0, kind := 0, line := line }
  if s.mutedAt t then s
  else if spadBad k (64 * line) 64 then s.instrFault x 0x0E (bankOf line) (64 * line) t
  else
    let w := spadLine k line
    match cfgFault w with
    | some b => s.instrFault x 0x19 0xFFFF b t
    | none => s.push x.core t (.cslot slot w)

/-- VCFG (R118). -/
def execVcfg (x : Issue) (slot line : Nat) (s : State) : Result := onCore s x (s.planOnly x fun s t => s.vcfgAt x slot line t)

/-- What a VRUN is issued with: the line registers, its length and its configuration (R95, R118). -/
structure RunPlan where
  engs : List Nat
  word : Nat
  src : Nat
  rSrc : Word
  rDst : Option Word
  rRed : Option Word
  len : Nat
  lenField : Nat
  rmode : Nat

/-- The register of an output, none for zero, whose output is discarded (R95, R128). -/
def Core.outReg (k : Core) (r : RegSpec) : Option Word := if r = 0x20#7 then none else some (k.reg r)

/-- The input format of engine e's run: the configuration's, or its bank's (R110, R124). -/
def RunPlan.inFmt (p : RunPlan) (k : Core) (e : Nat) : Nat :=
  if p.src = 0 then cfgIn p.word
  else if (if p.src = 1 then (k.engine e).tag0 else (k.engine e).tag1) then 14 else 13

/-- The input lines of one engine (R126). -/
def RunPlan.inLines (p : RunPlan) : Nat := ceilDiv (p.len * inRowBytes (cfgIn p.word)) 64

/-- The run of engine e, at position n among the engines (R126). -/
def RunPlan.run (p : RunPlan) (k : Core) (e n t : Nat) (bubble : Bool) : VRun :=
  let f := p.inFmt k e
  { issue := t, len := p.len, word := p.word, src := p.src, inFmt := f,
    lineSrc := p.rSrc.toNat + n * p.inLines,
    lineDst := p.rDst.map fun v => v.toNat + n * outLines p.word f p.len,
    lineRed := if p.rmode = 0 then none else p.rRed.map fun v => v.toNat + n * redLines p.word p.rmode p.len,
    rowLine := cfgRowLine p.word + n * ceilDiv p.len 16, scaleLine := cfgScaleLine p.word + n * ceilDiv p.len 64,
    rmode := p.rmode, seed := Assoc.get 0 k.pLive 59, bubble := bubble }

/-- The first line beyond the scratchpad that a run would touch (R88): intake, output, scales, results, row
and lane operands. -/
def VRun.beyond (v : VRun) : Option Nat :=
  firstSome [
    if v.src = 0 then beyondLines v.lineSrc (ceilDiv (v.len * inRowBytes v.inFmt) 64) else none,
    v.lineDst.bind fun d => beyondLines d (outLines v.word v.inFmt v.len),
    if isMX (outFmt v.word v.inFmt) ∧ v.lineDst.isSome ∧ cfgMode v.word = 0 then
      beyondLines v.scaleLine (ceilDiv v.len 64) else none,
    v.lineRed.bind fun d => beyondLines d (redLines v.word v.rmode v.len),
    if cfgUses v.word 2 then beyondLines v.rowLine (ceilDiv v.len 16) else none,
    if cfgUses v.word 3 then beyondLines (cfgLaneLine v.word) 2 else none]

/-- The fault that a VRUN meets at tick t: cause, UNIT and DETAIL, in R382's order. -/
def RunPlan.fault (p : RunPlan) (k : Core) (t : Nat) : Option (Nat × Nat × Nat) :=
  let runs := (p.engs.zip (List.range p.engs.length)).map fun e => p.run k e.1 e.2 t false
  let address := firstSome ([if p.src = 0 then lineFault p.rSrc else none, p.rDst.bind lineFault, p.rRed.bind lineFault] ++
    runs.map (·.beyond))
  let e0 := p.engs.headD 0
  match address with
  | some d => some (0x0F, 0xFFFF, d % 2 ^ 32)
  | none =>
    match vrunConflicts p.word (p.inFmt k e0) p.lenField p.len p.rmode with
    | d :: ds => some (0x19, e0, 256 + ds.foldl Nat.min d)
    | [] =>
      match p.engs.find? fun e => decide ((k.engine e).vBusyUntil > t) with
      | some e => some (0x02, e, 2 ^ 31 + 0x02)
      | none =>
        match p.engs.find? fun e => decide (p.src ≠ 0) && (k.engine e).passes.any fun q =>
            decide (q.bank = decide (p.src = 2)) && decide (q.issue < t) && decide (q.doneAt > t) with
        | some e => some (0x02, e, 2 ^ 31 + 0x06)
        | none => none

/-- Engine e takes a run (R95, R133). -/
def Core.startRun (k : Core) (e slot : Nat) (v : VRun) : Core :=
  let x := k.engine e
  k.setEngine e { x with vruns := x.vruns ++ [v], vBusyUntil := Nat.max x.vBusyUntil v.doneAt, vSlot := slot,
                         vSrc := v.src, vMode := v.rmode, vDone := v.doneAt }

/-- VRUN at its issue tick (R95, R117 to R132, R382). -/
def State.vrunAt (s : State) (x : Issue) (emask : BitVec 4) (slot src : Nat) (rSrc rDst rRed : RegSpec)
    (len rmode t : Nat) : State :=
  let k := s.core x.core
  let p : RunPlan := { engs := engineList emask, word := Assoc.get identityWord k.cslots slot, src := src,
                       rSrc := k.reg rSrc, rDst := k.outReg rDst, rRed := k.outReg rRed, len := orFull len 2048,
                       lenField := len, rmode := rmode }
  let fault := if s.mutedAt t then none else p.fault k t
  let bubble := s.abortedAt t || fault.isSome
  let s := match fault with
    | some (cause, unit, detail) => s.instrFault x cause unit detail t
    | none => s
  let k := (p.engs.zip (List.range p.engs.length)).foldl (fun k e => k.startRun e.1 slot { p.run k e.1 e.2 t bubble with pc := (s.queue x).pc })
    (s.core x.core)
  (s.setCore x.core k).tel 4 (p.len * p.engs.length)

/-- VRUN (R95). -/
def execVrun (x : Issue) (emask : BitVec 4) (slot src : Nat) (rSrc rDst rRed : RegSpec) (len rmode : Nat) (s : State) :
    Result :=
  onCore s x (s.planOnly x fun s t => s.vrunAt x emask slot src rSrc rDst rRed len rmode t)

/-- VRUN_COMPLETION (R95, R130): the first run in flight comes to its completion tick, and its reduction's
result becomes the engine's. -/
def execVrunCompletion (core eng : Nat) (s : State) : Result :=
  onEngine s core eng
    (match ((s.core core).engine eng).vruns.head? with
     | some v => if s.frame.phase = .inFrame then s.advance v.doneAt else s
     | none => s)

/-- REDS at its issue tick (R96): BARRIER_STALL while the engine's chain is busy. -/
def State.redsAt (s : State) (x : Issue) (sd : RegSpec) (eng : Nat) (which : Bool) (t : Nat) : State :=
  let e := (s.core x.core).engine eng
  if s.mutedAt t then s
  else if e.vBusyUntil > t then s.instrFault x 0x02 eng (2 ^ 31 + 0x02) t
  else s.pushReg x t sd (BitVec.ofNat 64 (if which then e.resIdx else e.resVal))

/-- REDS (R96). -/
def execReds (x : Issue) (sd : RegSpec) (eng : Nat) (which : Bool) (s : State) : Result :=
  onCore s x (s.planOnly x fun s t => s.redsAt x sd eng which t)

end Sys2Proof.Machine
end

