-- ==== Sys2Proof/Machine/Dispatch.lean ====
section
/-! DEFINITION. One arm for each command: its meaning, or a rejection by name. -/
namespace Sys2Proof.Machine

/-- What a command does to everything but the queue of waiting commands. -/
def exec (i : Instr) (s : State) : Host.Outcome State Fault Refusal :=
  match i with
  | .registerWrite agent off size be value => Sys2Proof.Machine.execRegisterWrite agent off size be value s
  | .lowHalfRead agent off size => Sys2Proof.Machine.execLowHalfRead agent off size s
  | .slackExhausted r => Sys2Proof.Machine.execSlackExhausted r s
  | .timestampSend p => Sys2Proof.Machine.execTimestampSend p s
  | .timestamp p stamp frac hops dev keeper locked epochLo arrFrac crcOk => Sys2Proof.Machine.execTimestamp p stamp frac hops dev keeper locked epochLo arrFrac crcOk s
  | .steeringUpdate => Sys2Proof.Machine.execSteeringUpdate s
  | .clkRateReq agent value => Sys2Proof.Machine.execClkRateReq agent value s
  | .rateRequest m => Sys2Proof.Machine.execRateRequest m s
  | .rateAnnounce m => Sys2Proof.Machine.execRateAnnounce m s
  | .rateAck m => Sys2Proof.Machine.execRateAck m s
  | .rateAckDeadline => Sys2Proof.Machine.execRateAckDeadline s
  | .rateCancel m => Sys2Proof.Machine.execRateCancel m s
  | .rateStopRetune => Sys2Proof.Machine.execRateStopRetune s
  | .rateChangeResume => Sys2Proof.Machine.execRateChangeResume s
  | .clkRegionCeil agent r value => Sys2Proof.Machine.execClkRegionCeil agent r value s
  | .ceilingChangeApply r => Sys2Proof.Machine.execCeilingChangeApply r s
  | .ceilPending r => Sys2Proof.Machine.execCeilPending r s
  | .loopPinned r loop => Sys2Proof.Machine.execLoopPinned r loop s
  | .refclkEdgeMissing ppm => Sys2Proof.Machine.execRefclkEdgeMissing ppm s
  | .refBack => Sys2Proof.Machine.execRefBack s
  | .holdoverIdleLimit => Sys2Proof.Machine.execHoldoverIdleLimit s
  | .planLoad h image => Sys2Proof.Machine.execPlanLoad h image s
  | .planActivate h => Sys2Proof.Machine.execPlanActivate h s
  | .planUnload h => Sys2Proof.Machine.execPlanUnload h s
  | .frameRun h => Sys2Proof.Machine.execFrameRun h s
  | .frameStop h => Sys2Proof.Machine.execFrameStop h s
  | .frameWait h => Sys2Proof.Machine.execFrameWait h s
  | .slotBind h => Sys2Proof.Machine.execSlotBind h s
  | .slotUnbind h => Sys2Proof.Machine.execSlotUnbind h s
  | .paramPatch h => Sys2Proof.Machine.execParamPatch h s
  | .digestRecheck => Sys2Proof.Machine.execDigestRecheck s
  | .frameStart => Sys2Proof.Machine.execFrameStart s
  | .frameEnd => Sys2Proof.Machine.execFrameEnd s
  | .verdict p v => Sys2Proof.Machine.execVerdict p v s
  | .decisionTick => Sys2Proof.Machine.execDecisionTick s
  | .rerunLimit => Sys2Proof.Machine.execRerunLimit s
  | .applyTick => Sys2Proof.Machine.execApplyTick s
  | .powerOver r => Sys2Proof.Machine.execPowerOver r s
  | .planFaultHead agent value => Sys2Proof.Machine.execPlanFaultHead agent value s
  | .statsRead h => Sys2Proof.Machine.execStatsRead h s
  | .add x rd ra rb imm => Sys2Proof.Machine.execAdd x rd ra rb imm s
  | .sub x rd ra rb imm => Sys2Proof.Machine.execSub x rd ra rb imm s
  | .mul x rd ra rb imm => Sys2Proof.Machine.execMul x rd ra rb imm s
  | .and x rd ra rb imm => Sys2Proof.Machine.execAnd x rd ra rb imm s
  | .or x rd ra rb imm => Sys2Proof.Machine.execOr x rd ra rb imm s
  | .xor x rd ra rb imm => Sys2Proof.Machine.execXor x rd ra rb imm s
  | .shl x rd ra rb imm => Sys2Proof.Machine.execShl x rd ra rb imm s
  | .shr x rd ra rb imm => Sys2Proof.Machine.execShr x rd ra rb imm s
  | .sra x rd ra rb imm => Sys2Proof.Machine.execSra x rd ra rb imm s
  | .min x rd ra rb imm => Sys2Proof.Machine.execMin x rd ra rb imm s
  | .max x rd ra rb imm => Sys2Proof.Machine.execMax x rd ra rb imm s
  | .slt x rd ra rb imm => Sys2Proof.Machine.execSlt x rd ra rb imm s
  | .sltu x rd ra rb imm => Sys2Proof.Machine.execSltu x rd ra rb imm s
  | .seq x rd ra rb imm => Sys2Proof.Machine.execSeq x rd ra rb imm s
  | .ldi x rd h imm => Sys2Proof.Machine.execLdi x rd h imm s
  | .lds x rd ra imm => Sys2Proof.Machine.execLds x rd ra imm s
  | .sts x rs ra imm => Sys2Proof.Machine.execSts x rs ra imm s
  | .nop k => Sys2Proof.Machine.execNop k s
  | .endQ x => Sys2Proof.Machine.execEndQ x s
  | .loop x count body => Sys2Proof.Machine.execLoop x count body s
  | .brb x cond ra rb alen blen => Sys2Proof.Machine.execBrb x cond ra rb alen blen s
  | .join x ticks sig => Sys2Proof.Machine.execJoin x ticks sig s
  | .bru x cond ra rb offset => Sys2Proof.Machine.execBru x cond ra rb offset s
  | .lcall x routine => Sys2Proof.Machine.execLcall x routine s
  | .libraryRoutineCompletion core status results => Sys2Proof.Machine.execLibraryRoutineCompletion core status results s
  | .sig x token n => Sys2Proof.Machine.execSig x token n s
  | .wait x token n => Sys2Proof.Machine.execWait x token n s
  | .bar x mask => Sys2Proof.Machine.execBar x mask s
  | .mpass x emask split bank acc fmtA fmtB rA rB kt => Sys2Proof.Machine.execMpass x emask split bank acc fmtA fmtB rA rB kt s
  | .passCompletion core eng bank => Sys2Proof.Machine.execPassCompletion core eng bank s
  | .vcfg x slot line => Sys2Proof.Machine.execVcfg x slot line s
  | .vrun x emask slot src rSrc rDst rRed len rmode => Sys2Proof.Machine.execVrun x emask slot src rSrc rDst rRed len rmode s
  | .vrunCompletion core eng => Sys2Proof.Machine.execVrunCompletion core eng s
  | .reds x sd eng which => Sys2Proof.Machine.execReds x sd eng which s
  | .dma x ch done desc => Sys2Proof.Machine.execDma x ch done desc s
  | .dmaPiece core => Sys2Proof.Machine.execDmaPiece core s
  | .pageTableWalk core => Sys2Proof.Machine.execPageTableWalk core s
  | .burstArrival core => Sys2Proof.Machine.execBurstArrival core s
  | .dmaPieceLanding core => Sys2Proof.Machine.execDmaPieceLanding core s
  | .send x route rAddr count pool done => Sys2Proof.Machine.execSend x route rAddr count pool done s
  | .recv x route rAddr count done => Sys2Proof.Machine.execRecv x route rAddr count done s
  | .cgive x route pool n => Sys2Proof.Machine.execCgive x route pool n s
  | .svcRun h code => Sys2Proof.Machine.execSvcRun h code s
  | .serviceWindowStart => Sys2Proof.Machine.execServiceWindowStart s
  | .serviceWindowEnd => Sys2Proof.Machine.execServiceWindowEnd s
  | .coreSvcArea agent core value => Sys2Proof.Machine.execCoreSvcArea agent core value s
  | .refresh stack => Sys2Proof.Machine.execRefresh stack s
  | .retrain stack => Sys2Proof.Machine.execRetrain stack s
  | .patrolScrub stack burst find => Sys2Proof.Machine.execPatrolScrub stack burst find s
  | .prefetch r tracker => Sys2Proof.Machine.execPrefetch r tracker s
  | .trackerIdle r tracker => Sys2Proof.Machine.execTrackerIdle r tracker s
  | .dmaCopy h hostData => Sys2Proof.Machine.execDmaCopy h hostData s
  | .serviceDmaCompletion die ch => Sys2Proof.Machine.execServiceDmaCompletion die ch s
  | .pageMap h => Sys2Proof.Machine.execPageMap h s
  | .pageUnmap h => Sys2Proof.Machine.execPageUnmap h s
  | .pageMove h => Sys2Proof.Machine.execPageMove h s
  | .ctxCreate h desc trail => Sys2Proof.Machine.execCtxCreate h desc trail s
  | .ctxSet h desc trail => Sys2Proof.Machine.execCtxSet h desc trail s
  | .ctxDestroy h => Sys2Proof.Machine.execCtxDestroy h s
  | .srvCtxSel agent value => Sys2Proof.Machine.execSrvCtxSel agent value s
  | .selectionJob u => Sys2Proof.Machine.execSelectionJob u s
  | .selectionJobResult u => Sys2Proof.Machine.execSelectionJobResult u s
  | .cairnRecord lane => Sys2Proof.Machine.execCairnRecord lane s
  | .cairnRead h => Sys2Proof.Machine.execCairnRead h s
  | .audTrailSel agent value => Sys2Proof.Machine.execAudTrailSel agent value s
  | .markerLock p lane rx n arrPs => Sys2Proof.Machine.execMarkerLock p lane rx n arrPs s
  | .markerLockLoss p lane syms => Sys2Proof.Machine.execMarkerLockLoss p lane syms s
  | .blockLock p rx n => Sys2Proof.Machine.execBlockLock p rx n s
  | .blockLockLoss p headers => Sys2Proof.Machine.execBlockLockLoss p headers s
  | .noValidBlock p => Sys2Proof.Machine.execNoValidBlock p s
  | .ts1 p preset coeff eyeMet crcOk => Sys2Proof.Machine.execTs1 p preset coeff eyeMet crcOk s
  | .eqComplete p => Sys2Proof.Machine.execEqComplete p s
  | .eqTimeout p failed => Sys2Proof.Machine.execEqTimeout p failed s
  | .markerNarrowing p => Sys2Proof.Machine.execMarkerNarrowing p s
  | .ts2 p t crcOk => Sys2Proof.Machine.execTs2 p t crcOk s
  | .ping p seq crcOk => Sys2Proof.Machine.execPing p seq crcOk s
  | .echo p seq rttPs delayPs crcOk => Sys2Proof.Machine.execEcho p seq rttPs delayPs crcOk s
  | .bringUpTimeout p => Sys2Proof.Machine.execBringUpTimeout p s
  | .bringUpRetry p => Sys2Proof.Machine.execBringUpRetry p s
  | .graceExpiry p => Sys2Proof.Machine.execGraceExpiry p s
  | .resetSet p crcOk => Sys2Proof.Machine.execResetSet p crcOk s
  | .linkReset h => Sys2Proof.Machine.execLinkReset h s
  | .klPortCtrl agent p value => Sys2Proof.Machine.execKlPortCtrl agent p value s
  | .flitSlot p => Sys2Proof.Machine.execFlitSlot p s
  | .flit p raw escape corrected bad => Sys2Proof.Machine.execFlit p raw escape corrected bad s
  | .nakRepeat p seq => Sys2Proof.Machine.execNakRepeat p seq s
  | .flitRelease p => Sys2Proof.Machine.execFlitRelease p s
  | .lateFlit p route => Sys2Proof.Machine.execLateFlit p route s
  | .spill p => Sys2Proof.Machine.execSpill p s
  | .keySwitch p => Sys2Proof.Machine.execKeySwitch p s
  | .guylineLock rx n => Sys2Proof.Machine.execGuylineLock rx n s
  | .guylineLockLoss chars => Sys2Proof.Machine.execGuylineLockLoss chars s
  | .bypassOpen => Sys2Proof.Machine.execBypassOpen s
  | .frameMarker m => Sys2Proof.Machine.execFrameMarker m s
  | .timeCorrection m => Sys2Proof.Machine.execTimeCorrection m s
  | .timeCorrectionSend => Sys2Proof.Machine.execTimeCorrectionSend s
  | .discovery m => Sys2Proof.Machine.execDiscovery m s
  | .discoverySend => Sys2Proof.Machine.execDiscoverySend s
  | .roster m => Sys2Proof.Machine.execRoster m s
  | .rosterSend => Sys2Proof.Machine.execRosterSend s
  | .wakeMessage m => Sys2Proof.Machine.execWakeMessage m s
  | .pwrWakeSend agent value => Sys2Proof.Machine.execPwrWakeSend agent value s
  | .pendExpiry => Sys2Proof.Machine.execPendExpiry s
  | .fabId agent value => Sys2Proof.Machine.execFabId agent value s
  | .read inPort pkt => Sys2Proof.Machine.execRead inPort pkt s
  | .write inPort pkt => Sys2Proof.Machine.execWrite inPort pkt s
  | .bwrite inPort pkt => Sys2Proof.Machine.execBwrite inPort pkt s
  | .back inPort pkt => Sys2Proof.Machine.execBack inPort pkt s
  | .resp inPort pkt => Sys2Proof.Machine.execResp inPort pkt s
  | .hostcpl inPort pkt => Sys2Proof.Machine.execHostcpl inPort pkt s
  | .servicePacketForward p vc rooms => Sys2Proof.Machine.execServicePacketForward p vc rooms s
  | .packetDiscard p vc => Sys2Proof.Machine.execPacketDiscard p vc s
  | .gateClosed r => Sys2Proof.Machine.execGateClosed r s
  | .regionExitComplete r => Sys2Proof.Machine.execRegionExitComplete r s
  | .armPush agent value => Sys2Proof.Machine.execArmPush agent value s
  | .disarmPush agent value => Sys2Proof.Machine.execDisarmPush agent value s
  | .heartbeat p dev state round epoch digest crcOk => Sys2Proof.Machine.execHeartbeat p dev state round epoch digest crcOk s
  | .heartbeatSend => Sys2Proof.Machine.execHeartbeatSend s
  | .neighbourLost dev => Sys2Proof.Machine.execNeighbourLost dev s
  | .suspect m => Sys2Proof.Machine.execSuspect m s
  | .collectionWindow => Sys2Proof.Machine.execCollectionWindow s
  | .propose m => Sys2Proof.Machine.execPropose m s
  | .accept m => Sys2Proof.Machine.execAccept m s
  | .refuse m => Sys2Proof.Machine.execRefuse m s
  | .full m bitmap => Sys2Proof.Machine.execFull m bitmap s
  | .commit m => Sys2Proof.Machine.execCommit m s
  | .request m => Sys2Proof.Machine.execRequest m s
  | .ackTimeout => Sys2Proof.Machine.execAckTimeout s
  | .acceptanceDrop => Sys2Proof.Machine.execAcceptanceDrop s
  | .excludeDevice agent dev => Sys2Proof.Machine.execExcludeDevice agent dev s
  | .excludeLink agent dev port => Sys2Proof.Machine.execExcludeLink agent dev port s
  | .joinThisDevice agent => Sys2Proof.Machine.execJoinThisDevice agent s
  | .linkReturn agent port => Sys2Proof.Machine.execLinkReturn agent port s
  | .serviceDmaExpiry die ch => Sys2Proof.Machine.execServiceDmaExpiry die ch s
  | .cpWorkRenewal n => Sys2Proof.Machine.execCpWorkRenewal n s
  | .cpWorkExpiry n => Sys2Proof.Machine.execCpWorkExpiry n s
  | .queueEnable agent q value => Sys2Proof.Machine.execQueueEnable agent q value s
  | .queueDisable agent q value => Sys2Proof.Machine.execQueueDisable agent q value s
  | .drainComplete q => Sys2Proof.Machine.execDrainComplete q s
  | .dbSqTail agent q tail => Sys2Proof.Machine.execDbSqTail agent q tail s
  | .dbCqHead agent q head => Sys2Proof.Machine.execDbCqHead agent q head s
  | .fetch readOk entry => Sys2Proof.Machine.execFetch readOk entry s
  | .commandStart q => Sys2Proof.Machine.execCommandStart q s
  | .replyWrite q writeOk => Sys2Proof.Machine.execReplyWrite q writeOk s
  | .moderationTimer q => Sys2Proof.Machine.execModerationTimer q s
  | .hostVfQmap agent f value => Sys2Proof.Machine.execHostVfQmap agent f value s
  | .vfFlr f => Sys2Proof.Machine.execVfFlr f s
  | .vfEnableClear => Sys2Proof.Machine.execVfEnableClear s
  | .vfFlrCompletion f => Sys2Proof.Machine.execVfFlrCompletion f s
  | .pf0Flr => Sys2Proof.Machine.execPf0Flr s
  | .perstN => Sys2Proof.Machine.execPerstN s
  | .busMasterEnable f on => Sys2Proof.Machine.execBusMasterEnable f on s
  | .pcieLinkTraining gen width flitMode => Sys2Proof.Machine.execPcieLinkTraining gen width flitMode s
  | .powerSet h => Sys2Proof.Machine.execPowerSet h s
  | .updateStage h image => Sys2Proof.Machine.execUpdateStage h image s
  | .updateConfirm h => Sys2Proof.Machine.execUpdateConfirm h s
  | .entryStep => Sys2Proof.Machine.execEntryStep s
  | .commitPoint => Sys2Proof.Machine.execCommitPoint s
  | .hostPm => Sys2Proof.Machine.execHostPm s
  | .timerWake => Sys2Proof.Machine.execTimerWake s
  | .d0Reached probes => Sys2Proof.Machine.execD0Reached probes s
  | .sleepStart r => Sys2Proof.Machine.execSleepStart r s
  | .sleepExit r => Sys2Proof.Machine.execSleepExit r s
  | .powerSample milliAmps => Sys2Proof.Machine.execPowerSample milliAmps s
  | .powerWindow => Sys2Proof.Machine.execPowerWindow s
  | .overPower => Sys2Proof.Machine.execOverPower s
  | .thermalClamp r tempC => Sys2Proof.Machine.execThermalClamp r tempC s
  | .thermalShutdown => Sys2Proof.Machine.execThermalShutdown s
  | .avsbusReadback rail valid mv amps => Sys2Proof.Machine.execAvsbusReadback rail valid mv amps s
  | .ceilingRelease rail => Sys2Proof.Machine.execCeilingRelease rail s
  | .watchdog => Sys2Proof.Machine.execWatchdog s
  | .idAssign m id dims => Sys2Proof.Machine.execIdAssign m id dims s
  | .allowSet m allowW hardW => Sys2Proof.Machine.execAllowSet m allowW hardW s
  | .thermSet m hotC critC => Sys2Proof.Machine.execThermSet m hotC critC s
  | .wake m => Sys2Proof.Machine.execWake m s
  | .deviceReset m => Sys2Proof.Machine.execDeviceReset m s
  | .failsafeEnter m => Sys2Proof.Machine.execFailsafeEnter m s
  | .bivouacSet m n => Sys2Proof.Machine.execBivouacSet m n s
  | .bivouacExit m => Sys2Proof.Machine.execBivouacExit m s
  | .linkMasterSet m key => Sys2Proof.Machine.execLinkMasterSet m key s
  | .logClear m mask => Sys2Proof.Machine.execLogClear m mask s
  | .rootRotate m digest sig => Sys2Proof.Machine.execRootRotate m digest sig s
  | .coreRetire m die index => Sys2Proof.Machine.execCoreRetire m die index s
  | .sessionExpiry session => Sys2Proof.Machine.execSessionExpiry session s
  | .getVersion m => Sys2Proof.Machine.execGetVersion m s
  | .getCapabilities m => Sys2Proof.Machine.execGetCapabilities m s
  | .negotiateAlgorithms m offered => Sys2Proof.Machine.execNegotiateAlgorithms m offered s
  | .getDigests m => Sys2Proof.Machine.execGetDigests m s
  | .getCertificate m slot offset len => Sys2Proof.Machine.execGetCertificate m slot offset len s
  | .challenge m slot nonce => Sys2Proof.Machine.execChallenge m slot nonce s
  | .getMeasurements m index nonce => Sys2Proof.Machine.execGetMeasurements m index nonce s
  | .keyExchange m exchange => Sys2Proof.Machine.execKeyExchange m exchange s
  | .finish m chainRoot sig => Sys2Proof.Machine.execFinish m chainRoot sig s
  | .spdmHeartbeat m => Sys2Proof.Machine.execSpdmHeartbeat m s
  | .keyUpdate m op => Sys2Proof.Machine.execKeyUpdate m op s
  | .endSession m => Sys2Proof.Machine.execEndSession m s
  | .setEndpointId m eid => Sys2Proof.Machine.execSetEndpointId m eid s
  | .getEndpointId m => Sys2Proof.Machine.execGetEndpointId m s
  | .getEndpointUuid m => Sys2Proof.Machine.execGetEndpointUuid m s
  | .getMctpVersionSupport m mtype => Sys2Proof.Machine.execGetMctpVersionSupport m mtype s
  | .getMessageTypeSupport m => Sys2Proof.Machine.execGetMessageTypeSupport m s
  | .getTid m => Sys2Proof.Machine.execGetTid m s
  | .getPldmVersion m ptype => Sys2Proof.Machine.execGetPldmVersion m ptype s
  | .getPldmTypes m => Sys2Proof.Machine.execGetPldmTypes m s
  | .getPldmCommands m ptype => Sys2Proof.Machine.execGetPldmCommands m ptype s
  | .getPdr m record => Sys2Proof.Machine.execGetPdr m record s
  | .getSensorReading m sensor => Sys2Proof.Machine.execGetSensorReading m sensor s
  | .requestUpdate m maxTransfer => Sys2Proof.Machine.execRequestUpdate m maxTransfer s
  | .passComponentTable m kind version => Sys2Proof.Machine.execPassComponentTable m kind version s
  | .updateComponent m kind version size => Sys2Proof.Machine.execUpdateComponent m kind version size s
  | .requestFirmwareData m offset data => Sys2Proof.Machine.execRequestFirmwareData m offset data s
  | .transferComplete m result => Sys2Proof.Machine.execTransferComplete m result s
  | .verifyComplete m => Sys2Proof.Machine.execVerifyComplete m s
  | .applyComplete m => Sys2Proof.Machine.execApplyComplete m s
  | .activateFirmware m => Sys2Proof.Machine.execActivateFirmware m s
  | .getStatus m => Sys2Proof.Machine.execGetStatus m s
  | .cancelUpdate m => Sys2Proof.Machine.execCancelUpdate m s
  | .entdaa addr => Sys2Proof.Machine.execEntdaa addr s
  | .setdasa staticAddr addr => Sys2Proof.Machine.execSetdasa staticAddr addr s
  | .hotJoin => Sys2Proof.Machine.execHotJoin s
  | .arp targetIp => Sys2Proof.Machine.execArp targetIp s
  | .ndp targetIp => Sys2Proof.Machine.execNdp targetIp s
  | .icmpEcho targetIp ident => Sys2Proof.Machine.execIcmpEcho targetIp ident s
  | .trialTimeout kind => Sys2Proof.Machine.execTrialTimeout kind s
  | .commandProcessorRestart n => Sys2Proof.Machine.execCommandProcessorRestart n s
  | .libraryActivation => Sys2Proof.Machine.execLibraryActivation s
  | .clkRecal agent value => Sys2Proof.Machine.execClkRecal agent value s
  | .recalibration => Sys2Proof.Machine.execRecalibration s
  | .recalibrationResult probes => Sys2Proof.Machine.execRecalibrationResult probes s
  | .powerOnReset copyBad => Sys2Proof.Machine.execPowerOnReset copyBad s
  | .sysRstN => Sys2Proof.Machine.execSysRstN s
  | .start => Sys2Proof.Machine.execStart s
  | .b0 fusesOk slotAOk slotBOk testEn => Sys2Proof.Machine.execB0 fusesOk slotAOk slotBOk testEn s
  | .b1 railsOk => Sys2Proof.Machine.execB1 railsOk s
  | .b2 settled probes => Sys2Proof.Machine.execB2 settled probes s
  | .b3 idOk trained fullRate => Sys2Proof.Machine.execB3 idOk trained fullRate s
  | .b4 activeOk otherOk => Sys2Proof.Machine.execB4 activeOk otherOk s
  | .b5 linkActiveOk linkOtherOk libActiveOk libOtherOk elapsedMs => Sys2Proof.Machine.execB5 linkActiveOk linkOtherOk libActiveOk libOtherOk elapsedMs s
  | .readyTimeout => Sys2Proof.Machine.execReadyTimeout s
  | .bootRetry => Sys2Proof.Machine.execBootRetry s
  | .settlePoint => Sys2Proof.Machine.execSettlePoint s
  | .strapSample mgtMode i3cAddr testEn => Sys2Proof.Machine.execStrapSample mgtMode i3cAddr testEn s
  | .railOutOfRange rail => Sys2Proof.Machine.execRailOutOfRange rail s
  | .vddAoLow copyBad => Sys2Proof.Machine.execVddAoLow copyBad s
  | .jtagInstruction ir off value => Sys2Proof.Machine.execJtagInstruction ir off value s
  | .tickRelease => Sys2Proof.Machine.execTickRelease s
  | .tickIssue r inputsReady => Sys2Proof.Machine.execTickIssue r inputsReady s
  | .sysRstNAsserted => Sys2Proof.Machine.execSysRstNAsserted s
  | .firmwareResume => Sys2Proof.Machine.execFirmwareResume s
  | .mgtLinkUp up => Sys2Proof.Machine.execMgtLinkUp up s

end Sys2Proof.Machine
end

