-- ==== Sys2Proof/WellFormed.lean ====
section
/-! DEFINITION. Which commands are well formed: every operand names a unit the device has (spec/01) and
every instruction field is in the range the instruction set gives it and in a queue that may hold it (spec/04 R86, R87). -/
namespace Sys2Proof

/-- A Klonak port, 0 to 17 (R10). -/
def isPort (p : Nat) : Bool := decide (p < 18)

/-- A clock region, 144 d + i (R46). -/
def isRegion (r : Nat) : Bool := decide (r < 288)

/-- A clock region that is a physical core's (R46). -/
def isCoreRegionNo (r : Nat) : Bool := isRegion r && decide (r % 144 < 136)

/-- A logical core, 0 to 255 (R12). -/
def isCore (c : Nat) : Bool := decide (c < 256)

/-- A die. -/
def isDie (d : Nat) : Bool := decide (d < 2)

/-- A virtual function, 1 to 255 (R290). -/
def isVf (f : Nat) : Bool := decide (0 < f) && decide (f < 256)

/-- Where a service packet comes from: a port, or 31 for this device itself (spec/11, service flit). -/
def isInPort (p : Nat) : Bool := isPort p || decide (p = 31)

/-- A value in a closed range. -/
def within (lo hi v : Nat) : Bool := decide (lo ≤ v) && decide (v ≤ hi)

/-- The agent exists. -/
def Agent.wf : Agent → Bool
  | .pf0 => true
  | .vf f => isVf f
  | .cp n => decide (n < 8)
  | .core n => isCore n
  | .remote dev => decide (dev < 16384)
  | .jtag => true

/-- The session and the sequence number fit their fields (R335). -/
def MgmtMsg.wf (m : MgmtMsg) : Bool := decide (m.session < 2 ^ 32) && decide (m.seq < 2 ^ 64)

/-- The core, the queue and the gap exist (R79, R86). -/
def Issue.wf (x : Issue) : Bool := isCore x.core && decide (x.queue < 5) && decide (x.gap < 4096)

/-- The issue is well formed, and the queue is the one that may hold the opcode in plan-class code (R87); service-class code
may hold any opcode, and R98 says which end its call. -/
def Issue.wfOn (x : Issue) (q : Nat) : Bool := x.wf && (x.svc || decide (x.queue = q))

/-- The issue is well formed, and is service-class code: a service-only opcode (R87). -/
def Issue.wfSvc (x : Issue) : Bool := x.wf && x.svc

/-- The packet's fields fit their places (spec/14, command packet). -/
def HostCmd.wf (h : HostCmd) : Bool :=
  decide (h.func < 256) && decide (h.queue < 65536) && decide (h.cmdId < 65536) && decide (h.flags < 256) &&
  decide (h.config < 2 ^ 32) && [h.a0, h.a1, h.a2, h.a3, h.a4, h.a5, h.a6].all (fun a => decide (a < 2 ^ 64))

/-- Either reading of the NOP row is well formed. -/
def NopKind.wf : NopKind → Bool
  | .plan x => x.wf
  | .host h => h.wf

/-- The devices and codes of a verdict fit their fields (R214). -/
def Verdict.wf : Verdict → Bool
  | .ok => true
  | .abort o c => decide (o < 16384) && decide (c < 256)
  | .hold o => decide (o < 16384)

/-- The header's fields fit their places (R244). -/
def Packet.wf (p : Packet) : Bool :=
  decide (p.kind < 256) && decide (p.vc < 4) && decide (p.addr < 2 ^ 64)

/-- The message's fields fit their places (R232). -/
def GlMsg.wf (m : GlMsg) : Bool := decide (m.hops < 256) && decide (m.src < 16384)

/-- The message's fields fit their places (spec/13). -/
def RcMsg.wf (m : RcMsg) : Bool := decide (m.sender < 16384) && isInPort m.inPort

/-- The set's fields fit their places (R214). -/
def Ts2.wf (t : Ts2) : Bool := decide (t.dev < 16384) && decide (t.port < 18) && decide (t.lanes < 16)

/-- The command is well formed. -/
def Instr.wf : Instr → Bool
  | .registerWrite agent off size be value => agent.wf && decide (off < 3 * 2 ^ 24) && (size == 4 || size == 8) && decide (be < 256) && decide (value < 2 ^ 64)
  | .lowHalfRead agent off size => agent.wf && decide (off < 3 * 2 ^ 24) && (decide (size = 4) || decide (size = 8)) && decide (off % size = 0)
  | .slackExhausted r => isRegion r
  | .timestampSend p => isPort p
  | .timestamp p _ _ _ dev _ _ _ _ _ => isPort p && decide (dev < 16384)
  | .steeringUpdate => true
  | .clkRateReq agent _ => agent.wf
  | .rateRequest m => m.wf
  | .rateAnnounce m => m.wf
  | .rateAck m => m.wf
  | .rateAckDeadline => true
  | .rateCancel m => m.wf
  | .rateStopRetune => true
  | .rateChangeResume => true
  | .clkRegionCeil agent r _ => agent.wf && isRegion r
  | .ceilingChangeApply r => isRegion r
  | .ceilPending r => isRegion r
  | .loopPinned r _ => isRegion r
  | .refclkEdgeMissing _ => true
  | .refBack => true
  | .holdoverIdleLimit => true
  | .planLoad h _ => h.wf
  | .planActivate h => h.wf
  | .planUnload h => h.wf
  | .frameRun h => h.wf
  | .frameStop h => h.wf
  | .frameWait h => h.wf
  | .slotBind h => h.wf
  | .slotUnbind h => h.wf
  | .paramPatch h => h.wf
  | .digestRecheck => true
  | .frameStart => true
  | .frameEnd => true
  | .verdict p v => isPort p && v.wf
  | .decisionTick => true
  | .rerunLimit => true
  | .applyTick => true
  | .powerOver r => isRegion r
  | .planFaultHead agent _ => agent.wf
  | .statsRead h => h.wf
  | .add x _ _ _ _ => x.wfOn 0
  | .sub x _ _ _ _ => x.wfOn 0
  | .mul x _ _ _ _ => x.wfOn 0
  | .and x _ _ _ _ => x.wfOn 0
  | .or x _ _ _ _ => x.wfOn 0
  | .xor x _ _ _ _ => x.wfOn 0
  | .shl x _ _ _ _ => x.wfOn 0
  | .shr x _ _ _ _ => x.wfOn 0
  | .sra x _ _ _ _ => x.wfOn 0
  | .min x _ _ _ _ => x.wfOn 0
  | .max x _ _ _ _ => x.wfOn 0
  | .slt x _ _ _ _ => x.wfOn 0
  | .sltu x _ _ _ _ => x.wfOn 0
  | .seq x _ _ _ _ => x.wfOn 0
  | .ldi x _ _ _ => x.wfOn 0
  | .lds x _ _ _ => x.wfOn 0
  | .sts x _ _ _ => x.wfOn 0
  | .nop k => k.wf
  | .endQ x => x.wf
  | .loop x count body => x.wf && decide (count < 65536) && decide (body < 4096)
  | .brb x cond _ _ alen blen => x.wf && decide (cond < 8) && decide (alen < 8192) && decide (blen < 8192)
  | .join x ticks sg => x.wf && decide (ticks < 65536) && decide (sg < 256)
  | .bru x cond _ _ _ => x.wfSvc && decide (cond < 8)
  | .lcall x routine => x.wfSvc && decide (routine < 65536)
  | .libraryRoutineCompletion core _ _ => isCore core
  | .sig x token n => x.wf && decide (token < 32) && within 1 255 n
  | .wait x token n => x.wf && decide (token < 32) && within 1 255 n
  | .bar x _ => x.wf
  | .mpass x _ _ _ _ fmtA fmtB _ _ kt => x.wfOn 1 && decide (fmtA < 16) && decide (fmtB < 16) && decide (kt < 16384)
  | .passCompletion core eng _ => isCore core && decide (eng < 4)
  | .vcfg x slot line => x.wfOn 2 && decide (slot < 8) && decide (line < 65536)
  | .vrun x _ slot src _ _ _ len rmode => x.wfOn 2 && decide (slot < 8) && decide (src < 3) && decide (len < 2048) && decide (rmode < 6)
  | .vrunCompletion core eng => isCore core && decide (eng < 4)
  | .reds x _ eng _ => x.wfOn 2 && decide (eng < 4)
  | .dma x ch done desc => x.wfOn 3 && decide (ch < 16) && decide (done < 32) && decide (desc < 131072)
  | .dmaPiece core => isCore core
  | .pageTableWalk core => isCore core
  | .burstArrival core => isCore core
  | .dmaPieceLanding core => isCore core
  | .send x route _ count pool done => x.wfOn 4 && decide (route < 4096) && within 1 8191 count && decide (pool < 16) && decide (done < 32)
  | .recv x route _ count done => x.wfOn 4 && decide (route < 4096) && within 1 8191 count && decide (done < 32)
  | .cgive x route pool n => x.wfOn 4 && decide (route < 4096) && decide (pool < 15) && decide (n < 256)
  | .svcRun h _ => h.wf
  | .serviceWindowStart => true
  | .serviceWindowEnd => true
  | .coreSvcArea agent core _ => agent.wf && isCore core
  | .refresh stack => decide (stack < 12)
  | .retrain stack => decide (stack < 12)
  | .patrolScrub stack _ _ => decide (stack < 12)
  | .prefetch r tracker => isRegion r && decide (tracker < 64)
  | .trackerIdle r tracker => isRegion r && decide (tracker < 64)
  | .dmaCopy h _ => h.wf
  | .serviceDmaCompletion die ch => isDie die && decide (ch < 16)
  | .pageMap h => h.wf
  | .pageUnmap h => h.wf
  | .pageMove h => h.wf
  | .ctxCreate h _ _ => h.wf
  | .ctxSet h _ _ => h.wf
  | .ctxDestroy h => h.wf
  | .srvCtxSel agent _ => agent.wf
  | .selectionJob u => decide (u < 16)
  | .selectionJobResult u => decide (u < 16)
  | .cairnRecord lane => decide (lane < 16)
  | .cairnRead h => h.wf
  | .audTrailSel agent _ => agent.wf
  | .markerLock p lane _ _ _ => isPort p && decide (lane < 4)
  | .markerLockLoss p lane _ => isPort p && decide (lane < 4)
  | .blockLock p _ _ => isPort p
  | .blockLockLoss p _ => isPort p
  | .noValidBlock p => isPort p
  | .ts1 p _ _ _ _ => isPort p
  | .eqComplete p => isPort p
  | .eqTimeout p _ => isPort p
  | .markerNarrowing p => isPort p
  | .ts2 p t _ => isPort p && t.wf
  | .ping p sq _ => isPort p && decide (sq < 2 ^ 32)
  | .echo p sq _ _ _ => isPort p && decide (sq < 2 ^ 32)
  | .bringUpTimeout p => isPort p
  | .bringUpRetry p => isPort p
  | .graceExpiry p => isPort p
  | .resetSet p _ => isPort p
  | .linkReset h => h.wf
  | .klPortCtrl agent p _ => agent.wf && isPort p
  | .flitSlot p => isPort p
  | .flit p raw _ _ _ => isPort p && decide (raw.length = 256)
  | .nakRepeat p sq => isPort p && decide (sq < 65536)
  | .flitRelease p => isPort p
  | .lateFlit p route => isPort p && decide (route < 4096)
  | .spill p => isPort p
  | .keySwitch p => isPort p
  | .guylineLock _ _ => true
  | .guylineLockLoss _ => true
  | .bypassOpen => true
  | .frameMarker m => m.wf
  | .timeCorrection m => m.wf
  | .timeCorrectionSend => true
  | .discovery m => m.wf
  | .discoverySend => true
  | .roster m => m.wf
  | .rosterSend => true
  | .wakeMessage m => m.wf
  | .pwrWakeSend agent _ => agent.wf
  | .pendExpiry => true
  | .fabId agent _ => agent.wf
  | .read inPort pkt => isInPort inPort && pkt.wf
  | .write inPort pkt => isInPort inPort && pkt.wf
  | .bwrite inPort pkt => isInPort inPort && pkt.wf
  | .back inPort pkt => isInPort inPort && pkt.wf
  | .resp inPort pkt => isInPort inPort && pkt.wf
  | .hostcpl inPort pkt => isInPort inPort && pkt.wf
  | .servicePacketForward p vc rooms => isInPort p && decide (vc < 4) && rooms.all fun r => isPort r.1
  | .packetDiscard p vc => isInPort p && decide (vc < 4)
  | .gateClosed r => isRegion r
  | .regionExitComplete r => isRegion r
  | .armPush agent _ => agent.wf
  | .disarmPush agent _ => agent.wf
  | .heartbeat p dev _ _ _ _ _ => isPort p && decide (dev < 16384)
  | .heartbeatSend => true
  | .neighbourLost dev => decide (dev < 16384)
  | .suspect m => m.wf
  | .collectionWindow => true
  | .propose m => m.wf
  | .accept m => m.wf
  | .refuse m => m.wf
  | .full m _ => m.wf
  | .commit m => m.wf
  | .request m => m.wf
  | .ackTimeout => true
  | .acceptanceDrop => true
  | .excludeDevice agent dev => agent.wf && decide (dev < 16384)
  | .excludeLink agent dev port => agent.wf && decide (dev < 16384) && isPort port
  | .joinThisDevice agent => agent.wf
  | .linkReturn agent port => agent.wf && isPort port
  | .serviceDmaExpiry die ch => isDie die && decide (ch < 16)
  | .cpWorkRenewal n => decide (n < 8)
  | .cpWorkExpiry n => decide (n < 8)
  | .queueEnable agent q _ => agent.wf && decide (q < 65536)
  | .queueDisable agent q _ => agent.wf && decide (q < 65536)
  | .drainComplete q => decide (q < 65536)
  | .dbSqTail agent q _ => agent.wf && decide (q < 65536)
  | .dbCqHead agent q _ => agent.wf && decide (q < 65536)
  | .fetch _ entry => decide (entry.length = 64)
  | .commandStart q => decide (q < 65536)
  | .replyWrite q _ => decide (q < 65536)
  | .moderationTimer q => decide (q < 65536)
  | .hostVfQmap agent f _ => agent.wf && isVf f
  | .vfFlr f => isVf f
  | .vfEnableClear => true
  | .vfFlrCompletion f => isVf f
  | .pf0Flr => true
  | .perstN => true
  | .busMasterEnable f _ => decide (f < 256)
  | .pcieLinkTraining _ _ _ => true
  | .powerSet h => h.wf
  | .entryStep => true
  | .commitPoint => true
  | .hostPm => true
  | .timerWake => true
  | .d0Reached _ => true
  | .sleepStart r => isCoreRegionNo r
  | .sleepExit r => isCoreRegionNo r
  | .powerSample _ => true
  | .powerWindow => true
  | .overPower => true
  | .thermalClamp r _ => isRegion r
  | .thermalShutdown => true
  | .avsbusReadback rail _ _ _ => decide (rail < 3)
  | .ceilingRelease rail => decide (rail < 2)
  | .watchdog => true
  | .idAssign m _ _ => m.wf
  | .allowSet m _ _ => m.wf
  | .thermSet m _ _ => m.wf
  | .wake m => m.wf
  | .deviceReset m => m.wf
  | .failsafeEnter m => m.wf
  | .bivouacSet m _ => m.wf
  | .bivouacExit m => m.wf
  | .linkMasterSet m _ => m.wf
  | .logClear m _ => m.wf
  | .rootRotate m _ _ => m.wf
  | .coreRetire m die index => m.wf && isDie die && decide (index < 136)
  | .sessionExpiry session => decide (session < 2 ^ 32)
  | .getVersion m => m.wf
  | .getCapabilities m => m.wf
  | .negotiateAlgorithms m _ => m.wf
  | .getDigests m => m.wf
  | .getCertificate m _ _ _ => m.wf
  | .challenge m _ _ => m.wf
  | .getMeasurements m _ _ => m.wf
  | .keyExchange m _ => m.wf
  | .finish m _ _ => m.wf
  | .spdmHeartbeat m => m.wf
  | .keyUpdate m _ => m.wf
  | .endSession m => m.wf
  | .setEndpointId m _ => m.wf
  | .getEndpointId m => m.wf
  | .getEndpointUuid m => m.wf
  | .getMctpVersionSupport m _ => m.wf
  | .getMessageTypeSupport m => m.wf
  | .getTid m => m.wf
  | .getPldmVersion m _ => m.wf
  | .getPldmTypes m => m.wf
  | .getPldmCommands m _ => m.wf
  | .getPdr m _ => m.wf
  | .getSensorReading m _ => m.wf
  | .requestUpdate m _ => m.wf
  | .passComponentTable m _ _ => m.wf
  | .updateComponent m _ _ _ => m.wf
  | .requestFirmwareData m _ _ => m.wf
  | .transferComplete m _ => m.wf
  | .verifyComplete m => m.wf
  | .applyComplete m => m.wf
  | .activateFirmware m => m.wf
  | .getStatus m => m.wf
  | .cancelUpdate m => m.wf
  | .entdaa _ => true
  | .setdasa _ _ => true
  | .hotJoin => true
  | .arp _ => true
  | .ndp _ => true
  | .icmpEcho _ _ => true
  | .updateStage h _ => h.wf
  | .updateConfirm h => h.wf
  | .trialTimeout kind => decide (kind < 4)
  | .commandProcessorRestart n => decide (n < 8)
  | .libraryActivation => true
  | .clkRecal agent _ => agent.wf
  | .recalibration => true
  | .recalibrationResult _ => true
  | .powerOnReset _ => true
  | .sysRstN => true
  | .start => true
  | .b0 _ _ _ _ => true
  | .b1 _ => true
  | .b2 _ _ => true
  | .b3 _ _ _ => true
  | .b4 _ _ => true
  | .b5 _ _ _ _ _ => true
  | .readyTimeout => true
  | .bootRetry => true
  | .settlePoint => true
  | .strapSample _ _ _ => true
  | .railOutOfRange rail => decide (rail < 16)
  | .vddAoLow _ => true
  | .jtagInstruction _ off _ => decide (off < 2 ^ 24)
  | .tickRelease => true
  | .tickIssue r _ => isRegion r
  | .sysRstNAsserted => true
  | .firmwareResume => true
  | .mgtLinkUp _ => true

end Sys2Proof
end

