-- ==== Sys2Proof/Safety.lean ====
section
/-! DEFINITION. What counts as a safe run: the sparse maps that hold the device's memories and registers keep their canonical
form; and the premises and outcomes that several statements share. -/
namespace Sys2Proof.Safety
open Sys2Proof Sys2Proof.Machine

/-- The device memory's list of bytes is canonical: addresses rising, no listed zero. -/
def memoryCanonical (s : State) : Prop := Memory.wf s.mem = true

/-- The register file's list of fields is in rising order of its keys. -/
def registersSorted (s : State) : Prop := Assoc.sorted s.regs = true

/-- PF0 gives a device at work a command of its form, with neither CLOSE nor AT_COMMIT, and is a bus master where the command
moves host data: none of the refusals that every command shares meets it (R295, R297, R307, R312, R331). -/
abbrev plainCmd (s : State) (h : HostCmd) (k : CmdSpec) : Prop :=
  s.failSafe = false ∧ s.rget PWR_STATE.MOVING = 0 ∧ s.rget PWR_STATE.DSTATE = 0 ∧ h.func = 0 ∧ cmdBadForm h k = false ∧
    cmdCloses h = false ∧ cmdAtCommit h = false ∧ (usesHost k.opcode h = false ∨ s.busMaster 0 = true)

/-- The state as an instruction finds it at its issue tick: the frame's time has come to that tick, and the telemetry
count of instructions has gone up by one (R79, R257). -/
def atIssue (s : State) (x : Issue) : State := (s.advance (s.issueTick x)).tel 0 1

/-- The instruction's queue has issued at a tick and goes on as `q` says. -/
def issuedAs (t : State) (x : Issue) (q : QueueSt) (tick : Nat) : State := t.setQueue x { q with last := some tick }

/-- What a command that writes a scalar register gives: in plan-class code the value, computed from the registers as they
stand at the start of the issue tick, is due in `rd` at the end of that tick, and no register, scratchpad byte or other
core changes before; in service-class code `rd` takes it at once. A destination that is no s register takes nothing. -/
def scalarResult (c : Instr) (x : Issue) (rd : RegSpec) (value : Core → Word) : Prop :=
  ∀ s : State, x.core < 256 →
    (x.svc = false → s.canIssue x = true →
      ∃ t : State, exec c s = .next t ∧
        (t.core x.core).agenda = ((atIssue s x).core x.core).agenda ++
          (if rd.toNat < 32 then [(s.issueTick x, .sreg x.queue rd.toNat (value ((atIssue s x).core x.core)).toNat)] else []) ∧
        (t.queue x).last = some (s.issueTick x) ∧ (t.core x.core).sregs = ((atIssue s x).core x.core).sregs ∧
        (t.core x.core).spad = ((atIssue s x).core x.core).spad ∧ (∀ d, d ≠ x.core → t.core d = (atIssue s x).core d) ∧
        t.mem = (atIssue s x).mem ∧ t.regs = (atIssue s x).regs) ∧
    (x.svc = true → s.svcReady x.core = true →
      exec c s = .next (s.setCore x.core { s.core x.core with
        sregs := if rd.toNat < 32 then Assoc.put 0 (s.core x.core).sregs rd.toNat (value (s.core x.core)).toNat else (s.core x.core).sregs
        svc := { (s.core x.core).svc with index := (s.core x.core).svc.index + 1 } }))

/-- A start of the device has failed for a reason (R350): FAILED has gone up, and a new attempt is due. -/
def startFailed (s t : State) (reason : Nat) : Prop :=
  t.rget RGR_BOOT.REASON = reason ∧ t.rget RGR_RESET.FAILED = Nat.min (s.rget RGR_RESET.FAILED + 1) 7 ∧ t.rgr.starting = false ∧
    t.rgr.ready = false ∧ t.rgr.retryAt = true

/-- A management row that only a session is given (R335), and the code that its answer carries (log 38). -/
def sessionRow (m : MgmtMsg) (a b : Nat) (data : List Byte) (c : Instr) (code : Nat) : Prop :=
  (c, code) ∈ ([(.idAssign m a b, 0x7F01), (.allowSet m a b, 0x7F02), (.thermSet m a b, 0x7F03), (.wake m, 0x7F04), (.deviceReset m, 0x7F05),
   (.failsafeEnter m, 0x7F06), (.bivouacSet m a, 0x7F07), (.bivouacExit m, 0x7F08), (.linkMasterSet m a, 0x7F09), (.logClear m a, 0x7F0A),
   (.rootRotate m a b, 0x7F0B), (.coreRetire m (a % 2) (b % 136), 0x7F0C), (.spdmHeartbeat m, 0x05E8), (.keyUpdate m a, 0x05E9),
   (.endSession m, 0x05EC), (.requestUpdate m a, 0x010510), (.passComponentTable m a b, 0x010513), (.updateComponent m a b a, 0x010514),
   (.requestFirmwareData m a data, 0x010515), (.transferComplete m a, 0x010516), (.verifyComplete m, 0x010517), (.applyComplete m, 0x010518),
   (.activateFirmware m, 0x01051A), (.getStatus m, 0x01051B), (.cancelUpdate m, 0x01051D)] : List (Instr × Nat))

/-- A management row that needs no session, and its code (log 38). -/
def plainRow (m : MgmtMsg) (a b : Nat) (c : Instr) (code : Nat) : Prop :=
  (c, code) ∈ ([(.getVersion m, 0x0584), (.getCapabilities m, 0x05E1), (.negotiateAlgorithms m a, 0x05E3), (.getDigests m, 0x0581),
   (.getCertificate m a b b, 0x0582), (.challenge m a b, 0x0583), (.getMeasurements m a b, 0x05E0), (.keyExchange m a, 0x05E4),
   (.finish m a b, 0x05E5), (.setEndpointId m a, 0x0001), (.getEndpointId m, 0x0002), (.getEndpointUuid m, 0x0003),
   (.getMctpVersionSupport m a, 0x0004), (.getMessageTypeSupport m, 0x0005), (.getTid m, 0x010002), (.getPldmVersion m a, 0x010003),
   (.getPldmTypes m, 0x010004), (.getPldmCommands m a, 0x010005), (.getPdr m a, 0x010251), (.getSensorReading m a, 0x010211)] : List (Instr × Nat))

/-- The hardware has set an event bit in this update cycle (R6, log 49). -/
def setNow (s : State) (e : Field) : Bool :=
  let k := Assoc.get (0, 0) s.raised (e.key 0)
  decide (k.1 = s.gst) && bitAt k.2 0

/-- A row of a Roll Call or tick-rate message that has a copy on the Guyline (R232, R273), and its type. -/
def ringRow (row : RcMsg → Instr) (rtype : Nat) : Prop :=
  (row, rtype) ∈ ([(.suspect, 0x01), (.propose, 0x02), (.accept, 0x03), (.refuse, 0x04), (.commit, 0x05), (.request, 0x07),
    (.rateRequest, 0x08), (.rateAnnounce, 0x09), (.rateAck, 0x0A), (.rateCancel, 0x0B)] : List ((RcMsg → Instr) × Nat))

end Sys2Proof.Safety
end

