-- ==== Sys2Proof/Certificates/Slice0/Obligations.lean ====
section
/-! DEFINITION. The statements about the model, for the provers. -/

open Sys2Proof Sys2Proof.Machine Sys2Proof.Safety

/-- R24 to R27, R41: a REFCLK edge releases the ticks of its step into Groundsheet time and samples each region's debt; a region
issues one tick where it has credit, is at P0 and in no stop, and its crossings hold what it needs and have room, and none
otherwise; a core's logic goes on with its region's tick. -/
def Obligations.ReleaseAndIssueMoveTime : Prop :=
  (∀ s : State, s.clk.stopWindow = false → s.clk.ratePend = none → s.frame.tableWrites = [] → s.frame.phase ≠ .decided →
    ∃ t : State, exec .tickRelease s = .next t ∧ t.gst = s.gst + s.releaseStep.1 ∧ t.clk.acc = (s.clk.acc + s.clk.rate) % 25 ∧
      t.clk.frac = s.releaseStep.2.2 ∧ t.clk.substitutions = 0 ∧ t.clk.wall = s.clk.wall + 1 ∧
      t = { s with clk := t.clk, regs := t.regs }) ∧
  (∀ s : State, s.clk.stopWindow = true →
    ∃ t : State, exec .tickRelease s = .next t ∧ t.gst = s.gst ∧ t.clk.acc = s.clk.acc ∧ t.clk.frac = s.clk.frac ∧
      t.clk.stopEdges = s.clk.stopEdges + 1 ∧ t = { s with clk := t.clk, regs := t.regs }) ∧
  (∀ (s : State) (r : Nat), s.rget PWR_REGION.PSTATE r = 0 → s.recalibrating r = false →
    (s.edgeRegion s.gst r).rget CLK_REGION_DEBT.DEBT r = Nat.min 127 (s.debt r) ∧
      ((s.edgeRegion s.gst r).region r).tick = (s.region r).tick) ∧
  (∀ (s : State) (r : Nat), s.mayIssue r = true ↔ 0 < s.debt r ∧ s.rget PWR_REGION.PSTATE r = 0 ∧ (s.region r).stop = 0 ∧
    (∀ e ∈ s.clk.xings, xingTo e.1 = r → s.xingGated e.1 = true → (s.region r).tick < e.2.wrote + e.2.lat) ∧
    (∀ e ∈ s.clk.xings, xingFrom e.1 = r → e.2.wrote - e.2.took < 112)) ∧
  (∀ (s : State) (r : Nat), r < 288 → s.mayIssue r = true →
    (isCoreRegion r = false ∨ s.coreOfRegion r = none ∨ s.frame.phase ≠ .inFrame ∨ (s.region r).tick < s.frame.start) →
    exec (.tickIssue r true) s =
      .next ((s.setRegion r { s.region r with tick := (s.region r).tick + 1 }).crossTick r ((s.region r).tick + 1))) ∧
  (∀ (s : State) (r c : Nat), r < 288 → s.mayIssue r = true → isCoreRegion r = true → s.coreOfRegion r = some c → s.frame.phase = .inFrame →
    s.frame.start ≤ (s.region r).tick →
    exec (.tickIssue r true) s =
      .next (((s.setRegion r { s.region r with tick := (s.region r).tick + 1 }).crossTick r ((s.region r).tick + 1)).advance
        (Nat.min s.frameLen ((s.region r).tick + 1 - s.frame.start)))) ∧
  (∀ (s : State) (r : Nat) (ready : Bool), r < 288 → (s.mayIssue r = false ∨ ready = false) → exec (.tickIssue r ready) s = .next s)

/-- R42, R44: the fifth missing edge in a row, or a frequency more than ±1,000 ppm off, declares reference loss; ticks go on with
the holdover oscillator; the reference's return ends the holdover. -/
def Obligations.ReferenceLossAndReturn : Prop :=
  (∀ (s : State) (ppm : Int), s.clk.stopWindow = false → s.clk.ratePend = none → s.frame.tableWrites = [] → s.frame.phase ≠ .decided →
    (4 ≤ s.clk.substitutions ∨ 1000 < ppm ∨ ppm < -1000) → s.rget CLK_STATUS.SOURCE = 0 →
    ∃ t : State, exec (.refclkEdgeMissing ppm) s = .next t ∧ t.rget CLK_STATUS.SOURCE = 1 ∧ t.rget CLK_EVENT.REF_LOST = 1 ∧
      t.gst = s.gst + s.releaseStep.1 ∧ t.clk.substitutions = s.clk.substitutions + 1 ∧
      t = { s with clk := t.clk, regs := t.regs, raised := t.raised }) ∧
  (∀ (s : State) (ppm : Int), s.clk.stopWindow = false → s.clk.ratePend = none → s.frame.tableWrites = [] → s.frame.phase ≠ .decided →
    s.clk.substitutions < 4 → -1000 ≤ ppm → ppm ≤ 1000 →
    ∃ t : State, exec (.refclkEdgeMissing ppm) s = .next t ∧ t.rget CLK_STATUS.SOURCE = s.rget CLK_STATUS.SOURCE ∧
      t.gst = s.gst + s.releaseStep.1 ∧ t.clk.substitutions = s.clk.substitutions + 1 ∧ t = { s with clk := t.clk, regs := t.regs }) ∧
  (∀ s : State, s.rget CLK_STATUS.SOURCE = 1 →
    ∃ t : State, exec .refBack s = .next t ∧ t.rget CLK_STATUS.SOURCE = 0 ∧ t.rget CLK_STATUS.HOLD_FRAMES = 0 ∧
      t.rget CLK_EVENT.REF_BACK = 1 ∧ t.clk = { s.clk with substitutions := 0 } ∧ t.frame = { s.frame with holdFrames := 0 } ∧
      t = { s with clk := t.clk, regs := t.regs, raised := t.raised, plan := t.plan })

/-- R24, R27, R43: a region at P0 whose debt, as the edge samples it before its release, exceeds 64 ticks, and IDLE_MS of an idle
holdover, enter the fail-safe state; less does not. -/
def Obligations.TimeFaultsEnterFailSafe : Prop :=
  (∀ (s : State) (r : Nat), r < 288 → 64 < s.rget CLK_REGION_DEBT.DEBT r → s.rget PWR_REGION.PSTATE r = 0 →
    ∃ t : State, exec (.slackExhausted r) s = .next t ∧ t.rget CLK_EVENT.SLACK_EXH = 1 ∧ t.failSafe = true ∧ t.clk.gst = s.clk.gst ∧
      t.mem.cells = s.mem.cells) ∧
  (∀ (s : State) (r : Nat), r < 288 → (s.rget CLK_REGION_DEBT.DEBT r ≤ 64 ∨ s.rget PWR_REGION.PSTATE r ≠ 0) →
    exec (.slackExhausted r) s = .next s) ∧
  (∀ s : State, s.rget CLK_STATUS.SOURCE = 1 → (s.frame.phase = .idle ∨ s.frame.phase = .waiting) →
    ceilDiv (625 * (1000 * s.rget CLK_HOLDOVER.IDLE_MS)) 4 ≤ Assoc.get 0 s.clk.held 1152 →
    ∃ t : State, exec .holdoverIdleLimit s = .next t ∧ t.failSafe = true ∧ t.mem.cells = s.mem.cells) ∧
  (∀ s : State, (s.rget CLK_STATUS.SOURCE ≠ 1 ∨ Assoc.get 0 s.clk.held 1152 < ceilDiv (625 * (1000 * s.rget CLK_HOLDOVER.IDLE_MS)) 4) →
    exec .holdoverIdleLimit s = .next s)

/-- R41, R45, R46: a ceiling that stays pending for longer than WINDOW_US, and a loop held at its bound for as long, raise their
events, and the first region to raise one is kept while VALID is clear; STEER_PINNED keeps none (log 53). A loop that has not been
held so long raises none. -/
def Obligations.RegionEventsAreRaised : Prop :=
  (∀ (s : State) (r v : Nat), r < 288 → (s.region r).ceilPend = some v →
    (s.region r).ceilSince + ceilDiv (625 * s.rget CLK_PIN_CFG.WINDOW_US) 4 < s.clk.wall → s.rget CLK_EVENT_REGION.VALID = 0 →
    exec (.ceilPending r) s =
      .next (((s.event CLK_EVENT.CEIL_PENDING).rset0 CLK_EVENT_REGION.REGION r).event CLK_EVENT_REGION.VALID)) ∧
  (∀ (s : State) (r : Nat), r < 288 → s.rget CLK_EVENT_REGION.VALID = 0 →
    (s.loopPinned r .debtHigh = true → exec (.loopPinned r .debtHigh) s =
      .next (((s.event CLK_EVENT.DEBT_HIGH).rset0 CLK_EVENT_REGION.REGION r).event CLK_EVENT_REGION.VALID)) ∧
    (s.loopPinned r .oscFloor = true → exec (.loopPinned r .oscFloor) s =
      .next (((s.event CLK_EVENT.OSC_FLOOR).rset0 CLK_EVENT_REGION.REGION r).event CLK_EVENT_REGION.VALID)) ∧
    (s.loopPinned r .clampPinned = true → exec (.loopPinned r .clampPinned) s =
      .next (((s.event CLK_EVENT.CLAMP_PINNED).rset0 CLK_EVENT_REGION.REGION r).event CLK_EVENT_REGION.VALID))) ∧
  (∀ (s : State) (r : Nat), r < 288 → s.rget CLK_EVENT_REGION.VALID = 1 →
    (s.loopPinned r .debtHigh = true → exec (.loopPinned r .debtHigh) s = .next (s.event CLK_EVENT.DEBT_HIGH)) ∧
    (s.loopPinned r .oscFloor = true → exec (.loopPinned r .oscFloor) s = .next (s.event CLK_EVENT.OSC_FLOOR)) ∧
    (s.loopPinned r .clampPinned = true → exec (.loopPinned r .clampPinned) s = .next (s.event CLK_EVENT.CLAMP_PINNED))) ∧
  (∀ (s : State) (r : Nat), r < 288 → s.loopPinned r .steerPinned = true →
    exec (.loopPinned r .steerPinned) s = .next (s.event CLK_EVENT.STEER_PINNED)) ∧
  (∀ (s : State) (r : Nat) (loop : PinnedLoop), s.loopPinned r loop = false → exec (.loopPinned r loop) s = .next s) ∧
  (∀ (s : State) (r : Nat),
    (s.loopPinned r .debtHigh = true ↔ s.rget CLK_PIN_CFG.DEBT_THRESH ≤ s.rget CLK_REGION_DEBT.DEBT r ∧
      ceilDiv (625 * s.rget CLK_PIN_CFG.WINDOW_US) 4 < Assoc.get 0 s.clk.held (4 * r)) ∧
    (s.loopPinned r .oscFloor = true ↔ s.oscMhz r = 900 ∧
      ceilDiv (625 * s.rget CLK_PIN_CFG.WINDOW_US) 4 < Assoc.get 0 s.clk.held (4 * r + 1)) ∧
    (s.loopPinned r .clampPinned = true ↔ s.rget CLK_REGION_DEBT.CLAMP_MHZ r < s.rget CLK_REGION_CEIL.CEIL_MHZ r ∧
      ceilDiv (625 * s.rget CLK_PIN_CFG.WINDOW_US) 4 < Assoc.get 0 s.clk.held (4 * r + 2)))

/-- R31, R32, R34, R35, R38, R215: a timestamp set goes out on an up port; one that arrives is stored with its offset, and one with
a bad CRC is discarded and counted; the keeper holds STEER_PPB and a steering interval of another device sets OFFSET and STEER_PPB
within its limit. -/
def Obligations.TimeFollowsTheParent : Prop :=
  (∀ (s : State) (p : Nat), p < 18 → s.rget KL_PORT_STATUS.STATE p = 7 → (s.port p).stampAt ≤ s.gst →
    exec (.timestampSend p) s = .next ((s.setPort p { s.port p with stampAt := s.gst +
        (if s.rget KL_PORT_STATUS.WIDTH p = 4 ∧ s.rget KL_PORT_STATUS.RATE p = 0 then 256 else 1024) }).emit
      (.orderedSet p (setBytes 0xF4 p [s.gst, s.clk.frac / 2 ^ 28 % 16 + s.rget CLK_SYNC.HOPS * 2 ^ 4 + s.ownId * 2 ^ 10 +
        s.rget CLK_STATUS.KEEPER * 2 ^ 24 + s.rget CLK_STATUS.LOCKED * 2 ^ 25 + s.rget ROLL_EPOCH.EPOCH % 2 ^ 32 * 2 ^ 32])))) ∧
  (∀ (s : State) (p : Nat), p < 18 → (s.rget KL_PORT_STATUS.STATE p ≠ 7 ∨ s.gst < (s.port p).stampAt) →
    exec (.timestampSend p) s = .next s) ∧
  (∀ (s : State) (p stamp frac hops dev : Nat) (keeper locked : Bool) (epoch arr : Nat), p < 18 →
    s.rget KL_PORT_STATUS.STATE p = 7 → s.rget CLK_STATUS.KEEPER = 1 →
    ∃ t : State, exec (.timestamp p stamp frac hops dev keeper locked epoch arr true) s = .next t ∧
      Assoc.get none t.clk.stamps p = some (hops, dev, (16 * s.gst + arr : Int) - (16 * stamp + frac : Int) - s.rget KL_PORT_DELAY.DELAY16 p) ∧
      t.gst = s.gst ∧ t.rget CLK_SYNC.HOPS = 0 ∧ t.rget CLK_SYNC.PARENT_PORT = 31 ∧ t = { s with clk := t.clk, regs := t.regs }) ∧
  (∀ (s : State) (p stamp frac hops dev : Nat) (keeper locked : Bool) (epoch arr : Nat), p < 18 →
    ∃ t : State, exec (.timestamp p stamp frac hops dev keeper locked epoch arr false) s = .next t ∧
      Assoc.get 0 (t.port p).live 10 = Assoc.get 0 (s.port p).live 10 + 1 ∧ t = { s with ports := t.ports }) ∧
  (∀ s : State, s.rget CLK_STATUS.KEEPER = 0 → s.clk.stopWindow = false → s.clk.steerAt + 2 ^ s.rget CLK_STEER_CFG.INTERVAL_LOG2 ≤ s.gst →
    s.clk.offCount ≠ 0 → s.clk.offOver = false →
    ∃ t : State, exec .steeringUpdate s = .next t ∧ t.clk.integ = s.clk.integ + Int.tdiv s.clk.offSum s.clk.offCount ∧
      t.rget CLK_SYNC.OFFSET = fieldOfInt (Int.tdiv s.clk.offSum s.clk.offCount) 16 % 2 ^ 16 ∧
      t.rget CLK_SYNC.STEER_PPB = fieldOfInt (clampTo
        (Int.tdiv (s.rget CLK_STEER_CFG.KP * 1000 * Int.tdiv s.clk.offSum s.clk.offCount + s.rget CLK_STEER_CFG.KI * 100 * t.clk.integ) 16)
        (if s.rget CLK_STATUS.SOURCE = 1 then 400000 else 100000)) 20 % 2 ^ 20 ∧
      t = { s with clk := t.clk, regs := t.regs }) ∧
  (∀ s : State, s.rget CLK_STATUS.KEEPER = 1 → s.clk.stopWindow = false → s.clk.steerAt + 2 ^ s.rget CLK_STEER_CFG.INTERVAL_LOG2 ≤ s.gst →
    ∃ t : State, exec .steeringUpdate s = .next t ∧ t.rget CLK_SYNC.STEER_PPB = s.rget CLK_SYNC.STEER_PPB ∧
      t.rget CLK_SYNC.OFFSET = s.rget CLK_SYNC.OFFSET ∧ t.clk.integ = s.clk.integ ∧ t = { s with clk := t.clk, regs := t.regs }) ∧
  (∀ s : State, (s.clk.stopWindow = true ∨ s.gst < s.clk.steerAt + 2 ^ s.rget CLK_STEER_CFG.INTERVAL_LOG2) →
    exec .steeringUpdate s = .next s)

/-- R37, R38: a request makes the keeper choose the first frame boundary 3,000,000 ticks ahead and announce it; a member
acknowledges a rate it supports; a refusal, or a missing acknowledgement, cancels the change, which leaves the old rate. R39: at E16
every ceiling returns to the new rate's default and a region that owes ticks is a fault; at E48 the stop window ends at the new
rate with acc and frac cleared. The messages are packets here, whose ENTRY holds what log 67 says; RingCopiesOfRollCallMessages
states their copies on the Guyline. -/
def Obligations.RateChangeIsAgreedAndEnds : Prop :=
  (∀ (s : State) (v : Nat), s.bivouac = false → bitAt v 31 = true → s.clk.ratePend = none → s.rget CLK_STATUS.KEEPER = 1 →
    s.rateOk (bitsOf v 0 3) = true →
    exec (.clkRateReq .pf0 v) s = .next ((s.pendRate (bitsOf v 0 3) (s.boundaryAfter 3000000)).rateMsg 0x09 none (bitsOf v 0 3)
      (s.boundaryAfter 3000000))) ∧
  (∀ (s : State) (v idx b : Nat), s.bivouac = false → bitAt v 31 = true → s.clk.ratePend = some (idx, b) →
    exec (.clkRateReq .pf0 v) s = .next (s.rset0 CLK_RATE_STATE.RESULT 4)) ∧
  (∀ (s : State) (m : RcMsg) (idx : Nat), m.ring = none → rateEntry m % 8 = idx → s.clk.ratePend = none → s.rget CLK_STATUS.KEEPER = 1 →
    s.rateOk idx = true →
    exec (.rateRequest m) s =
      .next ((s.handled.pendRate idx (s.boundaryAfter 3000000)).rateMsg 0x09 none idx (s.boundaryAfter 3000000))) ∧
  (∀ (s : State) (m : RcMsg) (idx : Nat), m.ring = none → rateEntry m % 8 = idx → s.rateOk idx = true →
    exec (.rateAnnounce m) s = .next ((s.handled.pendRate idx m.s).rateMsg 0x0A (leastBit s.roll.members 16384) idx m.s)) ∧
  (∀ (s : State) (m : RcMsg) (idx : Nat), m.ring = none → rateEntry m % 8 = idx → s.rateOk idx = false →
    exec (.rateAnnounce m) s = .next (s.handled.rateMsg 0x0A (leastBit s.roll.members 16384) (idx + 8) m.s)) ∧
  (∀ (s : State) (m : RcMsg) (idx b : Nat), m.ring = none → s.rget CLK_STATUS.KEEPER = 1 → s.clk.ratePend = some (idx, b) →
    (bitAt (rateEntry m) 3 = false →
      exec (.rateAck m) s = .next { s.handled with clk := { s.clk with rateAcks := s.clk.rateAcks ++ [m.sender] } }) ∧
    (bitAt (rateEntry m) 3 = true →
      exec (.rateAck m) s = .next ((s.handled.dropRate 2).rateMsg 0x0B none (idx + 16) b))) ∧
  (∀ (s : State) (idx b : Nat), s.rget CLK_STATUS.KEEPER = 1 → s.clk.ratePend = some (idx, b) → b ≤ s.gst + 150000 →
    s.allAcked = false → exec .rateAckDeadline s = .next ((s.dropRate 3).rateMsg 0x0B none (idx + 24) b)) ∧
  (∀ (s : State) (idx b : Nat), s.clk.ratePend = some (idx, b) → (s.gst + 150000 < b ∨ s.allAcked = true) →
    exec .rateAckDeadline s = .next s) ∧
  (∀ (s : State) (idx b : Nat), idx < 8 → b < 2 ^ 64 →
    (s.pendRate idx b).clk.ratePend = some (idx, b) ∧ (s.pendRate idx b).rget CLK_RATE_STATE.PENDING = 1 ∧
    (s.pendRate idx b).rget CLK_RATE_STATE.TARGET_IDX = idx ∧ (s.pendRate idx b).rget CLK_RATE_AT.BOUNDARY = b) ∧
  (∀ (s : State) (m : RcMsg), m.ring = none → s.clk.stopWindow = false →
    ∃ t : State, exec (.rateCancel m) s = .next t ∧ t.clk = { s.clk with ratePend := none, rateAcks := [] } ∧
      t.rget CLK_RATE_STATE.PENDING = 0 ∧ t.rget CLK_RATE_STATE.RESULT = rateEntry m / 8 % 8 ∧ t.rget CLK_EVENT.RATE_CANCEL = 1 ∧
      t = { s.handled with clk := t.clk, regs := t.regs, raised := t.raised }) ∧
  (∀ (s : State) (idx b : Nat), s.clk.ratePend = some (idx, b) → s.clk.stopWindow = true → s.clk.retuned = false → 16 ≤ s.clk.stopEdges →
    idx < 8 → (∀ r, r < 288 → s.rget PWR_REGION.PSTATE r = 0 → s.debt r = 0) →
    ∃ t : State, exec .rateStopRetune s = .next t ∧ t.clk.retuned = true ∧ t.gst = s.gst ∧
      (∀ r, r < 288 → t.rget CLK_REGION_CEIL.CEIL_MHZ r = 1620 - 162 * idx ∧ (t.region r).ceilPend = none ∧
        t.rget CLK_REGION_DEBT.PEND r = 0) ∧
      t = { s with clk := t.clk, regs := t.regs, out := t.out }) ∧
  (∀ (s : State) (idx b r : Nat), s.clk.ratePend = some (idx, b) → s.clk.stopWindow = true → s.clk.retuned = false → 16 ≤ s.clk.stopEdges →
    r < 288 → s.rget PWR_REGION.PSTATE r = 0 → 0 < s.debt r → s.failSafe = false →
    ∃ t : State, exec .rateStopRetune s = .next t ∧ t.failSafe = true ∧ t.rget RGR_FS.CAUSE = 0x42) ∧
  (∀ s : State, (s.clk.stopWindow = false ∨ s.clk.stopEdges < 16 ∨ s.clk.retuned = true) → exec .rateStopRetune s = .next s) ∧
  (∀ (s : State) (idx b : Nat), s.clk.ratePend = some (idx, b) → s.clk.stopWindow = true → s.clk.retuned = true → 48 ≤ s.clk.stopEdges →
    idx < 8 →
    ∃ t : State, exec .rateChangeResume s = .next t ∧ t.gst = s.gst ∧ t.clk.integ = s.clk.integ ∧ t.clk.rate = 240 - 24 * idx ∧ t.clk.acc = 0 ∧
      t.clk.frac = 0 ∧ t.clk.stopWindow = false ∧ t.clk.retuned = false ∧ t.clk.ratePend = none ∧ t.rget CLK_STATUS.RATE_IDX = idx ∧
      t.rget CLK_RATE_STATE.PENDING = 0 ∧ t.rget CLK_RATE_STATE.RESULT = 1 ∧ t = { s with clk := t.clk, regs := t.regs }) ∧
  (∀ s : State, (s.clk.stopWindow = false ∨ s.clk.retuned = false ∨ s.clk.stopEdges < 48) → exec .rateChangeResume s = .next s)

/-- R40, R41: a ceiling below 1.02 × the tick rate or above 1,800 MHz is refused and changes no ceiling; another is
pending until an edge at which the region's debt is at most 16 ticks, when the region stops for it, and a second write replaces it.
From E16 to E48 of a rate change no write is taken. -/
def Obligations.CeilingIsCheckedAndPends : Prop :=
  (∀ (s : State) (r v : Nat), r < 288 → s.bivouac = false → s.clk.retuned = false →
    (bitsOf v 0 11 < ceilDiv (rateMHz (s.rget CLK_STATUS.RATE_IDX) * 102) 100 ∨ 1800 < bitsOf v 0 11) →
    ∃ t : State, exec (.clkRegionCeil .pf0 r v) s = .next t ∧ t.rget CLK_EVENT.CEIL_REJECT = 1 ∧ t.clk = s.clk ∧
      (∀ q, q < 288 → t.rget CLK_REGION_CEIL.CEIL_MHZ q = s.rget CLK_REGION_CEIL.CEIL_MHZ q) ∧
      t = { s with regs := t.regs, raised := t.raised }) ∧
  (∀ (s : State) (r v : Nat), r < 288 → s.bivouac = false → s.clk.retuned = false →
    ceilDiv (rateMHz (s.rget CLK_STATUS.RATE_IDX) * 102) 100 ≤ bitsOf v 0 11 → bitsOf v 0 11 ≤ 1800 →
    ∃ t : State, exec (.clkRegionCeil .pf0 r v) s = .next t ∧ (t.region r).ceilPend = some (bitsOf v 0 11) ∧
      (t.region r).ceilSince = s.clk.wall ∧ t.rget CLK_REGION_DEBT.PEND r = 1 ∧
      (∀ q, q < 288 → t.rget CLK_REGION_CEIL.CEIL_MHZ q = s.rget CLK_REGION_CEIL.CEIL_MHZ q) ∧
      t = { s with clk := t.clk, regs := t.regs, out := t.out }) ∧
  (∀ (s : State) (r v : Nat), s.bivouac = false → s.clk.retuned = true → exec (.clkRegionCeil .pf0 r v) s = .next s) ∧
  (∀ (s : State) (r v : Nat), r < 288 → (s.region r).ceilPend = some v → s.debt r ≤ 16 → (s.region r).ceilReady = true → v < 2048 →
    ∃ t : State, exec (.ceilingChangeApply r) s = .next t ∧ t.rget CLK_REGION_CEIL.CEIL_MHZ r = v ∧ t.rget CLK_REGION_DEBT.PEND r = 0 ∧
      (t.region r).ceilPend = none ∧ t.mayIssue r = false ∧
      t = { s with clk := t.clk, regs := t.regs, out := t.out }) ∧
  (∀ (s : State) (r v : Nat), r < 288 → (s.region r).ceilPend = some v → 16 < s.debt r → exec (.ceilingChangeApply r) s = .next s)

/-- R50, R53, R182, R297, R321: an image from host or device memory that passes every load check becomes its slot's READY variant with
every slot unbound, or a LOADING one while regions at P5 that it uses come back; one that fails a check leaves an empty slot EMPTY
with the check's reason. Nothing else is loaded or lost. An unload of the active variant while frames run is refused with
NOT_PERMITTED and changes nothing; any other unload empties its slot and answers OK, and waits while the commit engine owns the
descriptors. -/
def Obligations.PlanLoadAndUnload : Prop :=
  (∀ (s : State) (h : HostCmd) (im : List Byte), plainCmd s h cmdPlanLoad → h.a0 < 4 → s.loadReason h.a0 (im.take h.a2) = 0 →
    (s.takeImage h.a0 (im.take h.a2)).sleepers h.a0 = [] →
    ∃ t : State, exec (.planLoad h im) s = .next (t.reply h 0x01 0 0 0 0) ∧ t = s.variantReady h.a0 (im.take h.a2) ∧
      t.rget PLAN_VAR_STATE.STATE h.a0 = 2 ∧ t.variant h.a0 = { image := im.take h.a2, cores := s.corePlaces } ∧
      (∀ v, v ≠ h.a0 → t.variant v = s.variant v)) ∧
  (∀ (s : State) (h : HostCmd) (im : List Byte), plainCmd s h cmdPlanLoad → h.a0 < 4 → s.loadReason h.a0 (im.take h.a2) = 0 →
    (s.takeImage h.a0 (im.take h.a2)).sleepers h.a0 ≠ [] →
    ∃ t : State, exec (.planLoad h im) s = .next t ∧ t.rget PLAN_VAR_STATE.STATE h.a0 = 1 ∧ t.plan.loads = s.plan.loads ++ [(h.a0, h)] ∧
      t.host = s.host ∧ (∀ v, v ≠ h.a0 → t.variant v = s.variant v)) ∧
  (∀ (s u : State) (h : HostCmd) (im bs : List Byte) (v : Nat), plainCmd s h cmdPlanLoad → v < 4 → h.a0 = 256 + v →
    h.a1 + h.a2 ≤ installed → inReserved h.a1 h.a2 = false → s.memRead h.a1 h.a2 physTweak false = (bs, false, u) →
    u.loadReason v bs = 0 → (u.takeImage v bs).sleepers v = [] →
    exec (.planLoad h im) s = .next ((u.variantReady v bs).reply h 0x01 0 0 0 0)) ∧
  (∀ (s : State) (h : HostCmd) (im : List Byte) (reason : Nat), plainCmd s h cmdPlanLoad → h.a0 < 4 →
    s.rget PLAN_VAR_STATE.STATE h.a0 = 0 → s.loadReason h.a0 (im.take h.a2) = reason → reason ≠ 0 →
    ∃ t : State, exec (.planLoad h im) s = .next (t.reply h 0x01 (loadStatus reason) reason 0 0) ∧ t.rget PLAN_VAR_STATE.STATE h.a0 = 0 ∧
      t.rget PLAN_VAR_STATE.REASON h.a0 = reason ∧ t = { s with regs := t.regs }) ∧
  (∀ (s : State) (h : HostCmd), plainCmd s h cmdPlanUnload → h.a0 < 4 → s.commitOwns = false → s.plan.active = some h.a0 →
    s.frame.phase ≠ .idle → exec (.planUnload h) s = .next (s.reply h 0x03 0x04 0 0 0)) ∧
  (∀ (s : State) (h : HostCmd), plainCmd s h cmdPlanUnload → h.a0 < 4 → s.commitOwns = false →
    (s.plan.active ≠ some h.a0 ∨ s.frame.phase = .idle) →
    ∃ t : State, exec (.planUnload h) s = .next (t.reply h 0x03 0 0 0 0) ∧ t.rget PLAN_VAR_STATE.STATE h.a0 = 0 ∧
      t.variant h.a0 = {} ∧ (∀ v, v ≠ h.a0 → t.variant v = s.variant v) ∧ t.plan.active ≠ some h.a0 ∧
      (∀ e ∈ t.plan.loads, e.1 ≠ h.a0)) ∧
  (∀ (s : State) (h : HostCmd), s.commitOwns = true →
    exec (.planUnload h) s = .next (s.setFrame { s.frame with deferred := s.frame.deferred ++ [.planUnload h] }))

/-- R54: the recheck leaves a device whose resident copies match; a READY variant whose copy does not match becomes FAILED
with reason 0x0C, and a FAILED one is not activated; one on the active variant is a fault with cause DIGEST. -/
def Obligations.DigestRecheckFailsABadCopy : Prop :=
  (∀ s : State, (∀ v, v < 4 → (s.rget PLAN_VAR_STATE.STATE v = 2 ∨ s.rget PLAN_VAR_STATE.STATE v = 3) →
      digestOk (s.variant v).image = true) → exec .digestRecheck s = .next s) ∧
  (∀ (s : State) (v : Nat), v < 4 → s.rget PLAN_VAR_STATE.STATE v = 2 → digestOk (s.variant v).image = false →
    (∀ w, w < 4 → w ≠ v → (s.rget PLAN_VAR_STATE.STATE w = 2 ∨ s.rget PLAN_VAR_STATE.STATE w = 3) →
      digestOk (s.variant w).image = true) →
    exec .digestRecheck s = .next ((s.rset PLAN_VAR_STATE.STATE v 5).rset PLAN_VAR_STATE.REASON v 0x0C)) ∧
  (∀ (s : State) (v : Nat), v < 4 → s.rget PLAN_VAR_STATE.STATE v = 3 → digestOk (s.variant v).image = false →
    (∀ w, w < 4 → w ≠ v → (s.rget PLAN_VAR_STATE.STATE w = 2 ∨ s.rget PLAN_VAR_STATE.STATE w = 3) →
      digestOk (s.variant w).image = true) → s.frame.phase = .idle →
    ∃ t : State, exec .digestRecheck s = .next t ∧ t.failSafe = true ∧ t = s.raiseFault { cause := 0x13, region := regionCode 143, detail := v } s.ftick) ∧
  (∀ (s : State) (h : HostCmd), plainCmd s h cmdPlanActivate → h.a0 < 4 → s.rget PLAN_VAR_STATE.STATE h.a0 = 5 →
    exec (.planActivate h) s = .next (s.reply h 0x02 0x04 0 0 0))

/-- R52, R55, R62, R298: PLAN_ACTIVATE and FRAME_RUN wait for their ticks; FRAME_STOP completes at once when no frames run and
otherwise when they have stopped; FRAME_WAIT answers for the latest frame and waits for one to come. -/
def Obligations.FrameCommandsWaitForTheirTicks : Prop :=
  (∀ (s : State) (h : HostCmd) (a : Nat), plainCmd s h cmdPlanActivate → h.a0 < 4 → s.rget PLAN_VAR_STATE.STATE h.a0 = 2 →
    s.namedApply h.a1 = some a → s.frame.activates.any (fun e => decide (e.1 = a)) = false →
    exec (.planActivate h) s = .next (s.setFrame { s.frame with activates := s.frame.activates ++ [(a, h.a0, h)] })) ∧
  (∀ (s : State) (h : HostCmd), plainCmd s h cmdFrameRun → h.a1 < 2 ^ 32 → s.frame.phase = .idle → s.rget HOST_STATUS.FULL = 1 →
    s.gst + 65536 ≤ h.a0 → s.gapShort h.a2 = false → s.plan.active ≠ none → s.spillBlocks = false →
    exec (.frameRun h) s = .next (((s.setFrame
      { s.frame with phase := .waiting, t0 := h.a0, n := h.a1, gap := h.a2, index := 0, aborts := 0, stopAt := none,
                     stopped := false, holdAfterStop := false }).rset0 PLAN_NEXT_START.TICK h.a0).reply h 0x04 0 0 0 0)) ∧
  (∀ (s : State) (h : HostCmd), plainCmd s h cmdFrameRun → h.a1 < 2 ^ 32 → s.frame.phase = .idle → s.rget HOST_STATUS.FULL = 1 →
    h.a0 < s.gst + 65536 → exec (.frameRun h) s = .next (s.reply h 0x04 0x09 0 0 0)) ∧
  (∀ (s : State) (h : HostCmd), plainCmd s h cmdFrameStop → s.frame.phase = .idle →
    exec (.frameStop h) s = .next (s.reply h 0x05 0 0 0 0)) ∧
  (∀ (s : State) (h : HostCmd) (t : Nat), plainCmd s h cmdFrameStop → s.frame.phase = .inFrame → h.a0 ≠ 0 → s.namedApply h.a0 = some t →
    exec (.frameStop h) s = .next ((s.setFrame { s.frame with stops := s.frame.stops ++ [h] }).stopFramesAt t)) ∧
  (∀ (s : State) (h : HostCmd), plainCmd s h cmdFrameStop → s.frame.phase = .inFrame → h.a0 = 0 → s.frame.fromStart = false →
    s.frame.abortTick = none → s.frame.stopAt = none →
    ∃ t : State, exec (.frameStop h) s = .next t ∧ t.frame.stops = s.frame.stops ++ [h] ∧ t.frame.stopAt = some s.applyAt ∧
      t.frame.stopped = true ∧ t.frame.bad = true ∧ t.frame.abortTick ≠ none ∧ t.rget PLAN_FRAME_CTRL.ABORT_MODE = 1 ∧
      t.cores = s.cores ∧ t.mem = s.mem) ∧
  (∀ (s : State) (h : HostCmd), plainCmd s h cmdFrameWait → s.rget PLAN_FRAME_SEQ.SEQ < h.a0 →
    exec (.frameWait h) s = .next (s.setFrame { s.frame with waits := s.frame.waits ++
      [{ cmd := h, opcode := 0x06, seq := some h.a0, isFrameWait := true }] })) ∧
  (∀ (s : State) (h : HostCmd), plainCmd s h cmdFrameWait → h.a0 = s.rget PLAN_FRAME_SEQ.SEQ → s.frame.phase = .idle →
    h.a0 = s.rget PLAN_SNAP_FRAME.SEQ → h.a0 ≠ 0 →
    exec (.frameWait h) s = .next (s.reply h 0x06 (if s.rget PLAN_SNAP_INFO.VERDICT = 0 then 0 else 0x10) 0 h.a0 (s.rget PLAN_STEP.STEP)))

/-- R64, R182: a bind writes the slot into the shadow table and resolves its mapped registers, and binds the context; an unbind writes UNBOUND; a
patch writes one shadow register. No live register, slot table or memory byte changes. -/
def Obligations.PatchCommandsWriteTheShadow : Prop :=
  (∀ (s : State) (h : HostCmd) (v n : Nat), plainCmd s h cmdSlotBind → s.commitOwns = false → h.a0 = v + 65536 * n → v < 4 → n < 4096 →
    s.rget PLAN_VAR_STATE.STATE v ≠ 0 → n < s.rget PLAN_VAR_STATE.SLOTS v → h.a1 < 2 ^ 16 → s.unbindPending h.a1 = false →
    ((s.ctx h.a1).field .state = 1 ∨ (s.ctx h.a1).field .state = 2) →
    (s.slotKeys v).any (fun m => decide (m ≠ n) && decide (s.shadowSlot v m = h.a1)) = false →
    ∃ t : State, exec (.slotBind h) s = .next (t.reply h 0x10 0 0 0 0) ∧ t.shadowSlot v n = h.a1 ∧ (t.ctx h.a1).field .state = 2 ∧
      t.cores = s.cores ∧ t.plan.variants = s.plan.variants ∧ t.mem = s.mem) ∧
  (∀ (s : State) (h : HostCmd) (v n : Nat), plainCmd s h cmdSlotUnbind → s.commitOwns = false → h.a0 = v + 65536 * n → v < 4 → n < 4096 →
    s.rget PLAN_VAR_STATE.STATE v ≠ 0 → n < s.rget PLAN_VAR_STATE.SLOTS v →
    ∃ t : State, exec (.slotUnbind h) s = .next (t.reply h 0x11 0 0 0 0) ∧ t.shadowSlot v n = 0 ∧ t.cores = s.cores ∧
      t.plan.variants = s.plan.variants ∧ t.srv = s.srv ∧ t.mem = s.mem) ∧
  (∀ (s : State) (h : HostCmd), plainCmd s h cmdParamPatch → h.a0 < 2 ^ 14 → s.coreValid (bitsOf h.a0 0 8) = true →
    exec (.paramPatch h) s = .next ((s.shadowWrite (bitsOf h.a0 0 8) (bitsOf h.a0 8 6) h.a1).reply h 0x12 0 0 0 0)) ∧
  (∀ (s : State) (c k v : Nat), Assoc.get none (s.shadowWrite c k v).frame.openSet.params (64 * c + k) = some (v % 2 ^ 64) ∧
    (s.shadowWrite c k v).cores = s.cores ∧ (s.shadowWrite c k v).mem = s.mem)

/-- R61, R82: a frame starts at its tick with the cores' units idle and the sequence number one higher; a device that may not start it runs it
in abort mode from its first tick, and records why. -/
def Obligations.FrameStartOpensTheFrame : Prop :=
  (∀ (s : State) (v : Nat), (s.frame.phase = .waiting ∨ s.frame.phase = .applied) → s.frame.t0 ≤ s.gst → s.plan.active = some v →
    s.failSafe = false → s.startCause = 0 → s.frame.tableWrites = [] →
    ∃ t : State, exec .frameStart s = .next t ∧ t.frame.phase = .inFrame ∧ t.frame.start = s.frame.t0 ∧ t.frame.now = 0 ∧
      t.frame.len = s.rget PLAN_VAR_STATE.FRAME_LEN v ∧ t.frame.abortTick = none ∧ t.frame.faults = 0 ∧
      t.rget PLAN_FRAME_SEQ.SEQ = (s.rget PLAN_FRAME_SEQ.SEQ + 1) % 2 ^ 64 ∧ t.rget PLAN_FRAME_CTRL.RUN = 1 ∧
      t.rget PLAN_FRAME_CTRL.ABORT_MODE = 0 ∧ t.gst = s.gst ∧ t.cores = (s.mapCores Core.fresh).cores ∧ t.mem.cells = s.mem.cells) ∧
  (∀ (s : State) (v : Nat), (s.frame.phase = .waiting ∨ s.frame.phase = .applied) → s.frame.t0 ≤ s.gst → s.plan.active = some v →
    s.failSafe = false → s.startCause = 0x16 → s.frame.tableWrites = [] →
    ∃ t : State, exec .frameStart s = .next t ∧ t.frame.phase = .inFrame ∧ t.frame.abortTick = some 0 ∧ t.frame.fromStart = true ∧
      t.frame.first.map (·.cause) = some 0x16 ∧ t.rget PLAN_FRAME_CTRL.ABORT_MODE = 1)

/-- R56, R283, R383: a frame ends at its last tick with its units cancelled; a child's verdict is kept with the tick at which it came,
the parent's is the tree's and goes on to every child, and the verdict of the device and its children goes up once every child's
has come; the verdict is the device's own where every child's is OK. -/
def Obligations.FrameEndsAndVerdictsCome : Prop :=
  (∀ s : State, s.frame.phase = .inFrame → s.endTick ≤ s.gst →
    ∃ t : State, exec .frameEnd s = .next t ∧ t.frame.phase = .ended ∧ t.mem.serves = [] ∧ t.mem.sched = [] ∧
      ∀ e ∈ t.cores, e.2.sends = [] ∧ e.2.recvs = [] ∧ e.2.pieces = [] ∧ e.2.reads = [] ∧ e.2.writes = [] ∧ e.2.accesses = [] ∧
        ∀ d ∈ e.2.dma, d.2 = { ({} : DmaCh) with prio := d.2.prio, lastLand := d.2.lastLand }) ∧
  (∀ s : State, s.frame.phase = .inFrame → s.endTick ≤ s.gst → s.frame.now = s.frameLen →
    (s.mutedAt (s.frameLen - 1) = true ∨ (s.cores = [] ∧ s.mem.serves = [])) →
    ∃ t : State, exec .frameEnd s = .next t ∧
      t.frame.holdFrames = (if s.rget CLK_STATUS.SOURCE = 1 then s.frame.holdFrames + 1 else 0) ∧ t.mem.cells = s.mem.cells) ∧
  (∀ s : State, (s.frame.phase ≠ .inFrame ∨ s.gst < s.endTick) → exec .frameEnd s = .next s) ∧
  (∀ (s : State) (p : Nat), p < 18 → s.frame.phase = .inFrame → (header s.activeImage).multi = true → p ≠ (verdictTree s.activeImage).1 →
    (verdictTree s.activeImage).2.testBit p = true → s.frame.children.any (fun e => decide (e.1 = p)) = false →
    exec (.verdict p .ok) s = .next (s.setFrame { s.frame with children := s.frame.children ++ [(p, s.gst, .ok)] })) ∧
  (∀ (s : State) (p o : Nat), p < 18 → (s.frame.phase = .inFrame ∨ s.frame.phase = .ended) → (header s.activeImage).multi = true →
    p = (verdictTree s.activeImage).1 → s.frame.bcast = none →
    ∃ t : State, exec (.verdict p (.hold o)) s = .next t ∧ t.frame = { s.frame with
      bcast := some (.abort o 0x07)
      verdicts := s.frame.verdicts ++ (portsOf (verdictTree s.activeImage).2).map fun q => (q, .abort o 0x07) }) ∧
  (∀ (s : State) (p : Nat), p < 18 → s.frame.phase = .ended → (header s.activeImage).multi = true → p = (verdictTree s.activeImage).1 →
    s.frame.sentUp = false → (∀ q, q < 18 → (verdictTree s.activeImage).2.testBit q = true → s.frame.children.any (fun e => decide (e.1 = q)) = true) →
    s.sendVerdict = s.setFrame { s.frame with sentUp := true, verdicts := s.frame.verdicts ++ [(p, s.joinVerdict)] }) ∧
  (∀ s : State, (∀ e ∈ s.frame.children, e.2.2 = .ok) → s.joinVerdict = s.ownVerdict) ∧
  (∀ s : State, s.failSafe = false → (s.frame.bad = false → s.ownVerdict = .ok) ∧
    (∀ f, s.frame.bad = true → s.frame.first = some f → s.ownVerdict = .abort s.ownId f.cause))

/-- R56, R60: at the decision tick a frame of a single-device plan without a fault commits and one with a fault aborts; the count of aborts at its limit names
the stop, and FRAME_START after it finds frames stopped. -/
def Obligations.DecisionAndRerunLimit : Prop :=
  (∀ s : State, s.frame.phase = .ended → s.decideTick ≤ s.gst → (header s.activeImage).multi = false → s.failSafe = false →
    s.frame.bad = false →
    ∃ t : State, exec .decisionTick s = .next t ∧ t.frame.phase = .decided ∧ t.frame.committed = true ∧ t.frame.verdict = 0 ∧
      t.frame.aborts = 0) ∧
  (∀ s : State, s.frame.phase = .ended → s.decideTick ≤ s.gst → (header s.activeImage).multi = false → s.failSafe = false →
    s.frame.bad = true → s.frame.stopped = false → s.rget ROLL_STATUS.AGREEING = 0 → s.roll.switch = none →
    ∃ t : State, exec .decisionTick s = .next t ∧ t.frame.phase = .decided ∧ t.frame.committed = false ∧ t.frame.verdict = 1 ∧
      t.frame.aborts = s.frame.aborts + 1 ∧ t.mem.cells = s.mem.cells) ∧
  (∀ s : State, s.frame.phase = .decided → s.rget PLAN_FRAME_CTRL.RERUN_LIMIT + 1 ≤ s.frame.aborts → s.frame.stopAt = none →
    exec .rerunLimit s = .next (s.setFrame { s.frame with stopAt := some s.applyAt }))

/-- R52, R55, R58, R65: an apply tick makes a READY variant whose activation is due the active one, makes a closed set's registers
live, and otherwise leaves a device with nothing to apply as it was but for its dropped count; one apply tick has its effects
once. -/
def Obligations.ApplyTickTakesEffect : Prop :=
  (∀ (s : State) (a v : Nat) (h : HostCmd), s.frame.phase = .idle → s.frame.lastApply ≠ s.gst / 65536 * 65536 →
    s.frame.activates = [(a, v, h)] → a ≤ s.gst / 65536 * 65536 → v < 4 →
    s.rget PLAN_VAR_STATE.STATE v = 2 → s.roll.switch = none → s.frame.closedSet = none → s.rgr.retire = none → s.clk.ratePend = none →
    s.host.unbind = [] → s.roll.unbinds = [] →
    ∃ t : State, exec .applyTick s = .next t ∧ t.plan.active = some v ∧ t.rget PLAN_VAR_STATE.STATE v = 3 ∧ t.frame.activates = [] ∧
      t.mem.cells = s.mem.cells) ∧
  (∀ (s : State) (set : PatchSet) (c k x : Nat), s.frame.phase = .idle → s.frame.lastApply ≠ s.gst / 65536 * 65536 →
    s.frame.activates = [] → s.roll.switch = none → s.rgr.retire = none → s.clk.ratePend = none → s.host.unbind = [] → s.roll.unbinds = [] →
    s.frame.closedSet = some set → s.plan.active = some set.variant → set.epoch = s.rget ROLL_EPOCH.EPOCH →
    s.rget PLAN_PATCH_STATE.PHASE = 1 → set.writes = [] → set.binds = [] → k < 64 → set.params = [(64 * c + k, some x)] →
    ∃ t : State, exec .applyTick s = .next t ∧ Assoc.get 0 (t.core c).pLive k = x ∧ t.frame.closedSet = none ∧
      t.rget PLAN_PATCH_STATE.RESULT = 1 ∧ t.rget PLAN_PATCH_STATE.CLOSED = 0 ∧ t.mem.cells = s.mem.cells) ∧
  (∀ s : State, s.frame.phase = .idle → s.frame.lastApply ≠ s.gst / 65536 * 65536 → s.frame.activates = [] → s.roll.switch = none →
    s.frame.closedSet = none → s.rgr.retire = none → s.clk.ratePend = none → s.host.unbind = [] → s.roll.unbinds = [] →
    exec .applyTick s = .next ((s.passApply (s.gst / 65536 * 65536)).rset0 PLAN_PATCH_STATE.DROPPED 0)) ∧
  (∀ s : State, s.frame.phase = .idle → s.frame.lastApply = s.gst / 65536 * 65536 → exec .applyTick s = .next s) ∧
  (∀ s : State, (s.frame.phase = .inFrame ∨ s.frame.phase = .ended ∨ (s.frame.phase = .decided ∧ s.gst < s.applyAt)) →
    exec .applyTick s = .next s)

/-- R72, R73, R76: moving TAIL marks records read; a charge above its limit is a fault; the snapshots go to the buffer that STATS_READ names. -/
def Obligations.FaultLogPowerAndStatistics : Prop :=
  (∀ (s : State) (v : Nat), s.bivouac = false → bitAt v 31 = false →
    ∃ t : State, exec (.planFaultHead .pf0 v) s = .next t ∧ t.rget PLAN_FAULT_HEAD.TAIL = bitsOf v 8 6 ∧
      t.rget PLAN_FAULT_HEAD.UNREAD = (s.rget PLAN_FAULT_HEAD.HEAD + 64 - bitsOf v 8 6) % 64 ∧
      t.rget PLAN_FAULT_HEAD.OVF = s.rget PLAN_FAULT_HEAD.OVF ∧ t = { s with regs := t.regs }) ∧
  (∀ (s : State) (v : Nat), s.bivouac = false → bitAt v 31 = true → s.rget PLAN_FAULT_HEAD.OVF = 1 →
    ∃ t : State, exec (.planFaultHead .pf0 v) s = .next t ∧ t.rget PLAN_FAULT_HEAD.TAIL = bitsOf v 8 6 ∧
      t.rget PLAN_FAULT_HEAD.OVF = (if (Assoc.get (0, 0) s.raised (PLAN_FAULT_HEAD.OVF.key 0)).1 = s.gst ∧
        (Assoc.get (0, 0) s.raised (PLAN_FAULT_HEAD.OVF.key 0)).2 % 2 = 1 then 1 else 0) ∧
      t = { s with regs := t.regs }) ∧
  (∀ (s : State) (r m : Nat), r < 288 → s.frame.phase = .inFrame → s.frame.now < s.frameLen → s.mutedAt s.frame.now = false →
    s.chargedRegions.contains r = true → m = s.frame.now / 4096 →
    chargeOver (s.runningCharge r) (s.regionLimit r m) (s.intervalEnd m - 4096 * m) = true →
    ∃ t : State, exec (.powerOver r) s = .next t ∧ t.frame.bad = true ∧ t.frame.faults = s.frame.faults + 1) ∧
  (∀ (s : State) (r m : Nat), r < 288 → m = s.frame.now / 4096 →
    chargeOver (s.runningCharge r) (s.regionLimit r m) (s.intervalEnd m - 4096 * m) = false →
    exec (.powerOver r) s = .next s) ∧
  (∀ (s : State) (h : HostCmd), plainCmd s h cmdStatsRead → h.a0 = 0 →
    exec (.statsRead h) s = .next ((s.emit (.hostWrite 0 h.a1 (s.snapBytes.take h.a2))).reply h 0x38 0 0 (s.snapBytes.take h.a2).length 0)) ∧
  (∀ (s : State) (h : HostCmd), plainCmd s h cmdStatsRead → h.a0 = 1 →
    exec (.statsRead h) s = .next ((s.emit (.hostWrite 0 h.a1 (s.faultBytes.take h.a2))).reply h 0x38 0 0 (s.faultBytes.take h.a2).length 0))

/-- R85, R87: each scalar operation gives rd = ra op (rb + sext(imm)), with the low 64 bits of a product, shifts by b[5:0],
signed MIN, MAX and SLT, and 1 or 0 from the comparisons. -/
def Obligations.ScalarArithmeticResults : Prop :=
  ∀ (x : Issue) (rd ra rb : RegSpec) (imm : BitVec 23),
    scalarResult (.add x rd ra rb imm) x rd (fun k => k.reg ra + (k.reg rb + imm.signExtend 64)) ∧
    scalarResult (.sub x rd ra rb imm) x rd (fun k => k.reg ra - (k.reg rb + imm.signExtend 64)) ∧
    scalarResult (.mul x rd ra rb imm) x rd (fun k => k.reg ra * (k.reg rb + imm.signExtend 64)) ∧
    scalarResult (.and x rd ra rb imm) x rd (fun k => k.reg ra &&& (k.reg rb + imm.signExtend 64)) ∧
    scalarResult (.or x rd ra rb imm) x rd (fun k => k.reg ra ||| (k.reg rb + imm.signExtend 64)) ∧
    scalarResult (.xor x rd ra rb imm) x rd (fun k => k.reg ra ^^^ (k.reg rb + imm.signExtend 64)) ∧
    scalarResult (.shl x rd ra rb imm) x rd (fun k => k.reg ra <<< ((k.reg rb + imm.signExtend 64).toNat % 64)) ∧
    scalarResult (.shr x rd ra rb imm) x rd (fun k => k.reg ra >>> ((k.reg rb + imm.signExtend 64).toNat % 64)) ∧
    scalarResult (.sra x rd ra rb imm) x rd (fun k => (k.reg ra).sshiftRight ((k.reg rb + imm.signExtend 64).toNat % 64)) ∧
    scalarResult (.min x rd ra rb imm) x rd (fun k =>
      if (k.reg ra).toInt < (k.reg rb + imm.signExtend 64).toInt then k.reg ra else k.reg rb + imm.signExtend 64) ∧
    scalarResult (.max x rd ra rb imm) x rd (fun k =>
      if (k.reg ra).toInt < (k.reg rb + imm.signExtend 64).toInt then k.reg rb + imm.signExtend 64 else k.reg ra) ∧
    scalarResult (.slt x rd ra rb imm) x rd (fun k => if (k.reg ra).toInt < (k.reg rb + imm.signExtend 64).toInt then 1 else 0) ∧
    scalarResult (.sltu x rd ra rb imm) x rd (fun k => if (k.reg ra).toNat < (k.reg rb + imm.signExtend 64).toNat then 1 else 0) ∧
    scalarResult (.seq x rd ra rb imm) x rd (fun k => if k.reg ra = k.reg rb + imm.signExtend 64 then 1 else 0)

/-- R85: what is due in an s register at a tick's end is there after it; of two writes of one register by different queues in one tick
the earlier queue's prevails, and what is due at another tick stays. -/
def Obligations.RegisterWritesTakeEffectAtTheTicksEnd : Prop :=
  (∀ (k : Core) (u q r v : Nat), r < 32 → q < 5 → v < 2 ^ 64 → k.agenda = [(u, .sreg q r v)] → Assoc.get 0 (k.applyAgenda u).sregs r = v) ∧
  (∀ (k : Core) (u q p r v w : Nat), r < 32 → q < p → p < 5 → v < 2 ^ 64 →
    (k.agenda = [(u, .sreg q r v), (u, .sreg p r w)] ∨ k.agenda = [(u, .sreg p r w), (u, .sreg q r v)]) →
    Assoc.get 0 (k.applyAgenda u).sregs r = v) ∧
  (∀ (k : Core) (u t q r v : Nat), t ≠ u → k.agenda = [(t, .sreg q r v)] → (k.applyAgenda u).sregs = k.sregs)

/-- R87, R88: LDI gives sext(imm), or takes imm as its upper half; LDS reads the 8 bytes of word ra + sext(imm) and STS has them take rs at the tick's
end; a word of 524,288 or more is an ADDRESS fault in plan-class code and ends a service call. -/
def Obligations.ImmediatesAndScratchpadWords : Prop :=
  (∀ (x : Issue) (rd : RegSpec) (imm : BitVec 32),
    scalarResult (.ldi x rd false imm) x rd (fun _ => imm.signExtend 64) ∧
    scalarResult (.ldi x rd true imm) x rd (fun k => BitVec.ofNat 64 (imm.toNat * 2 ^ 32 + (k.reg rd).toNat % 2 ^ 32))) ∧
  (∀ (s : State) (x : Issue) (rd ra : RegSpec) (imm : BitVec 23) (w : Nat), x.core < 256 → x.svc = false → s.canIssue x = true → rd.toNat < 32 →
    w = (((atIssue s x).core x.core).reg ra + imm.signExtend 64).toNat → w < 524288 → (atIssue s x).mutedAt (s.issueTick x) = false →
    spadBad ((atIssue s x).core x.core) (8 * w) 8 = false →
    ∃ t : State, exec (.lds x rd ra imm) s = .next t ∧
      (t.core x.core).agenda = ((atIssue s x).core x.core).agenda ++
        [(s.issueTick x, .sreg x.queue rd.toNat (natOfBytes (spadBytes ((atIssue s x).core x.core) (8 * w) 8) % 2 ^ 64))] ∧
      (t.core x.core).sregs = ((atIssue s x).core x.core).sregs ∧ (t.core x.core).spad = ((atIssue s x).core x.core).spad ∧
      t.mem = (atIssue s x).mem ∧ t.regs = (atIssue s x).regs) ∧
  (∀ (s : State) (x : Issue) (rs ra : RegSpec) (imm : BitVec 23) (w : Nat), x.core < 256 → x.svc = false → s.canIssue x = true →
    w = (((atIssue s x).core x.core).reg ra + imm.signExtend 64).toNat → w < 524288 →
    ∃ t : State, exec (.sts x rs ra imm) s = .next t ∧
      (t.core x.core).writes = ((atIssue s x).core x.core).writes ++
        [{ tick := s.issueTick x, acc := { cls := 0, issued := s.issueTick x, unit := x.core, kind := 0, line := w / 8 },
           addr := 8 * w, bytes := bytesOf (((atIssue s x).core x.core).reg rs).toNat 8 }] ∧
      (t.core x.core).spad = ((atIssue s x).core x.core).spad ∧ (t.core x.core).sregs = ((atIssue s x).core x.core).sregs ∧
      t.mem = (atIssue s x).mem ∧ t.regs = (atIssue s x).regs) ∧
  (∀ (s : State) (x : Issue) (rs ra : RegSpec) (imm : BitVec 23), x.core < 256 → x.svc = false → s.canIssue x = true →
    (atIssue s x).frame.phase = .inFrame →
    524288 ≤ (((atIssue s x).core x.core).reg ra + imm.signExtend 64).toNat → (atIssue s x).mutedAt (s.issueTick x) = false →
    ∃ t : State, exec (.sts x rs ra imm) s = .next t ∧ t.frame.bad = true ∧ (t.core x.core).writes = ((atIssue s x).core x.core).writes) ∧
  (∀ (s : State) (x : Issue) (rs ra : RegSpec) (imm : BitVec 23), x.core < 256 → x.svc = true → s.svcReady x.core = true →
    (s.core x.core).inArea ((s.core x.core).reg ra + imm.signExtend 64).toNat = false →
    exec (.sts x rs ra imm) s = .next (s.svcEnd x.core 0x04) ∧ exec (.lds x rs ra imm) s = .next (s.svcEnd x.core 0x04)) ∧
  (∀ (s : State) (x : Issue) (rs ra : RegSpec) (imm : BitVec 23) (w : Nat), x.core < 256 → x.svc = true → s.svcReady x.core = true →
    w = ((s.core x.core).reg ra + imm.signExtend 64).toNat → (s.core x.core).inArea w = true →
    ∃ t : State, exec (.sts x rs ra imm) s = .next t ∧
      (t.core x.core).spad = (spadWrite (s.core x.core) (8 * w) (bytesOf ((s.core x.core).reg rs).toNat 8)).spad ∧
      (∀ d, d ≠ x.core → t.core d = s.core d) ∧ t.mem = s.mem ∧ t.regs = s.regs) ∧
  (∀ (s : State) (x : Issue) (rd ra : RegSpec) (imm : BitVec 23) (w : Nat), x.core < 256 → x.svc = true → s.svcReady x.core = true →
    w = ((s.core x.core).reg ra + imm.signExtend 64).toNat → (s.core x.core).inArea w = true →
    (spadBad (s.core x.core) (8 * w) 8 = false → rd.toNat < 32 →
      ∃ t : State, exec (.lds x rd ra imm) s = .next t ∧
        Assoc.get 0 (t.core x.core).sregs rd.toNat = natOfBytes (spadBytes (s.core x.core) (8 * w) 8) % 2 ^ 64 ∧
        (t.core x.core).svc.index = (s.core x.core).svc.index + 1 ∧ (t.core x.core).spad = (s.core x.core).spad) ∧
    (spadBad (s.core x.core) (8 * w) 8 = true →
      exec (.lds x rd ra imm) s = .next ((s.setCore x.core ((s.core x.core).setReg rd 0#64)).svcEnd x.core 0x0C)))

/-- R79, R80, R91, R92, R93: NOP takes its gap and no more; END ends its stream, which issues nothing after it; LOOP opens a body with
its count, 0 meaning 65,536; BRB chooses its arm, arm F in abort mode, and JOIN closes it, with a fault at the tick's end where the
ticks or the signals do not match; the host's NOP answers OK. R69, R89: SIG adds at the tick's end; a WAIT that finds N and a BAR that
finds every counter take theirs, each from what the earlier queues of the tick have left; one that does not is a fault and takes
nothing. -/
def Obligations.QueueControlAndTokens : Prop :=
  (∀ (s : State) (x : Issue), x.core < 256 → x.svc = false → s.canIssue x = true →
    exec (.nop (.plan x)) s = .next (issuedAs (atIssue s x) x ((atIssue s x).queue x).next (s.issueTick x))) ∧
  (∀ (s : State) (h : HostCmd), plainCmd s h cmdNop → exec (.nop (.host h)) s = .next (s.reply h 0 0 0 0 0)) ∧
  (∀ (s : State) (x : Issue), x.core < 256 → x.svc = false → s.canIssue x = true →
    exec (.endQ x) s = .next (issuedAs (atIssue s x) x { (atIssue s x).queue x with done := true } (s.issueTick x))) ∧
  (∀ (s : State) (x : Issue) (count body : Nat), x.core < 256 → x.svc = false → s.canIssue x = true → 0 < body →
    ∃ t : State, exec (.loop x count body) s = .next t ∧
      t = issuedAs (atIssue s x) x
        { (atIssue s x).queue x with
          pc := ((atIssue s x).queue x).pc + 8
          loops := { first := ((atIssue s x).queue x).pc + 8, stop := ((atIssue s x).queue x).pc + 8 + 8 * body,
                     left := if count = 0 then 65536 else count } :: ((atIssue s x).queue x).loops } (s.issueTick x)) ∧
  (∀ (s : State) (x : Issue) (cond : Nat) (ra rb : RegSpec) (alen blen : Nat), x.core < 256 → x.svc = false → s.canIssue x = true →
    0 < alen → (atIssue s x).abortedAt (s.issueTick x) = false →
    ∃ t : State, exec (.brb x cond ra rb alen blen) s = .next t ∧
      (t.queue x).pc = (if condHolds cond (((atIssue s x).core x.core).reg ra) (((atIssue s x).core x.core).reg rb) = true
        then ((atIssue s x).queue x).pc + 8 else ((atIssue s x).queue x).pc + 8 * (1 + alen)) ∧
      (t.queue x).branches.head?.map (fun b => (b.joinPc, b.tBrb, b.sigs0)) =
        some (((atIssue s x).queue x).pc + 8 * (1 + alen + blen), s.issueTick x, ((atIssue s x).queue x).sigs) ∧
      (t.core x.core).sregs = ((atIssue s x).core x.core).sregs ∧ t.mem = (atIssue s x).mem ∧ t.regs = (atIssue s x).regs) ∧
  (∀ (s : State) (x : Issue) (cond : Nat) (ra rb : RegSpec) (alen blen : Nat), x.core < 256 → x.svc = false → s.canIssue x = true →
    (atIssue s x).abortedAt (s.issueTick x) = true →
    ∃ t : State, exec (.brb x cond ra rb alen blen) s = .next t ∧ (t.queue x).pc = ((atIssue s x).queue x).pc + 8 * (1 + alen)) ∧
  (∀ (s : State) (x : Issue) (ticks sig : Nat) (b : BranchSt) (bs : List BranchSt), x.core < 256 → x.svc = false → s.canIssue x = true →
    ((atIssue s x).queue x).branches = b :: bs → ((s.issueTick x - b.tBrb = ticks ∧ ((atIssue s x).queue x).sigs - b.sigs0 = sig) ∨
      (atIssue s x).abortedAt (s.issueTick x) = true) →
    exec (.join x ticks sig) s = .next (issuedAs (atIssue s x) x ((atIssue s x).queue x).join (s.issueTick x))) ∧
  (∀ (s : State) (x : Issue) (ticks sig : Nat) (b : BranchSt) (bs : List BranchSt), x.core < 256 → x.svc = false → s.canIssue x = true →
    ((atIssue s x).queue x).branches = b :: bs → (atIssue s x).abortedAt (s.issueTick x) = false →
    (s.issueTick x - b.tBrb ≠ ticks ∨ ((atIssue s x).queue x).sigs - b.sigs0 ≠ sig) →
    ∃ t : State, exec (.join x ticks sig) s = .next t ∧
      (t.core x.core).agenda = ((atIssue s x).core x.core).agenda ++ [(s.issueTick x,
        .unbalanced x.queue ((atIssue s x).queue x).pc (s.issueTick x - b.tBrb) (((atIssue s x).queue x).sigs - b.sigs0))] ∧
      (t.queue x).branches = bs ∧ t.mem = (atIssue s x).mem ∧ t.regs = (atIssue s x).regs) ∧
  (∀ (k : Core) (u q pc dt ds : Nat), k.agenda = [(u, .unbalanced q pc dt ds)] →
    (k.joinFaults u).map (fun f => (f.queue, f.pc, f.cause, f.detail)) = [(q, pc, 0x12, dt % 2 ^ 16 + 2 ^ 16 * (ds % 256))]) ∧
  (∀ (s : State) (x : Issue), x.core < 256 → x.svc = false → s.canIssue x = false →
    exec (.nop (.plan x)) s = .next s ∧ exec (.endQ x) s = .next s) ∧
  (∀ (s : State) (x : Issue) (token n : Nat), x.core < 256 → x.svc = false → s.canIssue x = true →
    ∃ t : State, exec (.sig x token n) s = .next t ∧
      (t.core x.core).agenda = ((atIssue s x).core x.core).agenda ++
        [(s.issueTick x, .tokenAdd x.queue ((atIssue s x).queue x).pc token n)] ∧
      (t.queue x).sigs = ((atIssue s x).queue x).sigs + n ∧ (t.core x.core).tokens = ((atIssue s x).core x.core).tokens ∧
      t.mem = (atIssue s x).mem ∧ t.regs = (atIssue s x).regs) ∧
  (∀ (s : State) (x : Issue) (token n : Nat), x.core < 256 → x.svc = false → s.canIssue x = true →
    (atIssue s x).mutedAt (s.issueTick x) = false →
    ∃ t : State, exec (.wait x token n) s = .next t ∧
      (t.core x.core).agenda = ((atIssue s x).core x.core).agenda ++
        [(s.issueTick x, .tokenWait x.queue ((atIssue s x).queue x).pc token n)] ∧
      (t.core x.core).tokens = ((atIssue s x).core x.core).tokens ∧ t.mem = (atIssue s x).mem ∧ t.regs = (atIssue s x).regs) ∧
  (∀ (s : State) (x : Issue) (mask : BitVec 32), x.core < 256 → x.svc = false → s.canIssue x = true →
    (atIssue s x).mutedAt (s.issueTick x) = false →
    ∃ t : State, exec (.bar x mask) s = .next t ∧
      (t.core x.core).agenda = ((atIssue s x).core x.core).agenda ++
        [(s.issueTick x, .tokenBar x.queue ((atIssue s x).queue x).pc mask.toNat)] ∧
      (t.core x.core).tokens = ((atIssue s x).core x.core).tokens ∧ t.mem = (atIssue s x).mem ∧ t.regs = (atIssue s x).regs) ∧
  (∀ (k : Core) (u q pc token n : Nat), k.agenda = [(u, .tokenAdd q pc token n)] →
    Assoc.get 0 (k.applyAgenda u).tokens token = Nat.min 255 (Assoc.get 0 k.tokens token + n)) ∧
  (∀ (k : Core) (u q pc token n : Nat), q < 5 → k.agenda = [(u, .tokenWait q pc token n)] →
    (n ≤ Assoc.get 0 k.tokens token →
      (k.checks u).faults.length = 0 ∧ Assoc.get 0 (k.applyAgenda u).tokens token = Assoc.get 0 k.tokens token - n) ∧
    (Assoc.get 0 k.tokens token < n →
      (k.checks u).faults.map (fun f => (f.queue, f.pc, f.cause, f.detail)) = [(q, pc, 0x01, token)] ∧
      (k.applyAgenda u).tokens = k.tokens)) ∧
  (∀ (k : Core) (u q pc mask : Nat), q < 5 → k.agenda = [(u, .tokenBar q pc mask)] →
    ((∀ j, j < 32 → mask.testBit j = true → 0 < Assoc.get 0 k.tokens j) →
      (k.checks u).faults.length = 0 ∧
      ∀ j, j < 32 → Assoc.get 0 (k.applyAgenda u).tokens j = Assoc.get 0 k.tokens j - (if mask.testBit j then 1 else 0)) ∧
    (∀ j, j < 32 → mask.testBit j = true → Assoc.get 0 k.tokens j = 0 →
      (k.checks u).faults.map (fun f => (f.queue, f.pc, f.cause)) = [(q, pc, 0x02)] ∧ (k.applyAgenda u).tokens = k.tokens)) ∧
  (∀ (k : Core) (u q1 q2 pc1 pc2 token n1 n2 : Nat), q1 < q2 → q2 < 5 →
    (k.agenda = [(u, .tokenWait q1 pc1 token n1), (u, .tokenWait q2 pc2 token n2)] ∨
      k.agenda = [(u, .tokenWait q2 pc2 token n2), (u, .tokenWait q1 pc1 token n1)]) →
    n1 ≤ Assoc.get 0 k.tokens token → Assoc.get 0 k.tokens token - n1 < n2 →
    (k.checks u).faults.map (fun f => (f.queue, f.pc, f.cause)) = [(q2, pc2, 0x01)])

/-- R97, R98, R99: SVC_RUN loads the buffer; BRU moves the call by its signed offset; LCALL starts a resident routine whose bound fits; the routine's completion
leaves its status in s0; windows pause and resume calls; an opcode that service-class code may not hold ends the call with NOT_PERMITTED. -/
def Obligations.ServiceCallsRun : Prop :=
  (∀ (s : State) (h : HostCmd) (code : List Word), plainCmd s h cmdSvcRun → h.a0 < 256 → 0 < h.a2 → h.a2 ≤ 512 → s.coreValid h.a0 = true →
    (s.core h.a0).svc.state = 0 →
    exec (.svcRun h code) s = .next (s.setCore h.a0 { s.core h.a0 with
      svc := { code := code.take h.a2, state := if s.inWindow then 1 else 2, base := (s.core h.a0).svc.base,
               count := (s.core h.a0).svc.count, results := (s.core h.a0).svc.results, cmd := some h } })) ∧
  (∀ (s : State) (x : Issue) (cond : Nat) (ra rb : RegSpec) (off : BitVec 27) (i : Nat), x.core < 256 → x.svc = true → s.svcReady x.core = true →
    condHolds cond ((s.core x.core).reg ra) ((s.core x.core).reg rb) = true → ((s.core x.core).svc.index : Int) + off.toInt = i → i < 512 →
    exec (.bru x cond ra rb off) s = .next (s.setCore x.core { s.core x.core with svc := { (s.core x.core).svc with index := i } })) ∧
  (∀ (s : State) (x : Issue) (cond : Nat) (ra rb : RegSpec) (off : BitVec 27), x.core < 256 → x.svc = true → s.svcReady x.core = true →
    condHolds cond ((s.core x.core).reg ra) ((s.core x.core).reg rb) = false →
    exec (.bru x cond ra rb off) s = .next (s.setCore x.core { s.core x.core with
      svc := { (s.core x.core).svc with index := (s.core x.core).svc.index + 1 } })) ∧
  (∀ (s : State) (x : Issue) (r : Nat), x.core < 256 → x.svc = true → s.svcReady x.core = true →
    (r = 1 ∨ r = 2 ∨ r = 3 ∨ r = 4 ∨ r = 16) → (s.core x.core).routineArgsOk r = true → s.windowLeft = none →
    exec (.lcall x r) s = .next (s.setCore x.core { s.core x.core with svc := { (s.core x.core).svc with waitingCall := some r } })) ∧
  (∀ (s : State) (x : Issue) (r : Nat), x.core < 256 → x.svc = true → s.svcReady x.core = true → s.windowLeft = none →
    exec (.lcall x r) s = .next (if s.routineVersion r = 0 then s.svcEnd x.core 0x05
      else if (s.core x.core).routineArgsOk r = false then s.svcEnd x.core 0x04
      else s.setCore x.core { s.core x.core with svc := { (s.core x.core).svc with waitingCall := some r } })) ∧
  (∀ (s : State) (c st : Nat) (rs : List Nat), c < 256 → (s.core c).svc.waitingCall = some 0x0001 →
    ∃ t : State, exec (.libraryRoutineCompletion c st rs) s = .next t ∧
      (t.core c).spad = (spadWrite (s.core c) (64 * (s.core c).arg 1) (List.replicate (8 * (s.core c).arg 2) (bytesOf ((s.core c).arg 3) 8)).flatten).spad ∧
      Assoc.get 0 (t.core c).sregs 0 = 0 ∧ (t.core c).svc.waitingCall = none ∧ (∀ d, d ≠ c → t.core d = s.core d) ∧ t.mem = s.mem ∧
      t.regs = s.regs) ∧
  (∀ s : State, s.inWindow = true → s.rgr.libTrial = false →
    ∃ t : State, exec .serviceWindowStart s = .next t ∧ (∀ e ∈ t.cores, e.2.svc.state = 2 → e.2.svc.waitingCall.isSome = true) ∧
      t = { s with cores := t.cores }) ∧
  (∀ s : State, s.inWindow = false → s.mem.svcDma = [] →
    ∃ t : State, exec .serviceWindowEnd s = .next t ∧ (∀ e ∈ t.cores, e.2.svc.state = 1 → e.2.svc.waitingCall.isSome = true) ∧
      t = { s with cores := t.cores }) ∧
  (∀ s : State, (s.inWindow = false → exec .serviceWindowStart s = .next s) ∧ (s.inWindow = true → exec .serviceWindowEnd s = .next s)) ∧
  (∀ (s : State) (x : Issue) (r left : Nat), x.core < 256 → x.svc = true → s.svcReady x.core = true → s.windowLeft = some left →
    s.routineVersion r ≠ 0 → (s.core x.core).routineArgsOk r = true →
    exec (.lcall x r) s = .next (
      if s.running = true ∧ s.frame.gap - s.verdictTicks - 3136 < (s.core x.core).routineBound r then s.svcEnd x.core 0x05
      else if (s.core x.core).routineBound r ≤ left then
        s.setCore x.core { s.core x.core with svc := { (s.core x.core).svc with waitingCall := some r } }
      else s.setCore x.core { s.core x.core with svc := { (s.core x.core).svc with state := 2 } })) ∧
  (∀ (s : State) (x : Issue) (cond : Nat) (ra rb : RegSpec) (off : BitVec 27) (r : Nat), x.svc = false →
    exec (.bru x cond ra rb off) s = .next s ∧ exec (.lcall x r) s = .next s) ∧
  (∀ (s : State) (x : Issue) (token n count body cond alen blen slot line src len rmode ch route pool done kt fmtA fmtB eng : Nat)
    (ra rb rc : RegSpec) (mask : BitVec 32) (emask : BitVec 4) (b1 b2 b3 : Bool), x.core < 256 → x.svc = true → s.svcReady x.core = true →
    ∀ c ∈ ([.sig x token n, .wait x token n, .bar x mask, .loop x count body, .brb x cond ra rb alen blen, .join x token n,
        .mpass x emask b1 b2 b3 fmtA fmtB ra rb kt, .vcfg x slot line, .vrun x emask slot src ra rb rc len rmode, .reds x ra eng b1,
        .dma x ch done line, .send x route ra count pool done, .recv x route ra count done, .cgive x route pool n] : List Instr),
      exec c s = .next (s.svcEnd x.core 0x04))

/-- R101: a write of CORE_SVC_AREA while the core's call runs or is paused has no effect; another sets the area. -/
def Obligations.ServiceAreaIsFixedDuringACall : Prop :=
  (∀ (s : State) (a : Agent) (c v : Nat), agentWrites a (0x100200 + 0x1000 * c) = true → ((s.core c).svc.state = 1 ∨ (s.core c).svc.state = 2) →
    exec (.coreSvcArea a c v) s = .next s) ∧
  (∀ (s : State) (a : Agent) (c v : Nat), agentWrites a (0x100200 + 0x1000 * c) = true → c < 2 * s.lcoresPerDie → s.bivouac = false →
    (s.core c).svc.state ≠ 1 → (s.core c).svc.state ≠ 2 → exec (.coreSvcArea a c v) s = .next (s.setCore c { s.core c with
      svc := { (s.core c).svc with base := bitsOf v 0 16, count := bitsOf v 16 16 } })) ∧
  (∀ (s : State) (a : Agent) (c v : Nat), 2 * s.lcoresPerDie ≤ c → exec (.coreSvcArea a c v) s = .next s)

/-- R94, R109: MPASS starts, on each engine of EMASK, a pass of KT input ticks (0 meaning 16,384) that is complete at
I + KT + 64 in the full shape and I + KT + 32 in the split shape; the other engines, the registers and the scratchpad stay. R384, R382: an MPASS that would complete before an earlier pass on its bank, on an engine that takes its operands no more, is a
BARRIER_STALL fault of that engine, and the pass runs as a bubble. -/
def Obligations.MatrixPassStartsInOrder : Prop :=
  (∀ (s : State) (x : Issue) (emask : BitVec 4) (split bank acc : Bool) (fmtA fmtB : Nat) (rA rB : RegSpec) (kt : Nat),
    x.core < 256 → x.svc = false → s.canIssue x = true → (atIssue s x).abortedAt (s.issueTick x) = false →
    mpassFault ((atIssue s x).core x.core)
      (passPlan ((atIssue s x).core x.core) emask split fmtA fmtB rA rB (if kt = 0 then 16384 else kt)) split bank rA rB (s.issueTick x) = none →
    ∃ t : State, exec (.mpass x emask split bank acc fmtA fmtB rA rB kt) s = .next t ∧
      (∀ e, e < 4 → emask.getLsbD e = true →
        ∃ p : Pass, ((t.core x.core).engine e).passes = (((atIssue s x).core x.core).engine e).passes ++ [p] ∧ p.issue = s.issueTick x ∧
          p.kt = (if kt = 0 then 16384 else kt) ∧ p.split = split ∧ p.bank = bank ∧ p.acc = acc ∧ p.fmtA = fmtA ∧ p.fmtB = fmtB ∧
          p.bubble = false ∧ p.mask = ((atIssue s x).core x.core).rowMask e ∧ (acc = false → p.cells = []) ∧
          p.doneAt = s.issueTick x + (if kt = 0 then 16384 else kt) + (if split then 32 else 64)) ∧
      (∀ e, e < 4 → emask.getLsbD e = false → (t.core x.core).engine e = ((atIssue s x).core x.core).engine e) ∧
      (t.core x.core).sregs = ((atIssue s x).core x.core).sregs ∧ (t.core x.core).spad = ((atIssue s x).core x.core).spad ∧
      (∀ d, d ≠ x.core → t.core d = (atIssue s x).core d) ∧ t.mem = (atIssue s x).mem ∧ t.regs = (atIssue s x).regs) ∧
  (∀ (s : State) (x : Issue) (e : Nat) (split bank acc : Bool) (fmtA fmtB : Nat) (rA rB : RegSpec) (kt : Nat) (q : Pass),
    x.core < 256 → x.svc = false → s.canIssue x = true → e < 4 → s.frame.phase = .inFrame →
    s.issueTick x = s.frame.now → s.frame.abortTick = none → s.frame.fromStart = false → s.frame.first = none →
    ((s.core x.core).reg rA).toNat = 0 → ((s.core x.core).reg rB).toNat = 0 → kt ≠ 0 →
    engineLines fmtA split (passK kt (pairRate4 fmtA fmtB)) ≤ 65536 → engineLines fmtB split (passK kt (pairRate4 fmtA fmtB)) ≤ 65536 →
    ((s.core x.core).engine e).inputUntil ≤ s.frame.now → q ∈ ((s.core x.core).engine e).passes → q.bank = bank →
    s.issueTick x + (if split then 32 else 64) < q.doneAt →
    ∃ t : State, exec (.mpass x (BitVec.ofNat 4 (2 ^ e)) split bank acc fmtA fmtB rA rB kt) s = .next t ∧
      t.frame.first.map (fun f => (f.cause, f.unit, f.detail)) = some (0x02, e, 0x80000006) ∧ t.frame.abortTick = some s.frame.now ∧
      ∃ p : Pass, ((t.core x.core).engine e).passes = ((s.core x.core).engine e).passes ++ [p] ∧ p.bubble = true)

/-- R109, R130, R384: a completion takes the frame to the completion tick of the first pass on the bank, or of the first run; there a pass that is no bubble
leaves its sums in its bank and a reduction leaves its result, and the other bank stays. -/
def Obligations.CompletionsLeaveResults : Prop :=
  (∀ (s : State) (c e : Nat) (bank : Bool) (p : Pass), c < 256 → e < 4 → s.frame.phase = .inFrame →
    ((s.core c).engine e).passes.find? (fun p => decide (p.bank = bank)) = some p →
    ∃ t : State, exec (.passCompletion c e bank) s = .next t ∧ t = s.advance p.doneAt ∧ t.frame.now = Nat.max s.frame.now p.doneAt) ∧
  (∀ (s : State) (c e : Nat) (v : VRun), c < 256 → e < 4 → s.frame.phase = .inFrame → ((s.core c).engine e).vruns.head? = some v →
    ∃ t : State, exec (.vrunCompletion c e) s = .next t ∧ t = s.advance v.doneAt ∧ t.frame.now = Nat.max s.frame.now v.doneAt) ∧
  (∀ (x : Engine) (p : Pass) (t : Nat), x.passes = [p] → p.bubble = false → p.cells ≠ [] → p.doneAt ≤ t →
    (x.settle t false).passes = [] ∧
    (p.bank = false → (x.settle t false).bank0 = p.cells ∧ (x.settle t false).bank1 = x.bank1) ∧
    (p.bank = true → (x.settle t false).bank1 = p.cells ∧ (x.settle t false).bank0 = x.bank0)) ∧
  (∀ (x : Engine) (p : Pass) (t : Nat), x.passes = [p] → t < p.doneAt →
    (x.settle t false).passes = [p] ∧ (x.settle t false).bank0 = x.bank0 ∧ (x.settle t false).bank1 = x.bank1) ∧
  (∀ (x : Engine) (v : VRun) (t : Nat), x.vruns = [v] → v.bubble = false → v.rmode ≠ 0 → v.doneAt ≤ t →
    (x.settle t false).resVal = v.lastVal ∧ (x.settle t false).resIdx = v.lastIdx) ∧
  (∀ (x : Engine) (v : VRun) (t : Nat), x.vruns = [v] → (v.rmode = 0 ∨ v.bubble = true) →
    (x.settle t false).resVal = x.resVal ∧ (x.settle t false).resIdx = x.resIdx)

/-- R118, R131: VCFG writes its slot at the end of its tick with a word that the checks allow; a word they do not allow is fault CHAIN_CONFIG with the offending byte,
and the slot stays. -/
def Obligations.ChainConfigurationIsChecked : Prop :=
  (∀ (s : State) (x : Issue) (slot line : Nat), x.core < 256 → x.svc = false → s.canIssue x = true →
    (atIssue s x).mutedAt (s.issueTick x) = false → spadBad ((atIssue s x).core x.core) (64 * line) 64 = false →
    cfgFault (spadLine ((atIssue s x).core x.core) line) = none →
    ∃ t : State, exec (.vcfg x slot line) s = .next t ∧
      (t.core x.core).agenda = ((atIssue s x).core x.core).agenda ++
        [(s.issueTick x, .cslot slot (spadLine ((atIssue s x).core x.core) line))] ∧
      (t.core x.core).cslots = ((atIssue s x).core x.core).cslots ∧ (t.core x.core).sregs = ((atIssue s x).core x.core).sregs ∧
      t.mem = (atIssue s x).mem ∧ t.regs = (atIssue s x).regs) ∧
  (∀ (s : State) (x : Issue) (slot line b : Nat), x.core < 256 → x.svc = false → s.canIssue x = true →
    s.issueTick x = s.frame.now → s.frame.abortTick = none → s.frame.fromStart = false → s.frame.first = none →
    spadBad (s.core x.core) (64 * line) 64 = false → cfgFault (spadLine (s.core x.core) line) = some b → b < 64 →
    ∃ t : State, exec (.vcfg x slot line) s = .next t ∧
      t.frame.first.map (fun f => (f.cause, f.unit, f.detail)) = some (0x19, 0xFFFF, b) ∧
      (t.core x.core).agenda = (s.core x.core).agenda ∧ (t.core x.core).cslots = (s.core x.core).cslots) ∧
  (∀ (k : Core) (u c w : Nat), k.agenda = [(u, .cslot c w)] → Assoc.get identityWord (k.applyAgenda u).cslots c = w)

/-- R95, R96: VRUN starts, on each engine of EMASK, a run of LEN rows (0 meaning 2,048) that is complete at I + LEN + 8, plus 2 with a reduction; REDS copies
the value or the index of the engine's latest reduction to sd, and waits for no busy chain: there it is a fault. -/
def Obligations.VectorRunsStart : Prop :=
  (∀ (s : State) (x : Issue) (e slot src : Nat) (rSrc rDst rRed : RegSpec) (len rmode : Nat), x.core < 256 → x.svc = false →
    s.canIssue x = true → e < 4 → (atIssue s x).mutedAt (s.issueTick x) = false → (atIssue s x).abortedAt (s.issueTick x) = false →
    (let k := (atIssue s x).core x.core
     let p : RunPlan := { engs := [e], word := Assoc.get identityWord k.cslots slot, src := src, rSrc := k.reg rSrc,
                          rDst := k.outReg rDst, rRed := k.outReg rRed, len := if len = 0 then 2048 else len, lenField := len,
                          rmode := rmode }
     p.fault k (s.issueTick x) = none) →
    ∃ t : State, exec (.vrun x (BitVec.ofNat 4 (2 ^ e)) slot src rSrc rDst rRed len rmode) s = .next t ∧
      (∃ v : VRun, ((t.core x.core).engine e).vruns = (((atIssue s x).core x.core).engine e).vruns ++ [v] ∧ v.issue = s.issueTick x ∧
        v.word = Assoc.get identityWord ((atIssue s x).core x.core).cslots slot ∧ v.rmode = rmode ∧ v.bubble = false ∧
        v.doneAt = s.issueTick x + (if len = 0 then 2048 else len) + 8 + (if rmode = 0 then 0 else 2)) ∧
      (∀ d, d < 4 → d ≠ e → (t.core x.core).engine d = ((atIssue s x).core x.core).engine d) ∧
      (t.core x.core).sregs = ((atIssue s x).core x.core).sregs ∧ (t.core x.core).spad = ((atIssue s x).core x.core).spad ∧
      t.mem = (atIssue s x).mem ∧ t.regs = (atIssue s x).regs) ∧
  (∀ (s : State) (x : Issue) (sd : RegSpec) (e : Nat) (which : Bool), x.core < 256 → x.svc = false → s.canIssue x = true → sd.toNat < 32 →
    (atIssue s x).mutedAt (s.issueTick x) = false → (((atIssue s x).core x.core).engine e).vBusyUntil ≤ s.issueTick x →
    ∃ t : State, exec (.reds x sd e which) s = .next t ∧
      (t.core x.core).agenda = ((atIssue s x).core x.core).agenda ++ [(s.issueTick x, .sreg x.queue sd.toNat
        ((if which then (((atIssue s x).core x.core).engine e).resIdx else (((atIssue s x).core x.core).engine e).resVal) % 2 ^ 64))] ∧
      (t.core x.core).engines = ((atIssue s x).core x.core).engines ∧ t.mem = (atIssue s x).mem ∧ t.regs = (atIssue s x).regs) ∧
  (∀ (s : State) (x : Issue) (sd : RegSpec) (e : Nat) (which : Bool), x.core < 256 → x.svc = false → s.canIssue x = true →
    s.issueTick x = s.frame.now → s.frame.abortTick = none → s.frame.fromStart = false → s.frame.first = none →
    s.frame.now < ((s.core x.core).engine e).vBusyUntil →
    ∃ t : State, exec (.reds x sd e which) s = .next t ∧
      t.frame.first.map (fun f => (f.cause, f.unit, f.detail)) = some (0x02, e, 0x80000002) ∧
      (t.core x.core).agenda = (s.core x.core).agenda)

/-- R138, R140: a cell of a pass on two INT8 operands becomes its bank plus the exact sum of its block's products, clamped to -2^31 and 2^31 - 1; a clamp
raises SAT and no other flag, and no clamp raises none. -/
def Obligations.IntegerCellsSaturate : Prop :=
  (∀ (p : Pass) (i j k0 k1 bank : Nat), p.fmtA = 10 → p.fmtB = 10 → i < 32 → j < 32 → k0 ≤ k1 → k1 ≤ k0 + 32 → bank < 2 ^ 32 →
    let place := cellPlace p.split i j
    let base := place.1 * blockLines 10 p.split (passK p.kt 8)
    let dot : Int := ((List.range (k1 - k0)).map fun n =>
      signedOf (elementBits 10 p.split 8 p.dataA base place.2.1 (k0 + n)) 8 *
        signedOf (elementBits 10 p.split 8 p.dataB base place.2.2 (k0 + n)) 8).sum
    cellStep p i j k0 k1 bank = bankAddInt bank dot) ∧
  (∀ (bank : Nat) (s : Int), bank < 2 ^ 32 →
    signedOf (bankAddInt bank s).1 32 = max (-(2 ^ 31)) (min (2 ^ 31 - 1) (signedOf bank 32 + s)) ∧ (bankAddInt bank s).1 < 2 ^ 32 ∧
    ((bankAddInt bank s).2 = 0 ↔ -(2 ^ 31) ≤ signedOf bank 32 + s ∧ signedOf bank 32 + s ≤ 2 ^ 31 - 1) ∧
    ((bankAddInt bank s).2 = 0 ∨ (bankAddInt bank s).2 = fSAT))

/-- R134, R137: FP32 bits that are no NaN keep their value exactly: their value rounded to FP32 gives the same bits, with no flag, for every sign, zero, subnormal,
normal number and infinity. -/
def Obligations.FP32RoundsItsOwnValuesToThemselves : Prop :=
  ∀ b : Nat, b < 2 ^ 32 → fp32 b ≠ .nan → toFP32 (fp32 b) = (b, 0)

/-- R171, R172, R173: a DMA whose descriptor passes its checks makes its idle channel ready to move LEN × COUNT bytes in pieces of g bytes, and its DONE field counts one signal (R92); sides of unequal size are
a MISALIGNED fault with check number 2 in DETAIL, and the work runs as a bubble (R382). R175: one with a remote source asks for its
bytes in the next slot of its request route. R158, R173: a channel's next piece from memory into the core's own scratchpad arrives at memory REQ ticks on and lands RD ticks on, and the channel goes on to the
piece after it; one from the scratchpad to memory is ordered at REQ and lands at WR. -/
def Obligations.DmaChecksItsDescriptorAndTicks : Prop :=
  (∀ (s : State) (x : Issue) (ch done desc : Nat) (a b : DmaSide), x.core < 256 → x.svc = false → s.canIssue x = true →
    (atIssue s x).mutedAt (s.issueTick x) = false → spadBad ((atIssue s x).core x.core) (32 * desc) 32 = false →
    a = ((atIssue s x).core x.core).sideOf (leAt (spadBytes ((atIssue s x).core x.core) (32 * desc) 32) 0 8)
      (leAt (spadBytes ((atIssue s x).core x.core) (32 * desc) 32) 8 8) →
    b = ((atIssue s x).core x.core).sideOf (leAt (spadBytes ((atIssue s x).core x.core) (32 * desc) 32) 16 8)
      (leAt (spadBytes ((atIssue s x).core x.core) (32 * desc) 32) 24 8) →
    (atIssue s x).dmaFault x.core ch a b = none → ((atIssue s x).core x.core).channelBusy ch (s.issueTick x) = false →
    ((atIssue s x).core x.core).keyBusy ch (s.issueTick x) = false → a.remote = false →
    ∃ t : State, exec (.dma x ch done desc) s = .next t ∧ (t.queue x).sigs = ((atIssue s x).queue x).sigs + 1 ∧
      ((t.core x.core).channel ch).src = a ∧ ((t.core x.core).channel ch).dst = b ∧
      ((t.core x.core).channel ch).total = a.len * a.count / pieceSize a b ∧ ((t.core x.core).channel ch).size = pieceSize a b ∧
      ((t.core x.core).channel ch).next = 0 ∧ ((t.core x.core).channel ch).landed = 0 ∧ ((t.core x.core).channel ch).done = done ∧
      ((t.core x.core).channel ch).bubble = false ∧
      (∀ c, c ≠ ch → (t.core x.core).channel c = ((atIssue s x).core x.core).channel c) ∧
      (t.core x.core).spad = ((atIssue s x).core x.core).spad ∧ (t.core x.core).sregs = ((atIssue s x).core x.core).sregs ∧
      t.mem = (atIssue s x).mem ∧ t.regs = (atIssue s x).regs) ∧
  (∀ (s : State) (x : Issue) (ch done desc : Nat) (a b : DmaSide), x.core < 256 → x.svc = false → s.canIssue x = true →
    s.issueTick x = s.frame.now → s.frame.abortTick = none → s.frame.fromStart = false → s.frame.first = none →
    spadBad (s.core x.core) (32 * desc) 32 = false →
    a = (s.core x.core).sideOf (leAt (spadBytes (s.core x.core) (32 * desc) 32) 0 8) (leAt (spadBytes (s.core x.core) (32 * desc) 32) 8 8) →
    b = (s.core x.core).sideOf (leAt (spadBytes (s.core x.core) (32 * desc) 32) 16 8) (leAt (spadBytes (s.core x.core) (32 * desc) 32) 24 8) →
    a.rsv = 0 → b.rsv = 0 → b.prio = 0 → a.space ≠ 3 → b.space ≠ 3 → a.xlate = false → b.xlate = false →
    a.len * a.count ≠ b.len * b.count →
    ∃ t : State, exec (.dma x ch done desc) s = .next t ∧
      t.frame.first.map (fun f => (f.cause, f.unit, f.detail)) = some (0x10, ch, 0x20000000 + a.base % 2 ^ 28) ∧
      ((t.core x.core).channel ((s.core x.core).freeKey ch s.frame.now)).bubble = true ∧
      (t.core x.core).agenda = (s.core x.core).agenda) ∧
  (∀ (s : State) (x : Issue) (ch done desc r : Nat) (a b : DmaSide), x.core < 256 → x.svc = false → s.canIssue x = true → ch < 16 →
    (atIssue s x).mutedAt (s.issueTick x) = false → spadBad ((atIssue s x).core x.core) (32 * desc) 32 = false →
    a = ((atIssue s x).core x.core).sideOf (leAt (spadBytes ((atIssue s x).core x.core) (32 * desc) 32) 0 8)
      (leAt (spadBytes ((atIssue s x).core x.core) (32 * desc) 32) 8 8) →
    b = ((atIssue s x).core x.core).sideOf (leAt (spadBytes ((atIssue s x).core x.core) (32 * desc) 32) 16 8)
      (leAt (spadBytes ((atIssue s x).core x.core) (32 * desc) 32) 24 8) →
    (atIssue s x).dmaFault x.core ch a b = none → ((atIssue s x).core x.core).channelBusy ch (s.issueTick x) = false →
    ((atIssue s x).core x.core).keyBusy ch (s.issueTick x) = false → a.remote = true →
    channelRoute (atIssue s x).activeImage x.core ch = some r →
    ∃ (t : State) (q : SendSt), exec (.dma x ch done desc) s = .next t ∧ (t.core x.core).sending (r + 4096 * (1 + ch)) = some q ∧
      q.count = 1 ∧ q.fixed.isSome = true ∧ q.hold = false ∧
      q.slot = nextSlot ((atIssue s x).route r).posMask ((atIssue s x).frame.start + s.issueTick x + 8) ∧
      ((t.core x.core).channel ch).total = a.len * a.count / pieceSize a b ∧ ((t.core x.core).channel ch).landed = 0 ∧
      ((t.core x.core).channel ch).next = ((t.core x.core).channel ch).total ∧ t.mem = (atIssue s x).mem ∧
      t.regs = (atIssue s x).regs) ∧
  (∀ (s u : State) (c ch t : Nat), c < 256 → s.frame.phase = .inFrame → (s.core c).pieceTick = some t → u = s.advance t →
    (u.core c).pickChannel t = some ch → ((u.core c).channel ch).src.space = 0 → ((u.core c).channel ch).src.remote = false →
    ((u.core c).channel ch).src.xlate = false → ((u.core c).channel ch).dst.space = 1 →
    inMemory (((u.core c).channel ch).src.byteAt (((u.core c).channel ch).next * ((u.core c).channel ch).size)) ((u.core c).channel ch).size = true →
    ∃ (v : State) (p : Piece), exec (.dmaPiece c) s = .next v ∧ (v.core c).pieces = (u.core c).pieces ++ [p] ∧ p.ch = ch ∧
      p.index = ((u.core c).channel ch).next ∧ p.len = ((u.core c).channel ch).size ∧ p.toMem = false ∧
      p.phys = some (((u.core c).channel ch).src.byteAt (((u.core c).channel ch).next * ((u.core c).channel ch).size)) ∧
      p.arriveAt = some (t + u.reqTicks (u.nearMem c (((u.core c).channel ch).src.byteAt
        (((u.core c).channel ch).next * ((u.core c).channel ch).size)))) ∧
      p.landAt = t + u.landTicks (u.nearMem c (((u.core c).channel ch).src.byteAt
        (((u.core c).channel ch).next * ((u.core c).channel ch).size))) false ∧
      ((v.core c).channel ch).next = ((u.core c).channel ch).next + 1 ∧ (v.core c).spad = (u.core c).spad ∧ v.mem = u.mem ∧
      v.regs = u.regs) ∧
  (∀ (s u : State) (c ch t : Nat), c < 256 → s.frame.phase = .inFrame → (s.core c).pieceTick = some t → u = s.advance t →
    (u.core c).pickChannel t = some ch → ((u.core c).channel ch).src.space = 1 → ((u.core c).channel ch).dst.space = 0 →
    ((u.core c).channel ch).dst.remote = false → ((u.core c).channel ch).dst.xlate = false →
    inMemory (((u.core c).channel ch).dst.byteAt (((u.core c).channel ch).next * ((u.core c).channel ch).size)) ((u.core c).channel ch).size = true →
    ∃ (v : State) (p : Piece), exec (.dmaPiece c) s = .next v ∧ p ∈ (v.core c).pieces ∧ p.ch = ch ∧ p.toMem = true ∧ p.index = ((u.core c).channel ch).next ∧
      p.phys = some (((u.core c).channel ch).dst.byteAt (((u.core c).channel ch).next * ((u.core c).channel ch).size)) ∧
      p.landAt = t + u.landTicks (u.nearMem c (((u.core c).channel ch).dst.byteAt
        (((u.core c).channel ch).next * ((u.core c).channel ch).size))) true ∧ v.mem = u.mem)

/-- R157, R159, R164: a walk with a kept entry places its piece at the entry's page or is the fault that the entry's checks give; a piece that moves nothing arrives without a
byte moved; a burst within its budgets and written to memory takes its place among the accesses of its tick,
which go by logical core, channel and piece, the service plane's last. -/
def Obligations.WalksAndArrivals : Prop :=
  (∀ (s u : State) (c t pt v e phys : Nat) (p : Piece), c < 256 → s.frame.phase = .inFrame → leastSome ((s.core c).pieces.map (·.walkAt)) = some t →
    u = s.advance t → (u.core c).pieceAt (·.walkAt) t = some p → p.virt = some (pt, v) → p.dead = false → u.mutedAt t = false →
    ptIndexOk pt v = true → ((u.core c).channel p.ch).kept = some (pt, v / 2 ^ 14, e) → ptCheck pt v e p.toMem = .inl phys →
    exec (.pageTableWalk c) s = .next (u.setCore c ((u.core c).setPiece
      { p with walkAt := none, phys := some phys, arriveAt := some (t + u.reqTicks (u.nearMem c phys)),
               landAt := t + u.landTicks (u.nearMem c phys) p.toMem }))) ∧
  (∀ (s u : State) (c t pt v e cause : Nat) (p : Piece), c < 256 → s.frame.phase = .inFrame → leastSome ((s.core c).pieces.map (·.walkAt)) = some t →
    u = s.advance t → (u.core c).pieceAt (·.walkAt) t = some p → p.virt = some (pt, v) → p.dead = false → u.mutedAt t = false →
    ptIndexOk pt v = true → ((u.core c).channel p.ch).kept = some (pt, v / 2 ^ 14, e) → ptCheck pt v e p.toMem = .inr cause →
    u.frame.phase = .inFrame → u.frame.first = none →
    ∃ w : State, exec (.pageTableWalk c) s = .next w ∧
      w.frame.first.map (fun f => (f.cause, f.unit, f.detail)) = some (cause, p.ch % 16, v % 2 ^ 32)) ∧
  (∀ (s u : State) (c t : Nat) (p : Piece), c < 256 → s.frame.phase = .inFrame → leastSome ((s.core c).pieces.map (·.arriveAt)) = some t →
    u = s.advance t → (u.core c).pieceAt (·.arriveAt) t = some p → p.dead = true → p.phys = none →
    exec (.burstArrival c) s = .next (u.setCore c ((u.core c).setPiece { p with arriveAt := none, performed := true }))) ∧
  (∀ (s u : State) (c t a : Nat) (p : Piece), c < 256 → s.frame.phase = .inFrame → leastSome ((s.core c).pieces.map (·.arriveAt)) = some t →
    u = s.advance t → (u.core c).pieceAt (·.arriveAt) t = some p → p.dead = false → p.phys = some a → p.toMem = true → p.len = 64 →
    u.mutedAt t = false → u.mem.arrivals = [] → a / dieBytes = u.dieOfCore c → 1 ≤ u.rget MEM_BUDGET.STACK16 → 1 ≤ u.rget MEM_BUDGET.PC64 →
    ∃ w : State, exec (.burstArrival c) s = .next w ∧
      w.mem.sched = insertAcc { off := a, tweak := p.tag, bytes := p.data, core := c, ch := p.ch, index := p.index, pc := p.pc } u.mem.sched ∧
      w.mem.cells = u.mem.cells) ∧
  (∀ a b : SchedAcc, a.svc = false → (b.svc = true ∨ a.core < b.core ∨ (a.core = b.core ∧ a.ch % 16 < b.ch % 16) ∨
      (a.core = b.core ∧ a.ch % 16 = b.ch % 16 ∧ a.index < b.index)) →
    insertAcc a [b] = [a, b] ∧ insertAcc b [a] = [a, b])

/-- R90, R158, R173: a piece's landing counts it and hands its bytes to the destination's scratchpad; the channel's last one signals DONE. -/
def Obligations.DmaPieceLands : Prop :=
  ∀ (s u : State) (c t : Nat) (p : Piece), c < 256 → s.frame.phase = .inFrame → leastSome ((s.core c).pieces.map Piece.landing) = some t →
    u = s.advance t → (u.core c).pieceAt Piece.landing t = some p → p.performed = true → p.dead = false → p.dstCore = some c →
    ((u.core c).channel p.ch).bubble = false →
    ∃ v : State, exec (.dmaPieceLanding c) s = .next v ∧ ((v.core c).channel p.ch).landed = ((u.core c).channel p.ch).landed + 1 ∧
      (v.core c).pieces = (u.core c).pieces.filter (fun q => ¬ (q.ch = p.ch ∧ q.index = p.index)) ∧
      ((v.core c).writes.getLast?.map fun w => (w.tick, w.addr, w.bytes)) = some (t, p.dstAddr, p.data) ∧
      (v.core c).agenda = (u.core c).agenda ++
        (if ((u.core c).channel p.ch).landed + 1 = ((u.core c).channel p.ch).total
         then [(t, .tokenAdd 3 ((u.core c).channel p.ch).pc ((u.core c).channel p.ch).done 1)] else []) ∧
      v.mem = u.mem ∧ v.regs = u.regs

/-- R90, R207, R243: a SEND on an idle route takes its slots, from the first owned position at least 8 ticks on, and a SEND that is in its last slot keeps that slot; a RECV arms its idle route;
the DONE field of each counts one signal (R92); a SEND's credit is taken at
the end of its tick, or its absence is CREDIT_ABSENT; a CGIVE adds to the pending count, or is TOKEN_OVERFLOW past 255, where it stands at
255. -/
def Obligations.TransportInstructions : Prop :=
  (∀ (s : State) (x : Issue) (r : Nat) (rA : RegSpec) (count pool done : Nat), x.core < 256 → x.svc = false → s.canIssue x = true → pool < 15 →
    (atIssue s x).mutedAt (s.issueTick x) = false →
    (atIssue s x).sendFault ((atIssue s x).core x.core) r (((atIssue s x).core x.core).reg rA) count (s.issueTick x) = none →
    ((atIssue s x).core x.core).sendBusy r ((atIssue s x).frame.start + s.issueTick x) = false →
    ∃ (t : State) (y : SendSt), exec (.send x r rA count pool done) s = .next t ∧ (t.queue x).sigs = ((atIssue s x).queue x).sigs + 1 ∧
      (t.core x.core).sending r = some y ∧ y.count = count ∧
      y.sent = 0 ∧ y.done = done ∧ y.hold = false ∧ y.line = (((atIssue s x).core x.core).reg rA).toNat ∧
      y.slot = nextSlot ((atIssue s x).route r).posMask ((atIssue s x).frame.start + s.issueTick x + 8) ∧
      (t.core x.core).agenda = ((atIssue s x).core x.core).agenda ++
        [(s.issueTick x, .creditTake x.queue ((atIssue s x).queue x).pc pool)] ∧
      (∀ last, ((atIssue s x).core x.core).sending r = some last →
        (t.core x.core).sending (((atIssue s x).core x.core).earlierPlace r) = some last) ∧
      (∀ q, q ≠ r → q ≠ ((atIssue s x).core x.core).earlierPlace r → (t.core x.core).sending q = ((atIssue s x).core x.core).sending q) ∧
      (t.core x.core).spad = ((atIssue s x).core x.core).spad ∧ t.mem = (atIssue s x).mem ∧ t.regs = (atIssue s x).regs) ∧
  (∀ (s : State) (x : Issue) (r : Nat) (rA : RegSpec) (count done : Nat), x.core < 256 → x.svc = false → s.canIssue x = true →
    (atIssue s x).mutedAt (s.issueTick x) = false → ((atIssue s x).route r).twin = false →
    streamFault (((atIssue s x).core x.core).reg rA) ((atIssue s x).flitCap ((atIssue s x).route r).inPort) count = none →
    ((atIssue s x).core x.core).recvBusy r (s.issueTick x) = false →
    ∃ (t : State) (y : RecvSt), exec (.recv x r rA count done) s = .next t ∧ (t.queue x).sigs = ((atIssue s x).queue x).sigs + 1 ∧
      (t.core x.core).receiving r = some y ∧ y.count = count ∧ y.done = done ∧
      y.bubble = false ∧ y.next = 0 ∧ y.busyUntil = none ∧ y.line = (((atIssue s x).core x.core).reg rA).toNat ∧
      (∀ q, q ≠ r → (t.core x.core).receiving q = ((atIssue s x).core x.core).receiving q) ∧
      (t.core x.core).spad = ((atIssue s x).core x.core).spad ∧ t.mem = (atIssue s x).mem ∧ t.regs = (atIssue s x).regs) ∧
  (∀ (s : State) (x : Issue) (r pool n : Nat), x.core < 256 → x.svc = false → s.canIssue x = true →
    (atIssue s x).mutedAt (s.issueTick x) = false → Assoc.get 0 ((atIssue s x).core x.core).pendCredits (16 * r + pool) + n ≤ 255 →
    ∃ t : State, exec (.cgive x r pool n) s = .next t ∧
      (t.core x.core).agenda = ((atIssue s x).core x.core).agenda ++ [(s.issueTick x, .pendCredit r pool n)] ∧
      (t.core x.core).pendCredits = ((atIssue s x).core x.core).pendCredits ∧ t.mem = (atIssue s x).mem ∧ t.regs = (atIssue s x).regs) ∧
  (∀ (s : State) (x : Issue) (r pool n : Nat), x.core < 256 → x.svc = false → s.canIssue x = true → s.issueTick x = s.frame.now →
    s.frame.abortTick = none → s.frame.fromStart = false → s.frame.first = none → pool < 16 →
    255 < Assoc.get 0 (s.core x.core).pendCredits (16 * r + pool) + n →
    ∃ t : State, exec (.cgive x r pool n) s = .next t ∧ t.frame.first.map (fun f => (f.cause, f.detail)) = some (0x03, 2 ^ 30 + pool) ∧
      (t.core x.core).agenda = (s.core x.core).agenda ∧ Assoc.get 0 (t.core x.core).pendCredits (16 * r + pool) = 255) ∧
  (∀ (k : Core) (u q pc pool : Nat), q < 5 → k.agenda = [(u, .creditTake q pc pool)] →
    (0 < Assoc.get 0 k.credits pool →
      (k.checks u).faults.length = 0 ∧ Assoc.get 0 (k.applyAgenda u).credits pool = Assoc.get 0 k.credits pool - 1) ∧
    (Assoc.get 0 k.credits pool = 0 →
      (k.checks u).faults.map (fun f => (f.queue, f.pc, f.cause, f.detail)) = [(q, pc, 0x04, pool)] ∧
      (k.applyAgenda u).credits = k.credits))

/-- R153, R161: refresh and retraining move nothing that a program can see; the scrub counts its burst, records a granule at its 16th corrected error, and keeps an uncorrectable burst
as bad and recorded. R166, R167: a busy tracker that is not at its depth prefetches its next burst into the hub cache; a tracker without a hit for 2^IDLE_LOG2 ticks is freed, and one that was hit since stays. No byte of memory
changes. -/
def Obligations.MemoryControllerWorkAndTrackers : Prop :=
  (∀ (s : State) (stack : Nat), stack < 12 → exec (.refresh stack) s = .next s ∧ exec (.retrain stack) s = .next s) ∧
  (∀ (s : State) (stack b : Nat), stack < 12 → stackOf (64 * b) = stack → 64 * b < installed → s.mem.scrubbed + 1 < installed / 64 →
    exec (.patrolScrub stack b .clean) s = .next { s with mem := { s.mem with scrubbed := s.mem.scrubbed + 1 } }) ∧
  (∀ (s : State) (stack b : Nat), stack < 12 → stackOf (64 * b) = stack → 64 * b < installed → s.mem.scrubbed + 1 < installed / 64 →
    Assoc.get 0 s.mem.corrected (b / 256) = 15 →
    ∃ t : State, exec (.patrolScrub stack b .corrected) s = .next t ∧ t.rget MEM_ECC_LAST.VALID = 1 ∧ t.rget MEM_ECC_LAST.UE = 0 ∧
      t.rget MEM_ECC_LAST.STACK = stack ∧ t.mem.cells = s.mem.cells ∧ t.mem.badBursts = s.mem.badBursts ∧
      t = { s with mem := t.mem, regs := t.regs, raised := t.raised }) ∧
  (∀ (s : State) (stack b : Nat), stack < 12 → stackOf (64 * b) = stack → 64 * b < installed → s.mem.scrubbed + 1 < installed / 64 →
    ∃ t : State, exec (.patrolScrub stack b .uncorrectable) s = .next t ∧ b ∈ t.mem.badBursts ∧ t.rget MEM_ECC_LAST.UE = 1 ∧
      t.rget MEM_ECC_LAST.STACK = stack ∧ Assoc.get 0 t.mem.ueLive stack = Assoc.get 0 s.mem.ueLive stack + 1 ∧
      t.mem.cells = s.mem.cells ∧ t = { s with mem := t.mem, regs := t.regs, raised := t.raised }) ∧
  (∀ (s : State) (r k n : Nat), r < 288 → k < 64 → nextAhead (s.tracker r k) = some n → s.rget MEM_PF_CFG.ENABLE = 1 →
    (s.mem.badBursts.contains n = false →
      ∃ t : State, exec (.prefetch r k) s = .next t ∧ (Assoc.get [] t.mem.hub (hubSet n)).contains (n, (s.tracker r k).tweak) = true ∧
        t.mem.cells = s.mem.cells ∧ t = { s with mem := t.mem }) ∧
    (s.mem.badBursts.contains n = true →
      exec (.prefetch r k) s = .next (s.setTracker r k { s.tracker r k with ahead := (s.tracker r k).ahead ++ [n] }))) ∧
  (∀ (s : State) (r k : Nat), r < 288 → k < 64 → s.rget MEM_PF_CFG.ENABLE = 0 → exec (.prefetch r k) s = .next s) ∧
  (∀ (s : State) (r k : Nat), r < 288 → k < 64 → (s.tracker r k).busy = true →
    (s.tracker r k).lastHit + 2 ^ s.rget MEM_PF_CFG.IDLE_LOG2 ≤ s.gst →
    ∃ t : State, exec (.trackerIdle r k) s = .next t ∧ t.tracker r k = {} ∧
      (∀ q j, j < 64 → 64 * q + j ≠ 64 * r + k → t.tracker q j = s.tracker q j) ∧ t.mem.cells = s.mem.cells ∧ t = { s with mem := t.mem }) ∧
  (∀ (s : State) (r k : Nat), r < 288 → k < 64 → s.gst < (s.tracker r k).lastHit + 2 ^ s.rget MEM_PF_CFG.IDLE_LOG2 →
    exec (.trackerIdle r k) s = .next s)

/-- R162, R163, R165: PAGE_MAP of one page of a context that no slot binds zeroes the granule under the context's tweak and writes its entry; PAGE_UNMAP makes the entry invalid; PAGE_MOVE
copies the granule and points the entry at the copy. R66: a page command on a context that a slot binds writes no entry: its table write joins the open set. -/
def Obligations.PageCommands : Prop :=
  (∀ (s : State) (h : HostCmd) (id i g : Nat) (w : Bool), plainCmd s h cmdPageMap → s.commitOwns = false →
    h.a0 = id → h.a1 = i + (if w then 2 ^ 24 else 0) + 2 ^ 32 → h.a2 = g → h.a3 = 0 → h.a4 = 0 → id < 2 ^ 16 → i < 2 ^ 24 → g < 2 ^ 34 →
    (s.ctx id).field .state = 1 → s.unbindPending id = false → ptIndexOk ((s.ctx id).field .pt) (i * 2 ^ 14) = true →
    (g + 1) * 16384 ≤ installed → inReserved (g * 16384) 16384 = false → s.mem.badBursts = [] → s.mem.sched = [] →
    ∃ t : State, exec (.pageMap h) s = .next (t.reply h 0x28 0 0 0 0) ∧
      t.memNat (ptBase ((s.ctx id).field .pt) + 8 * i) 8 = 1 + (if w then 2 else 0) + g * 2 ^ 14 + id * 2 ^ 48 ∧
      (∀ x, x < 16384 → Assoc.get 0 t.mem.cells (g * 16384 + x) = 0) ∧
      (∀ b, b < 256 → t.tweakOf (256 * g + b) = ctxTweak id)) ∧
  (∀ (s : State) (h : HostCmd) (id i : Nat), plainCmd s h cmdPageUnmap → s.commitOwns = false →
    h.a0 = id → h.a1 = i + 2 ^ 32 → h.a3 = 0 → h.a4 = 0 → id < 2 ^ 16 → i < 2 ^ 24 → (s.ctx id).field .state = 1 →
    s.unbindPending id = false → ptIndexOk ((s.ctx id).field .pt) (i * 2 ^ 14) = true → s.mem.badBursts = [] → s.mem.sched = [] →
    ∃ t : State, exec (.pageUnmap h) s = .next (t.reply h 0x29 0 0 0 0) ∧ t.memNat (ptBase ((s.ctx id).field .pt) + 8 * i) 8 = 0) ∧
  (∀ (s : State) (h : HostCmd) (id i g : Nat), plainCmd s h cmdPageMove → s.commitOwns = false → h.a0 = id → h.a1 = i → h.a2 = g →
    id < 2 ^ 16 → i < 2 ^ 24 → g < 2 ^ 34 → (s.ctx id).field .state = 1 → s.unbindPending id = false →
    ptIndexOk ((s.ctx id).field .pt) (i * 2 ^ 14) = true → bitAt (s.memNat (ptBase ((s.ctx id).field .pt) + 8 * i) 8) 0 = true →
    (g + 1) * 16384 ≤ installed → inReserved (g * 16384) 16384 = false → s.mem.badBursts = [] → s.mem.sched = [] →
    s.tweakOf ((ptBase ((s.ctx id).field .pt) + 8 * i) / 64) = physTweak →
    (∀ b, b < 256 → s.tweakOf (256 * bitsOf (s.memNat (ptBase ((s.ctx id).field .pt) + 8 * i) 8) 14 34 + b) = ctxTweak id) →
    ∃ t : State, exec (.pageMove h) s = .next (t.reply h 0x2A 0 0 0 0) ∧
      t.memNat (ptBase ((s.ctx id).field .pt) + 8 * i) 8 =
        1 + (if bitAt (s.memNat (ptBase ((s.ctx id).field .pt) + 8 * i) 8) 1 then 2 else 0) + g * 2 ^ 14 + id * 2 ^ 48 ∧
      (∀ x, x < 16384 → Assoc.get 0 t.mem.cells (g * 16384 + x) =
        Assoc.get 0 s.mem.cells (bitsOf (s.memNat (ptBase ((s.ctx id).field .pt) + 8 * i) 8) 14 34 * 16384 + x))) ∧
  (∀ (s : State) (h : HostCmd) (id i : Nat), plainCmd s h cmdPageUnmap → s.commitOwns = false → h.a0 = id → h.a1 = i + 2 ^ 32 → h.a3 = 0 → h.a4 = 0 →
    id < 2 ^ 16 → i < 2 ^ 24 → (s.ctx id).field .state = 2 → s.unbindPending id = false → i < 2 ^ ptLog2 ((s.ctx id).field .pt) →
    ∃ t : State, exec (.pageUnmap h) s = .next (t.reply h 0x29 0 0 0 0) ∧ t.mem = s.mem ∧
      t.frame.openSet.writes = s.frame.openSet.writes ++
        [{ ctx := id, kind := 0, addr := ptBase ((s.ctx id).field .pt) + 8 * i, value := 0 }])

/-- R172, R174, R182, R300, R307: a DMA_COPY of sides of unequal size is MISALIGNED with check 2 in DETAIL; one that passes its checks takes the first free channel; a copy of 64 bytes from the host into memory has
written them when it completes, and answers OK with the count; it pauses while its function is no bus master. A copy through a context's table waits while the commit engine owns the descriptors. -/
def Obligations.ServiceDmaCopies : Prop :=
  (∀ (s : State) (h : HostCmd) (data : List Byte), plainCmd s h cmdDmaCopy → copyBadArg h = false →
    (s.copyOf h).src.rsv = 0 → (s.copyOf h).dst.rsv = 0 → (s.copyOf h).src.space ≠ 3 → (s.copyOf h).dst.space ≠ 3 →
    (s.copyOf h).src.xlate = false → (s.copyOf h).dst.xlate = false → (s.copyOf h).dst.prio = 0 →
    (s.copyOf h).src.size ≠ (s.copyOf h).dst.size →
    exec (.dmaCopy h data) s = .next (s.reply h 0x30 0x0B 2 0 0)) ∧
  (∀ (s : State) (h : HostCmd) (data : List Byte) (ch : Nat), plainCmd s h cmdDmaCopy → s.commitOwns = false → s.copyStatus h (s.copyOf h) = (0, 0) →
    s.gateShut (s.sideRegions (s.copyOf h).srcHost (s.copyOf h).src ++ s.sideRegions (s.copyOf h).dstHost (s.copyOf h).dst) = false →
    s.freeChannel = some ch → (s.copyOf h).srcHost = true →
    ∃ t : State, exec (.dmaCopy h data) s = .next t ∧ (Assoc.get ({} : SvcDma) t.mem.svcDma ch).busy = true ∧
      (Assoc.get ({} : SvcDma) t.mem.svcDma ch).src = (s.copyOf h).src ∧ (Assoc.get ({} : SvcDma) t.mem.svcDma ch).dst = (s.copyOf h).dst ∧
      (Assoc.get ({} : SvcDma) t.mem.svcDma ch).data = data.take (s.copyOf h).src.size ∧ t.mem.cells = s.mem.cells) ∧
  (∀ (s : State) (die ch a : Nat) (d : SvcDma), die < 2 → ch < 16 → d = Assoc.get ({} : SvcDma) s.mem.svcDma (16 * die + ch) → d.busy = true →
    d.waiting = [] → d.pkt = none → d.writing = false → d.status = 0 → d.moved = [] → s.mem.sched = [] → a + 64 ≤ installed → d.srcHost = true → d.dstHost = false → s.busMaster d.cmd.func = true →
    d.src.len = 64 → d.src.count = 1 → d.dst = { base := a, len := 64, count := 1 } → a % 64 = 0 → d.data.length = 64 →
    (∀ r, r < 288 → s.rget FAB_GATE.STATE r = 0) →
    ∃ t : State, exec (.serviceDmaCompletion die ch) s = .next (t.finish d.cmd cmdDmaCopy 0 0 64 0) ∧
      (∀ i, i < 64 → Assoc.get 0 t.mem.cells (a + i) = d.data.getD i 0) ∧ Assoc.get ({} : SvcDma) t.mem.svcDma (16 * die + ch) = {}) ∧
  (∀ (s : State) (h : HostCmd) (data : List Byte), copyReadsCtx h = true → s.commitOwns = true →
    ∃ t : State, exec (.dmaCopy h data) s = .next t ∧ t.frame.deferred = s.frame.deferred ++ [.dmaCopy h data] ∧ t = { s with plan := t.plan }) ∧
  (∀ (s : State) (die ch : Nat) (d : SvcDma), die < 2 → ch < 16 → d = Assoc.get ({} : SvcDma) s.mem.svcDma (16 * die + ch) → d.busy = true →
    d.pkt = none → d.writing = false → d.status = 0 → (d.srcHost = true ∨ d.dstHost = true) → s.busMaster d.cmd.func = false →
    exec (.serviceDmaCompletion die ch) s = .next s)

/-- R178, R179, R180, R182, R183, R202: CTX_CREATE gives a free ID the image's fields, with STATE 1, the function and the ID, and changes no other context; an ID in use is refused. CTX_SET
writes the selected words and, of a bound context, leaves the Commit bytes; CTX_DESTROY frees a context that no slot binds, and a bound one is BUSY. SRV_CTX_SEL latches a copy, and while the commit engine owns
the descriptors it waits, as the commands do. -/
def Obligations.ContextCommands : Prop :=
  (∀ (s : State) (h : HostCmd) (desc trail : List Byte) (id func : Nat), plainCmd s h cmdCtxCreate → s.commitOwns = false → h.a0 = id + func * 2 ^ 16 →
    0 < id → id < 2 ^ 16 → func < 256 → h.a2 = 0 → (s.ctx id).field .state = 0 → (newCtx id func desc []).ok id = true → badTopk desc 0x40 = false →
    ∃ t : State, exec (.ctxCreate h desc trail) s = .next (t.reply h 0x20 0 0 0 0) ∧ (t.ctx id).field .state = 1 ∧ (t.ctx id).field .id = id ∧
      (t.ctx id).field .func = func ∧ (t.ctx id).trail = 0 ∧
      (∀ k, 1 ≤ k → k < 16 → (t.ctx id).word k = imageWord desc k &&& ctxWordMask k) ∧ (∀ j, j ≠ id → t.ctx j = s.ctx j) ∧
      t = { s with regs := t.regs, srv := { s.srv with ctxs := t.srv.ctxs } }) ∧
  (∀ (s : State) (h : HostCmd) (desc trail : List Byte), plainCmd s h cmdCtxCreate → s.commitOwns = false → h.a0 < 2 ^ 24 →
    (s.ctx (h.a0 % 2 ^ 16)).field .state ≠ 0 → exec (.ctxCreate h desc trail) s = .next (s.reply h 0x20 0x04 0 0 0)) ∧
  (∀ (s : State) (h : HostCmd) (desc trail : List Byte) (id mask : Nat), plainCmd s h cmdCtxSet → s.commitOwns = false → s.trailBusy id = false →
    h.a0 = id + mask * 2 ^ 16 → 0 < id → id < 2 ^ 16 → mask < 2 ^ 16 → h.a2 = 0 → (s.ctx id).field .state = 1 → s.unbindPending id = false →
    ((s.ctx id).set mask desc false true).ok id = true → badTopk desc mask = false →
    ∃ t : State, exec (.ctxSet h desc trail) s = .next (t.reply h 0x21 0 0 0 0) ∧ (t.ctx id).trail = (s.ctx id).trail ∧
      (∀ k, 1 ≤ k → k < 15 → (t.ctx id).word k = if mask.testBit k then imageWord desc k &&& ctxWordMask k else (s.ctx id).word k) ∧
      (∀ j, j ≠ id → t.ctx j = s.ctx j) ∧ t = { s with srv := { s.srv with ctxs := t.srv.ctxs } }) ∧
  (∀ (s : State) (h : HostCmd) (desc trail : List Byte) (id mask : Nat), plainCmd s h { cmdCtxSet with inSet := true } → s.commitOwns = false →
    s.trailBusy id = false → h.a0 = id + mask * 2 ^ 16 → 0 < id → id < 2 ^ 16 → mask < 2 ^ 16 → h.a2 = 0 → (s.ctx id).field .state = 2 →
    s.unbindPending id = false → mask &&& 0x060C = 0 → ((s.ctx id).set mask desc true true).ok id = true → badTopk desc mask = false →
    ∃ t : State, exec (.ctxSet h desc trail) s = .next (t.reply h 0x21 0 0 0 0) ∧
      (∀ k, 1 ≤ k → k < 15 → (t.ctx id).word k &&& commitBits k = (s.ctx id).word k &&& commitBits k) ∧ t.frame.phase = s.frame.phase) ∧
  (∀ (s : State) (h : HostCmd) (id : Nat), plainCmd s h cmdCtxDestroy → s.commitOwns = false → s.trailBusy id = false → h.a0 = id → 0 < id → id < 2 ^ 16 →
    s.unbindPending id = false →
    ((s.ctx id).field .state = 1 → ∃ t : State, exec (.ctxDestroy h) s = .next (t.reply h 0x22 0 0 0 0) ∧ t.ctx id = {} ∧
      (∀ j, j ≠ id → t.ctx j = s.ctx j) ∧ t = { s with regs := t.regs, srv := { s.srv with ctxs := t.srv.ctxs } }) ∧
    ((s.ctx id).field .state = 2 → exec (.ctxDestroy h) s = .next (s.reply h 0x22 0x01 0 0 0))) ∧
  (∀ (s : State) (a : Agent) (id : Nat), s.bivouac = false → agentWrites a 0x401000 = true → id < 2 ^ 16 →
    (s.commitOwns = false → (∀ k, k < 16 → (s.ctx id).word k < 2 ^ 64) →
      ∃ t : State, exec (.srvCtxSel a id) s = .next t ∧ t.rget SRV_CTX_SEL.ID = id ∧
        t.rget SRV_CTX_SEL.VALID = (if (s.ctx id).field .state = 0 then 0 else 1) ∧
        (∀ k, k < 16 → t.rget SRV_CTX_DATA.DATA k = if id = 0 ∧ k = 11 then 2 ^ 64 - 1 else (s.ctx id).word k) ∧ t = { s with regs := t.regs }) ∧
    (s.commitOwns = true → ∃ t : State, exec (.srvCtxSel a id) s = .next t ∧ t.srv.ctxSelWait = true ∧
      (∀ k, k < 16 → t.rget SRV_CTX_DATA.DATA k = s.rget SRV_CTX_DATA.DATA k))) ∧
  (∀ (s : State) (h : HostCmd), s.commitOwns = true → ∃ t : State, exec (.ctxDestroy h) s = .next t ∧ t.frame.deferred = s.frame.deferred ++ [.ctxDestroy h] ∧
    t = { s with plan := t.plan })

/-- R192, R193, R198, R200, R265, R267, R268: a job reads its eight parameters at its start tick and its unit is busy; at its end tick the unit is free, its DONE is due and its commit entries are appended. A
Cairn lane's record comes 400 ticks a token after the decision: the trail folds it, the ring's entry at HEAD holds it and HEAD goes up. CAIRN_READ by index returns ring entries; AUD_TRAIL_SEL
latches a trail that has no pending record. -/
def Obligations.SelectionJobsAndCairnRecords : Prop :=
  (∀ (s : State) (u v : Nat), u < 16 → (s.selUnit u).run = none → (s.selUnit u).table[(s.selUnit u).next]? = some v → s.frame.phase = .inFrame →
    ∃ t : State, exec (.selectionJob u) s = .next t ∧
      (t.selUnit u).next = ((s.advance (jobOf v).tick).selUnit u).next + 1 ∧
      (t.selUnit u).run.map (·.entry) = some ((s.advance (jobOf v).tick).selUnit u).next ∧
      (t.selUnit u).run.map (·.params) =
        some ((List.range 8).map fun i => Assoc.get 0 ((s.advance (jobOf v).tick).core (16 * u + (jobOf v).core)).pLive ((jobOf v).preg + i)) ∧
      t.rget SRV_SEL_STATE.BUSY u = 1 ∧ t.cores = (s.advance (jobOf v).tick).cores ∧ t.mem = (s.advance (jobOf v).tick).mem) ∧
  (∀ (s : State) (u : Nat) (r : SelRun) (j : JobEntry), u < 16 → (s.selUnit u).run = some r → (s.selUnit u).job = some j → s.frame.phase = .inFrame →
    ((s.advance (j.tick + j.ticks - 1)).selUnit u).run = some r → r.bubble = false → (s.advance (j.tick + j.ticks - 1)).mutedAt (j.tick + j.ticks - 1) = false →
    ∃ t : State, exec (.selectionJobResult u) s = .next t ∧ (t.selUnit u).run = none ∧ t.rget SRV_SEL_STATE.BUSY u = 0 ∧
      (t.core (16 * u + j.core)).agenda = ((s.advance (j.tick + j.ticks - 1)).core (16 * u + j.core)).agenda ++
        [(j.tick + j.ticks - 1, .tokenAdd 7 0xFFFFFFFF j.done 1)] ∧
      t.frame.commits = (s.advance (j.tick + j.ticks - 1)).frame.commits ++
        (if j.commit then (commitEntries r j (selCtx r.params) (r.outcome j (selCtx r.params)) u).map fun e => (256 * u + r.entry, e) else [])) ∧
  (∀ (s : State) (lane : Nat) (k : CairnTok), lane < 16 → (s.srv.cairn.find? fun t => t.lane = lane) = some k → k.decided + 400 * (k.order + 1) - 1 ≤ s.gst →
    s.frame.deferred = [] → s.srv.trailSelWait = false →
    ∃ t : State, exec (.cairnRecord lane) s = .next t ∧ (t.ctx k.ctx).trail = foldTrail (s.ctx k.ctx).trail (cairnRecord k (s.ctx k.ctx).trail) ∧
      Assoc.get 0 t.srv.ring (s.rget AUD_HEAD.HEAD) = natOfBytes (ringEntry k (cairnRecord k (s.ctx k.ctx).trail)) ∧
      t.rget AUD_HEAD.HEAD = (s.rget AUD_HEAD.HEAD + 1) % 65536 ∧ k ∉ t.srv.cairn ∧ (∀ j, j ≠ k.ctx → t.ctx j = s.ctx j) ∧
      t = { s with regs := t.regs, raised := t.raised, srv := t.srv }) ∧
  (∀ (s : State) (lane : Nat), lane < 16 → (∀ k ∈ s.srv.cairn, k.lane = lane → s.gst < k.decided + 400 * (k.order + 1) - 1) →
    exec (.cairnRecord lane) s = .next s) ∧
  (∀ (s : State) (h : HostCmd) (i n : Nat), plainCmd s h cmdCairnRead → h.a0 = 2 ^ 16 → h.a1 = i → h.a2 = n → i < 65536 → n ≤ 65536 →
    ∃ t : State, exec (.cairnRead h) s = .next (t.reply h 0x39 0 0 n 0) ∧
      t = { s with out := s.out ++ [.hostWrite 0 h.a3 ((List.range n).flatMap fun k => bytesOf (Assoc.get 0 s.srv.ring ((i + k) % 65536)) 64)] }) ∧
  (∀ (s : State) (a : Agent) (id : Nat), s.bivouac = false → agentWrites a 0x800100 = true → id < 2 ^ 16 →
    (s.trailBusy id = false → (s.ctx id).trail < 2 ^ 256 →
      ∃ t : State, exec (.audTrailSel a id) s = .next t ∧ t.rget AUD_TRAIL_SEL.VALID = (if (s.ctx id).field .state = 0 then 0 else 1) ∧
        (s.ctx id).trail = t.rget AUD_TRAIL.DATA 0 + 2 ^ 64 * t.rget AUD_TRAIL.DATA 1 + 2 ^ 128 * t.rget AUD_TRAIL.DATA 2 + 2 ^ 192 * t.rget AUD_TRAIL.DATA 3 ∧
        t = { s with regs := t.regs, srv := { s.srv with trailSelWait := false } }) ∧
    (s.trailBusy id = true → ∃ t : State, exec (.audTrailSel a id) s = .next t ∧ t.srv.trailSelWait = true ∧
      (∀ k, k < 4 → t.rget AUD_TRAIL.DATA k = s.rget AUD_TRAIL.DATA k) ∧ t = { s with regs := t.regs, srv := { s.srv with trailSelWait := true } }))

/-- R208 to R214, R224, R226, R227, R236: bring-up goes MARKER, DESKEW, BLOCK, EQ, PARAM, DELAY, UP as its lanes' markers and blocks and its sets come, and fails with cause 8 at its time limit or with lanes that are too far apart; lane and
block losses, a TS1 and a RESET take an UP port down, the first kinds to RELOCK with its service flits kept, RESET to a flush and a new bring-up; LINK_RESET takes the port through a flush; ENABLE = 0 disables
it. A set with a bad CRC is only counted. -/
def Obligations.PortsComeUpAndGoDown : Prop :=
  (∀ (s : State) (p lane rx n ps : Nat), p < 18 → lane < 4 →
    (markerLock rx n (markerSpan (Nat.max 1 (laneCount (s.port p).lanes))) = none → exec (.markerLock p lane rx n ps) s = .next s) ∧
    (∀ (l : Nat) (inv : Bool) (x : Port), markerLock rx n (markerSpan (Nat.max 1 (laneCount (s.port p).lanes))) = some (l, inv) →
      x = (s.port p).lockLane lane l inv ps →
      (s.rget KL_PORT_STATUS.STATE p = 1 →
        exec (.markerLock p lane rx n ps) s = .next (if x.allLocked x.lanes then (s.setPort p x).rset KL_PORT_STATUS.STATE p 2 else s.setPort p x)) ∧
      (s.rget KL_PORT_STATUS.STATE p = 2 → x.skew ≤ 64000 →
        ∃ t : State, exec (.markerLock p lane rx n ps) s = .next t ∧ t.rget KL_PORT_STATUS.STATE p = 3 ∧
          t.rget KL_PORT_STATUS.LANE_MAP p = x.laneMap % 256 ∧ t.rget KL_PORT_STATUS.POLARITY p = x.inverted % 16 ∧ t.port p = x ∧
          (∀ q, q ≠ p → t.port q = s.port q) ∧ t = { s with regs := t.regs, ports := t.ports }) ∧
      (s.rget KL_PORT_STATUS.STATE p = 2 → 64000 < x.skew → x.linkCmd = none →
        ∃ t : State, exec (.markerLock p lane rx n ps) s = .next t ∧ t.rget KL_PORT_STATUS.STATE p = 0 ∧ t.rget KL_PORT_STATUS.DOWN_CAUSE p = 8))) ∧
  (∀ (s : State) (p cause : Nat) (c : Instr), p < 18 → s.rget KL_PORT_STATUS.STATE p = 7 → s.frame.phase ≠ .inFrame →
    ((∃ headers, c = .blockLockLoss p headers ∧ cause = 2 ∧ (s.port p).block = true ∧ failsIn headers 64 16 = true) ∨ c = .noValidBlock p ∧ cause = 4 ∨
      ∃ lane syms, lane < 4 ∧ c = .markerLockLoss p lane syms ∧ cause = 1 ∧ (s.port p).locked.testBit lane = true ∧
        mismatchRun ((s.port p).markerOn lane) 4 syms = true ∧ (s.port p).lanes.testBit (Assoc.get 0 (s.port p).logical lane) = true) →
    ∃ t : State, exec c s = .next t ∧ t.rget KL_PORT_STATUS.STATE p = 8 ∧ t.rget KL_PORT_STATUS.DOWN_CAUSE p = cause ∧
      t.rget KL_PORT_STATUS.SCHED p = 0 ∧ t.rget KL_EVENT.LINK_DOWN p = 1 ∧ (t.port p).replay = (s.port p).replay.filter (fun e => isServiceFlit e.2) ∧
      t.out.getLast? = some (.orderedSet p (setBytes 0xF0 0 [(s.port p).lanes % 16 + Config.equaliser s.gst p % 2 ^ 56 * 2 ^ 8])) ∧
      (∀ q, q ≠ p → t.port q = s.port q)) ∧
  (∀ (s : State) (p lane : Nat) (syms : List Nat) (headers : List Bool), p < 18 → lane < 4 →
    (mismatchRun ((s.port p).markerOn lane) 4 syms = false → exec (.markerLockLoss p lane syms) s = .next s) ∧
    (failsIn headers 64 16 = false → exec (.blockLockLoss p headers) s = .next s)) ∧
  (∀ (s : State) (p rx n : Nat), p < 18 → s.rget KL_PORT_STATUS.STATE p = 3 →
    (blockLock rx n = true → exec (.blockLock p rx n) s = .next ((s.setPort p { s.port p with block := true }).rset KL_PORT_STATUS.STATE p 4)) ∧
    (blockLock rx n = false → exec (.blockLock p rx n) s = .next s)) ∧
  (∀ (s : State) (p a b : Nat) (m : Bool) (t2 : Ts2) (c : Instr), p < 18 →
    (c = .ts1 p a b m false ∨ c = .ts2 p t2 false ∨ c = .ping p a false ∨ (∃ d, c = .echo p a b d false) ∨ c = .resetSet p false) →
    exec c s = .next (s.portCount p 10)) ∧
  (∀ (s : State) (p a b : Nat) (m : Bool), p < 18 →
    (s.rget KL_PORT_STATUS.STATE p ≠ 7 → exec (.ts1 p a b m true) s = .next (s.setPort p { s.port p with txPreset := a, txCoeff := b, eyePeer := m })) ∧
    (s.rget KL_PORT_STATUS.STATE p = 7 → ∃ t : State, exec (.ts1 p a b m true) s = .next t ∧ t.rget KL_PORT_STATUS.STATE p = 8 ∧ t.rget KL_PORT_STATUS.SCHED p = 0 ∧
      (s.frame.phase ≠ .inFrame → t.rget KL_EVENT.LINK_DOWN p = 1))) ∧
  (∀ (s : State) (p : Nat) (failed : BitVec 4), p < 18 → s.rget KL_PORT_STATUS.STATE p = 4 →
    (∃ t : State, exec (.eqComplete p) s = .next t ∧ t.rget KL_PORT_STATUS.STATE p = 5 ∧ (t.port p).eyePeer = true ∧
      t = { s with regs := t.regs, ports := t.ports, out := t.out }) ∧
    (∃ t : State, exec (.eqTimeout p failed) s = .next t ∧ t.rget KL_PORT_STATUS.STATE p = 1 ∧ (t.port p).locked = 0 ∧
      (t.port p).dropped = (s.port p).dropped ||| failed.toNat ∧ (t.port p).lanes = widestIn (s.port p).allowed (15 - ((s.port p).dropped ||| failed.toNat)) ∧
      t = { s with regs := t.regs, ports := t.ports, out := t.out })) ∧
  (∀ (s : State) (p : Nat), p < 18 → s.rget KL_PORT_STATUS.STATE p = 1 → widestIn (s.port p).allowed ((s.port p).lockedSet &&& (15 - (s.port p).dropped)) ≠ 0 →
    ∃ t : State, exec (.markerNarrowing p) s = .next t ∧ t.rget KL_PORT_STATUS.STATE p = 2 ∧
      (t.port p).lanes = widestIn (s.port p).allowed ((s.port p).lockedSet &&& (15 - (s.port p).dropped)) ∧
      (t.port p).dropped = (s.port p).dropped ||| (15 - (t.port p).lanes) ∧ t = { s with regs := t.regs, ports := t.ports }) ∧
  (∀ (s : State) (p : Nat) (t2 : Ts2), p < 18 → s.rget KL_PORT_STATUS.STATE p = 5 →
    ((s.port p).ts2 ≠ some t2 → exec (.ts2 p t2 true) s = .next (s.setPort p { s.port p with ts2 := some t2, ts2Count := 1 })) ∧
    ((s.port p).ts2 = some t2 → (s.port p).ts2Count = 7 → widestIn (s.port p).allowed ((s.port p).lanes &&& t2.lanes) = 15 →
      bitsOf (s.port p).ctrl 2 1 = 0 → t2.enc = false → bitsOf (s.port p).ctrl 5 1 = t2.rate → t2.devValid = true → t2.dev < 2 ^ 14 → t2.port < 18 →
      ∃ t : State, exec (.ts2 p t2 true) s = .next t ∧ t.rget KL_PORT_STATUS.STATE p = 6 ∧ t.rget KL_PORT_STATUS.WIDTH p = 4 ∧
        t.rget KL_PORT_STATUS.RATE p = t2.rate ∧ t.rget KL_PORT_STATUS.ENC p = 0 ∧ t.rget KL_PORT_STATUS.PEER_ID p = t2.dev ∧
        t.rget KL_PORT_STATUS.PEER_PORT p = t2.port ∧ t.rget KL_PORT_STATUS.PEER_VALID p = 1)) ∧
  (∀ (s : State) (p q : Nat), p < 18 → s.rget KL_PORT_STATUS.STATE p = 7 → exec (.ping p q true) s = .next (s.emit (.orderedSet p (setBytes 0xF3 0 [q])))) ∧
  (∀ (s : State) (p rtt d : Nat), p < 18 → s.rget KL_PORT_STATUS.STATE p = 6 → (s.port p).echoes = 255 → (s.port p).linkCmd = none →
    ∃ t : State, exec (.echo p 255 rtt d true) s = .next t ∧ t.rget KL_PORT_STATUS.STATE p = 7 ∧ t.rget KL_EVENT.LINK_UP p = 1 ∧
      t.rget KL_PORT_DELAY.RTT p = Nat.min 4095 (Nat.max (s.port p).rttMax (rttTicks rtt)) ∧
      t.rget KL_PORT_DELAY.FIXED p = Nat.min 1023 (ceilDiv (Nat.max (s.port p).rttMax (rttTicks rtt)) 2) ∧
      (t.port p).rttUp = Nat.max (s.port p).rttMax (rttTicks rtt)) ∧
  (∀ (s : State) (p : Nat), p < 18 →
    (0 < s.rget KL_PORT_STATUS.STATE p → s.rget KL_PORT_STATUS.STATE p < 7 → (s.port p).linkCmd = none →
      ∃ t : State, exec (.bringUpTimeout p) s = .next t ∧ t.rget KL_PORT_STATUS.STATE p = 0 ∧ t.rget KL_PORT_STATUS.DOWN_CAUSE p = 8) ∧
    (s.rget KL_PORT_STATUS.STATE p = 0 → s.rget KL_PORT_CTRL.ENABLE p = 1 →
      ∃ t : State, exec (.bringUpRetry p) s = .next t ∧ t.rget KL_PORT_STATUS.STATE p = 1 ∧ (t.port p).locked = 0 ∧ (t.port p).key = s.rgr.linkKey) ∧
    (s.clk.wall < (s.port p).downAt + s.graceEdges p → exec (.graceExpiry p) s = .next s) ∧
    (s.rget KL_PORT_STATUS.STATE p = 8 → (s.port p).downAt + s.graceEdges p ≤ s.clk.wall → s.planUses p = false → (s.port p).unacked = [] → (s.port p).sending = none → (s.port p).queue = [] →
      ∃ t : State, exec (.graceExpiry p) s = .next t ∧ t.rget KL_PORT_STATUS.STATE p = 1 ∧ t.rget KL_EVENT.FLUSH p = 1 ∧ t.rget KL_SEQ.TX_NEXT p = 0 ∧
        t.rget KL_SEQ.RX_NEXT p = 0 ∧ (t.port p).replay = []) ∧
    (s.rget KL_PORT_STATUS.STATE p = 7 →
      ∃ t : State, exec (.resetSet p true) s = .next t ∧ t.rget KL_PORT_STATUS.STATE p = 1 ∧ t.rget KL_PORT_STATUS.DOWN_CAUSE p = 5 ∧ t.rget KL_EVENT.FLUSH p = 1)) ∧
  (∀ (s : State) (h : HostCmd), plainCmd s h cmdLinkReset →
    (18 ≤ h.a0 → exec (.linkReset h) s = .next (s.reply h 0x48 0x03 0 0 0)) ∧
    (h.a0 < 18 → s.running = true → s.planUses h.a0 = true → exec (.linkReset h) s = .next (s.reply h 0x48 0x04 0 0 0)) ∧
    (h.a0 < 18 → s.running = false → (s.port h.a0).linkCmd = none → s.rget KL_PORT_CTRL.ENABLE h.a0 = 1 →
      ∃ t : State, exec (.linkReset h) s = .next t ∧ t.rget KL_PORT_STATUS.STATE h.a0 = 1 ∧ t.rget KL_PORT_STATUS.DOWN_CAUSE h.a0 = 6 ∧
        (t.port h.a0).linkCmd = some h)) ∧
  (∀ (s : State) (a : Agent) (p v : Nat), p < 18 → s.bivouac = false → agentWrites a (0x300008 + 0x1000 * p) = true →
    (v % 2 = 0 → s.rget KL_PORT_STATUS.STATE p ≠ 9 →
      ∃ t : State, exec (.klPortCtrl a p v) s = .next t ∧ t.rget KL_PORT_STATUS.STATE p = 9 ∧ t.rget KL_PORT_CTRL.ENABLE p = 0) ∧
    (v % 2 = 1 → s.rget KL_PORT_STATUS.STATE p = 9 →
      ∃ t : State, exec (.klPortCtrl a p v) s = .next t ∧ t.rget KL_PORT_STATUS.STATE p = 1 ∧ t.rget KL_PORT_CTRL.ENABLE p = 1))

/-- R56, R207, R216 to R222, R70, R343, R366: between frames a verdict leaves in a scheduled slot of its port; a four-chip image's ring position in which nothing is due carries nothing; a slot carries a null flit where nothing else is to be sent, a Hold flit in every owned position in the fail-safe state, and the next service packet, whose flit takes the next
SEQ and stays in the replay buffer. A flit with a bad CRC is counted and otherwise ignored, a duplicate is counted, one in order moves RX_NEXT on. A missing SEQ is requested again, and the sixteenth request takes the link down. Held flits are released to their leaving slot; a flit that never came is a LATE_FLIT. A port that may spill moves its replay entries; after 2^39 flits the key slot switches. -/
def Obligations.FlitsAreSentReceivedAndReplayed : Prop :=
  (∀ (s : State) (p T : Nat), p < 18 → s.portUp p = true → (s.port p).slotTick = T → T ≤ s.gst → s.slotInFrame T = false →
    s.ringMode = false → s.rget KL_PORT_STATUS.SPILLING p = 0 → s.frame.verdicts = [] →
    (∀ r e, s.slotOwner p (T / 4 % 16) = some (r, e) → s.failSafe = false → s.frame.holdAfterStop = false →
      exec (.flitSlot p) s = .next ((s.setPort p { s.port p with slotTick := T + s.slotStep p }).sendNull p T)) ∧
    (∀ r e, s.slotOwner p (T / 4 % 16) = some (r, e) → s.failSafe = true →
      exec (.flitSlot p) s = .next ((s.setPort p { s.port p with slotTick := T + s.slotStep p }).sendSched p T true e.next 0 0 [])) ∧
    (s.slotOwner p (T / 4 % 16) = none → (s.port p).resend = [] → (s.port p).sending = none → (s.port p).queue = [] →
      exec (.flitSlot p) s = .next ((s.setPort p { s.port p with slotTick := T + s.slotStep p }).sendNull p T)) ∧
    (∀ k : Packet, s.slotOwner p (T / 4 % 16) = none → (s.port p).resend = [] → (s.port p).sending = some (k, packetFlits k (s.flitCap p) - 1) →
      1 < packetFlits k (s.flitCap p) → s.replayFull p = false →
      ∃ t : State, exec (.flitSlot p) s = .next t ∧ t.rget KL_SEQ.TX_NEXT p = (s.rget KL_SEQ.TX_NEXT p + 1) % 65536 ∧
        (Assoc.find (t.port p).replay (s.rget KL_SEQ.TX_NEXT p)).isSome = true ∧ (t.port p).sending = none ∧
        (t.port p).unacked = (s.port p).unacked ++ [(s.rget KL_SEQ.TX_NEXT p, k)])) ∧
  (∀ (s : State) (p T : Nat) (v : Verdict), p < 18 → s.portUp p = true → (s.port p).slotTick = T → T ≤ s.gst → s.slotInFrame T = false →
    s.ringMode = false → s.rget KL_PORT_STATUS.SPILLING p = 0 → s.frame.verdicts = [(p, v)] → (s.ownedMask p = 0 ∨ (s.ownedMask p).testBit (T / 4 % 16) = true) →
    ∃ t : State, exec (.flitSlot p) s = .next t ∧ t.out = s.out ++ [.verdict p v] ∧ t.frame = { s.frame with verdicts := [] } ∧
      (t.port p).slotTick = T + s.slotStep p ∧ t = { s with ports := t.ports, plan := t.plan, out := t.out }) ∧
  (∀ (s : State) (p r : Nat) (e : Route), p < 18 → s.ringMode = true → s.slotInFrame (s.port p).ringTick = true → (s.port p).ringTick ≤ s.gst →
    s.gst < (s.port p).slotTick → s.frame.now = (s.port p).ringTick - s.frame.start → 4 * ceilDiv s.frame.start 4 ≤ (s.port p).ringTick →
    (((List.range (routeCount s.activeImage)).map fun r => (r, routeEntry s.activeImage r)).find? fun e =>
      decide (e.2.kind = 1) && decide (e.2.outPort = p) && e.2.posMask.testBit ((s.port p).ringTick / 4 % 16)) = some (r, e) →
    e.mem = false → s.failSafe = false → s.frame.holdAfterStop = false → (s.core e.lcore).sends = [] →
    exec (.flitSlot p) s = .next (s.setPort p { s.port p with ringTick := (s.port p).ringTick + 4 })) ∧
  (∀ (s : State) (p cw bad : Nat) (raw : List Byte) (esc : Bool), p < 18 → s.portUp p = true → s.frame.phase ≠ .inFrame →
    (crc32c (raw.take 252) ≠ leAt raw 252 4 → exec (.flit p raw esc cw bad) s = .next ((s.countCodewords p cw bad).portCount p 2)) ∧
    (raw.length = 256 → crc32c (raw.take 252) = leAt raw 252 4 → bitsOf (leAt raw 0 12) 0 8 = 3 → bitsOf (leAt raw 0 12) 56 4 = 0 →
      (s.port p).seen = [bitsOf (leAt raw 0 12) 8 16] →
      ∃ t : State, exec (.flit p raw esc cw bad) s = .next t ∧ Assoc.get 0 (t.port p).live 5 = Assoc.get 0 (s.port p).live 5 + 1 ∧
        t.rget KL_SEQ.RX_NEXT p = s.rget KL_SEQ.RX_NEXT p ∧ t = { s with regs := t.regs, ports := t.ports }) ∧
    (raw.length = 256 → crc32c (raw.take 252) = leAt raw 252 4 → bitsOf (leAt raw 0 12) 0 8 = 3 → bitsOf (leAt raw 0 12) 8 16 = s.rget KL_SEQ.RX_NEXT p →
      s.rget KL_PORT_STATUS.ENC p = 0 → (s.port p).seen = [] → bitsOf (leAt raw 0 12) 77 1 = 1 → bitsOf (leAt raw 0 12) 78 1 = 0 → (s.port p).svcHeld = [] →
      ∃ t : State, exec (.flit p raw esc cw bad) s = .next t ∧ t.rget KL_SEQ.RX_NEXT p = (s.rget KL_SEQ.RX_NEXT p + 1) % 65536 ∧
        t.rget KL_SEQ.TX_ACKED p = bitsOf (leAt raw 0 12) 24 16 ∧
        (t.port p).asm = some (leAt raw 0 12 >>> 61, (raw.drop 12).take (s.flitCap p), esc) ∧
        Assoc.get 0 (t.port p).live 0 = Assoc.get 0 (s.port p).live 0 + cw ∧ Assoc.get 0 (t.port p).live 1 = Assoc.get 0 (s.port p).live 1 + bad)) ∧
  (∀ (s : State) (p q : Nat) (n : NakSt), p < 18 → ((s.port p).naks.find? fun n => decide (n.seq = q) && n.due.isNone) = some n →
    (s.gst < n.last + s.rget KL_PORT_DELAY.RTT p + 272 → exec (.nakRepeat p q) s = .next s) ∧
    (n.last + s.rget KL_PORT_DELAY.RTT p + 272 ≤ s.gst → n.count < 15 → ∃ t : State, exec (.nakRepeat p q) s = .next t ∧
      { n with due := some s.gst, count := n.count + 1 } ∈ (t.port p).naks ∧ t = { s with ports := t.ports }) ∧
    (n.last + s.rget KL_PORT_DELAY.RTT p + 272 ≤ s.gst → n.count = 15 → s.rget KL_PORT_STATUS.STATE p = 7 →
      ∃ t : State, exec (.nakRepeat p q) s = .next t ∧ t.rget KL_PORT_STATUS.STATE p = 8 ∧ t.rget KL_PORT_STATUS.DOWN_CAUSE p = 3)) ∧
  (∀ (s : State) (p : Nat) (f : HeldFlit), p < 18 → (s.port p).nextRelease = some f →
    (s.gst < f.due → exec (.flitRelease p) s = .next s) ∧
    (f.due ≤ s.gst → s.frame.phase ≠ .inFrame → f.hold = true → exec (.flitRelease p) s = .next (s.setPort p { s.port p with held := (s.port p).held.erase f })) ∧
    (f.due ≤ s.gst → s.slotInFrame f.due = true → s.frame.now = f.due - s.frame.start → (s.route f.route).kind = 2 → (s.route f.route).sinks = false →
      s.ringMode = false → f.due ≤ f.sendTick + s.hopBudget p + 8 → (s.route f.route).outPort ≠ p →
      (s.port (s.route f.route).outPort).forwards = [] →
      ∃ t : State, exec (.flitRelease p) s = .next t ∧ (t.port p).held = (s.port p).held.erase f ∧
        (t.port (s.route f.route).outPort).forwards = [(f.route, { f with due := nextSlot (s.route f.route).posMask (f.due + 4) })] ∧
        t = { s with ports := t.ports })) ∧
  (∀ (s : State) (p r : Nat), p < 18 → s.frame.phase = .inFrame → 2 ≤ (s.route r).kind → (s.route r).inPort = p → (s.route r).twin = false →
    Nat.min s.frameLen s.ftick = s.frame.now → s.frame.now = s.gst - s.frame.start → s.frame.abortTick = none → s.frame.fromStart = false → s.frame.first = none → r < 2 ^ 32 →
    ∃ t : State, exec (.lateFlit p r) s = .next t ∧ t.frame.first.map (fun f => (f.cause, f.unit, f.detail)) = some (0x06, p, r)) ∧
  (∀ (s : State) (p : Nat), p < 18 → s.maySpill p = true → (s.port p).replay = [] →
    ∃ t : State, exec (.spill p) s = .next t ∧ t.rget KL_PORT_STATUS.SPILLING p = 1 ∧ t.rget KL_SEQ.OCC p = 0) ∧
  (∀ (s : State) (p q : Nat) (bs : List Byte), p < 18 → s.maySpill p = true → (s.port p).replay = [(q, bs)] → (s.port p).spilled = [] → s.mem.badBursts = [] →
    ∃ t : State, exec (.spill p) s = .next t ∧ (t.port p).replay = [] ∧ (t.port p).spilled = [(q, isServiceFlit bs)] ∧
      (∀ i, i < bs.length → Assoc.get 0 t.mem.cells (spillAt p q + i) = bs.getD i 0)) ∧
  (∀ (s : State) (p : Nat), p < 18 → s.rget KL_PORT_STATUS.ENC p = 1 →
    ((s.port p).txCount < 2 ^ 39 → exec (.keySwitch p) s = .next s) ∧
    (2 ^ 39 ≤ (s.port p).txCount → exec (.keySwitch p) s = .next (s.setPort p { s.port p with
      keyId := 1 - (s.port p).keyId, txGen := (s.port p).txGenNext, txGenNext := (s.port p).txGen + 2, txCount := 0 })))

/-- R231 to R235, R237, R273, R315: four commas at one offset give the receiver lock; 4 errors in 16 characters lose it, which closes the bypass and breaks the ring; the bypass opens under no closing condition. A message of this node's own is removed and others go on with HOPS one higher unless it is 63; a bad CRC or an unknown type is counted. One transmitter sends
own and forwarded messages, with 128 bytes of insertion buffer for those that must wait. A returning discovery gives SIZE, RTT and SEG_DELAY, the lowest node's gives POSITION; a frame marker off by more than 16 ticks is a mismatch; a roster gets this node's bit; a WAKE pends in D0 for HOLD_MS. -/
def Obligations.GuylineRingMessages : Prop :=
  (∀ (s : State) (rx n : Nat), s.rget GL_STATUS.LOCK = 0 →
    (ringLock rx n = true → ∃ t : State, exec (.guylineLock rx n) s = .next t ∧ t.rget GL_STATUS.LOCK = 1 ∧ t.gl.everLocked = true ∧
      t.gl.relocks = s.gl.relocks + (if s.gl.everLocked then 1 else 0) ∧ t = { s with regs := t.regs, gl := t.gl }) ∧
    (ringLock rx n = false → exec (.guylineLock rx n) s = .next s)) ∧
  (∀ (s : State) (chars : List GlChar), s.rget GL_STATUS.LOCK = 1 →
    (failsIn (chars.map fun c => decide (c = .good)) 16 4 = true →
      ∃ t : State, exec (.guylineLockLoss chars) s = .next t ∧ t.rget GL_STATUS.LOCK = 0 ∧ t.rget GL_STATUS.BYPASS = 1 ∧
        t.rget GL_STATUS.RING_OK = (if s.rget GL_STATUS.RING_OK = 1 then 0 else s.rget GL_STATUS.RING_OK) ∧
        t.rget GL_EVENT.LOCK_LOST = 1 ∧ (s.rget GL_STATUS.RING_OK = 1 → t.rget GL_EVENT.RING_BREAK = 1) ∧
        t.gl.codeErr = s.gl.codeErr + (chars.filter fun c => c = .invalid).length ∧ t = { s with regs := t.regs, raised := t.raised, gl := t.gl }) ∧
    (failsIn (chars.map fun c => decide (c = .good)) 16 4 = false → exec (.guylineLockLoss chars) s =
      .next { s with gl := { s.gl with codeErr := s.gl.codeErr + (chars.filter fun c => c = .invalid).length } })) ∧
  (∀ s : State, s.rget GL_STATUS.BYPASS = 1 →
    (s.bypassHeld = false → ∃ t : State, exec .bypassOpen s = .next t ∧ t.rget GL_STATUS.BYPASS = 0 ∧ t.rget GL_EVENT.BYPASS_CHANGE = 1 ∧
      t = { s with regs := t.regs, raised := t.raised }) ∧
    (s.bypassHeld = true → exec .bypassOpen s = .next s)) ∧
  (∀ (s : State) (m : GlMsg) (c : Instr), (c = .frameMarker m ∨ c = .timeCorrection m ∨ c = .discovery m ∨ c = .roster m ∨ c = .wakeMessage m) →
    (s.rget GL_STATUS.BYPASS ≠ 0 → exec c s = .next s) ∧
    (s.rget GL_STATUS.BYPASS = 0 → (m.crcOk = false ∨ m.known = false) → exec c s = .next { s with gl := { s.gl with crcErr := s.gl.crcErr + 1 } })) ∧
  (∀ (s : State) (m : GlMsg), s.rget GL_STATUS.BYPASS = 0 → m.crcOk = true → m.known = true → m.src = s.ownId →
    exec (.frameMarker m) s = .next s ∧ exec (.timeCorrection m) s = .next s ∧ exec (.wakeMessage m) s = .next s) ∧
  (∀ (s : State) (m : GlMsg), s.rget GL_STATUS.BYPASS = 0 → m.crcOk = true → m.known = true → m.src = s.ownId → 0 < m.hops → m.hops < 64 → m.stamp ≤ s.gst → s.gst - m.stamp < 2 ^ 16 →
    ∃ t : State, exec (.discovery m) s = .next t ∧ t.rget GL_STATUS.SIZE = m.hops + 1 ∧ t.rget GL_STATUS.RTT = s.gst - m.stamp ∧
      t.rget GL_STATUS.SEG_DELAY = Nat.min 65535 ((16 * (s.gst - m.stamp) - m.acc) / m.hops) ∧ t.rget GL_STATUS.RING_OK = 1 ∧ t = { s with regs := t.regs, gl := t.gl }) ∧
  (∀ (s : State) (m : GlMsg), s.rget GL_STATUS.BYPASS = 0 → m.crcOk = true → m.known = true → m.src < s.ownId → m.hops = 63 → (∀ e ∈ s.gl.ring ++ s.gl.ringNow, m.src ≤ e.1) →
    ∃ t : State, exec (.discovery m) s = .next t ∧ t.rget GL_STATUS.POSITION = 63 ∧ Assoc.find t.gl.ringNow m.src = some 63 ∧ t = { s with regs := t.regs, gl := t.gl }) ∧
  (∀ (s : State) (m : GlMsg) (d : Nat), s.rget GL_STATUS.BYPASS = 0 → m.crcOk = true → m.known = true → m.src ≠ s.ownId → m.hops = 63 →
    16 * m.stamp + m.acc + s.rget GL_STATUS.SEG_DELAY + d = 16 * s.gst → d < 16 * 32768 →
    ∃ t : State, exec (.frameMarker m) s = .next t ∧ t.rget CLK_EVENT.GL_MISMATCH = (if 256 < d then 1 else s.rget CLK_EVENT.GL_MISMATCH) ∧ t.rget GL_STATUS.MARK_OFF = d / 16 ∧
      t.gl = { s.gl with markers := s.gl.markers + 1, markSeen := s.gl.markSeen || decide (m.src < s.ownId) } ∧ t = { s with regs := t.regs, raised := t.raised, gl := t.gl }) ∧
  (∀ (s : State) (m : GlMsg), s.rget GL_STATUS.BYPASS = 0 → m.crcOk = true → m.known = true → m.src ≠ s.ownId → m.hops < 63 → (∃ p, p < 18 ∧ s.portUp p = true) → m.src > s.ownId →
    exec (.timeCorrection m) s = .next (s.draw.2.glPass (glBytes 0x02 (m.hops + 1) m.src
      (glBody 0x02 m.stamp ((m.acc + Config.freeNat s.draw.1 + s.rget GL_STATUS.SEG_DELAY) % 2 ^ 32) m.val)))) ∧
  (∀ (s : State) (m : GlMsg), s.rget GL_STATUS.BYPASS = 0 → m.crcOk = true → m.known = true → m.src ≠ s.ownId → m.hops < 63 →
    exec (.roster m) s = .next (s.glPass (glBytes 0x10 (m.hops + 1) m.src (glBody 0x10 m.stamp 0 (m.val ||| 2 ^ s.rget GL_STATUS.POSITION))))) ∧
  (∀ (s : State) (raw : List Byte), s.onRing = true → s.gl.own = [] → (∀ e ∈ s.gl.insertion, s.gst < e.1) →
    (s.gl.freeAt ≤ s.gst → s.glPass raw = { s with out := s.out ++ [.guyline raw], gl := { s.gl with freeAt := s.gst + s.glTicks raw.length } }) ∧
    (s.gst < s.gl.freeAt → (s.gl.insertion.map (·.2)).sum + raw.length ≤ 128 → s.glPass raw = { s with
      out := s.out ++ [.guyline raw],
      gl := { s.gl with freeAt := s.gl.freeAt + s.glTicks raw.length,
                        insertion := s.gl.insertion ++ [(s.gl.freeAt + s.glTicks raw.length, raw.length)] } }) ∧
    (s.gst < s.gl.freeAt → 128 < (s.gl.insertion.map (·.2)).sum + raw.length → s.glPass raw = { s with gl := { s.gl with dropped := s.gl.dropped + 1 } })) ∧
  (∀ (s : State) (m : GlOwn) (raw : List Byte), s.onRing = true → s.gl.own = [] → s.gl.insertion = [] → s.gl.freeAt ≤ s.gst →
    raw = glBytes m.code 0 s.ownId (glBody m.code (m.stamp.getD s.gst) m.acc m.val ++ m.extra) →
    s.glSend m = { s with out := s.out ++ [.guyline raw], gl := { s.gl with freeAt := s.gst + s.glTicks raw.length } }) ∧
  (∀ (s : State) (m : GlMsg), s.rget GL_STATUS.BYPASS = 0 → m.crcOk = true → m.known = true → m.src ≠ s.ownId → m.hops = 63 → m.val = s.ownId →
    s.rget PWR_WAKE_CFG.REMOTE_EN = 1 → s.rget PWR_STATE.DSTATE = 0 → s.rget PWR_STATE.MOVING = 0 →
    exec (.wakeMessage m) s = .next (if s.rget PWR_WAKE_CFG.HOLD_MS = 0 then s
      else { s.rset0 PWR_WAKE.PEND 1 with pwr := { s.pwr with pendAt := s.clk.wall } })) ∧
  (∀ s : State, exec .pendExpiry s =
    .next (if s.pwr.pendAt + usEdges (1000 * s.rget PWR_WAKE_CFG.HOLD_MS) ≤ s.clk.wall then s.rset0 PWR_WAKE.PEND 0 else s)) ∧
  (∀ s : State, s.rget GL_STATUS.BYPASS = 0 →
    (s.clk.wall < s.gl.corrAt → exec .timeCorrectionSend s = .next s) ∧
    (s.gl.corrAt ≤ s.clk.wall → s.gl.corrSeen = false → s.rget CLK_STATUS.LOCKED = 1 → exec .timeCorrectionSend s =
      .next ({ s with gl := { s.gl with corrSeen := false, corrAt := s.clk.wall + usEdges (1000 * s.rget GL_CTRL.CORR_MS) } }.glSend
        { prio := 2, code := 0x02, val := s.keeperId })) ∧
    (s.gl.sent = false → exec .discoverySend s = .next (({ s with gl := { s.gl with sent := true } }).glSend { prio := 3, code := 0x03 })) ∧
    (s.gl.sent = true → s.rget GL_STATUS.RING_OK = 1 → ∃ t : State, exec .discoverySend s = .next t ∧ t.rget GL_STATUS.RING_OK = 0 ∧ t.rget GL_EVENT.RING_BREAK = 1) ∧
    (s.rget GL_STATUS.POSITION = 0 → exec .rosterSend s =
      .next (s.glSend { prio := 0, code := 0x10, stamp := some (s.rget ROLL_EPOCH.EPOCH), val := 1 }))) ∧
  (∀ (s : State) (v : Nat), s.bivouac = false → s.rget GL_STATUS.BYPASS = 0 → v.testBit 31 = true →
    exec (.pwrWakeSend .pf0 v) s = .next (s.glSend { prio := 1, code := 0x04, val := v % 65536 }) ∧
    (∀ f, 0 < f → exec (.pwrWakeSend (.vf f) v) s = .next s))

/-- R17, R18, R156, R239, R244, R246, R253, R254, R258: a READ and a WRITE of memory for this device are served through open gates and answered, once the response has room; addresses outside the installed memory and the reserved areas, and another device's register writes, are answered NOT_PERMITTED, with no effect; at a closed gate a request waits in the porch or is answered ASLEEP. A packet for
another device waits for a hop; one on another channel than its kind's is counted and dropped. Responses end their requests; host packets go through the staging area; FAB_ID assigns the ID, unless frames run; TEL_PUSH arms and disarms. -/
def Obligations.ServicePacketsAreServed : Prop :=
  (∀ (s : State) (p : Nat) (k : Packet), inPortOk p = true → k.vc = 3 → k.dest = s.ownId → k.sampled = false → k.len = 64 → k.addr % 64 = 0 →
    k.addr + 64 ≤ installed → inReserved k.addr 64 = false → (∀ r, r < 288 → s.rget FAB_GATE.STATE r = 0) → s.tweakOf (k.addr / 64) = physTweak →
    (∀ b, b ∉ s.mem.badBursts) → s.mem.sched = [] → s.responseSpace ≤ 31 →
    (∃ t : State, exec (.read p k) s =
        .next (t.respond { k with kind := 0x01 } 0 ((List.range 64).map fun i => Assoc.get 0 s.mem.cells (k.addr + i))) ∧ t.mem.cells = s.mem.cells) ∧
    (k.data.length = 64 → ∃ t : State, exec (.write p k) s = .next (t.respond { k with kind := 0x02 } 0 []) ∧
        (∀ i, i < 64 → Assoc.get 0 t.mem.cells (k.addr + i) = k.data.getD i 0) ∧
        (∀ a, a < k.addr ∨ k.addr + 64 ≤ a → Assoc.get 0 t.mem.cells a = Assoc.get 0 s.mem.cells a) ∧ t.cores = s.cores)) ∧
  (∀ (s : State) (p : Nat) (k : Packet), inPortOk p = true → k.vc = 3 → k.dest = s.ownId → k.sampled = false → k.addr < 2 ^ 48 →
    (installed < k.addr + k.len ∨ inReserved k.addr k.len = true) → 0 < k.len →
    s.responseSpace + responseFlits { k with kind := 0x01 } ≤ 32 →
    exec (.read p k) s = .next ((s.fabCount 1).respond { k with kind := 0x01 } 0x04 []) ∧
    exec (.write p k) s = .next ((s.fabCount 1).respond { k with kind := 0x02 } 0x04 [])) ∧
  (∀ (s : State) (p : Nat) (k : Packet), inPortOk p = true → k.vc = 3 → k.dest = s.ownId → k.sampled = false →
    (32 < s.responseSpace + responseFlits { k with kind := 0x01 } → exec (.read p k) s = .next ((s.fabCount 1).parkAt p { k with kind := 0x01 } false)) ∧
    (32 < s.responseSpace + responseFlits { k with kind := 0x02 } → exec (.write p k) s = .next ((s.fabCount 1).parkAt p { k with kind := 0x02 } false))) ∧
  (∀ (s : State) (p : Nat) (k : Packet), inPortOk p = true → k.vc = 3 → k.dest = s.ownId → k.sampled = false → k.len = 4 → k.data.length = 4 →
    k.addr = 2 * 2 ^ 48 + 0x20 → s.rget FAB_GATE.STATE 143 = 0 → s.responseSpace ≤ 31 →
    ∃ t : State, exec (.write p k) s = .next (t.respond { k with kind := 0x02 } 0x04 []) ∧ t.mem.cells = s.mem.cells ∧ t.plan = s.plan ∧ t.host = s.host) ∧
  (∀ (s : State) (p : Nat) (k : Packet), inPortOk p = true → k.vc = 3 → k.dest = s.ownId → k.sampled = false → k.addr = 2 * 2 ^ 48 → k.len = 4 →
    s.rget FAB_GATE.STATE 143 = 2 → s.responseSpace ≤ 31 →
    (s.gateWakes 143 = false → exec (.read p k) s = .next ((((s.fabCount 1).fabCount 4)).respond { k with kind := 0x01 } 0x0D (bytesOf ((s.fabCount 1).retryAfter 143) 4))) ∧
    (s.gateWakes 143 = true → (s.region 143).porch = [] → ∃ t : State, exec (.read p k) s = .next t ∧ t.rget FAB_GATE.STATE 143 = 3 ∧
      (t.region 143).porch = [(s.gst, p, { k with kind := 0x01 })] ∧ t.rget FAB_GATE.HELD 143 = 1 ∧ t.out = s.out)) ∧
  (∀ (s : State) (p : Nat) (k : Packet), inPortOk p = true → k.vc = 1 →
    exec (.read p k) s = .next (s.fabCount 7) ∧ exec (.write p k) s = .next (s.fabCount 7) ∧ exec (.resp p k) s = .next (s.fabCount 7) ∧
    exec (.hostcpl p k) s = .next (s.fabCount 7) ∧ exec (.back p k) s = .next (s.fabCount 7) ∧ exec (.bwrite p k) s = .next (s.fabCount 7)) ∧
  (∀ (s : State) (p : Nat) (k : Packet), inPortOk p = true → k.dest = s.ownId → k.sampled = false →
    (k.vc = 2 → Assoc.get 0 s.fab.requests k.tag = 1 → ∃ t : State, exec (.resp p k) s = .next t ∧ Assoc.get 0 t.fab.requests k.tag = 0 ∧
      (k.status ≠ 0 → s.rget TEL_STATUS.PUSH_FAIL < 255 → t.rget TEL_STATUS.PUSH_FAIL = s.rget TEL_STATUS.PUSH_FAIL + 1) ∧
      (k.status = 0 → t.regs = s.regs) ∧ t = { s with regs := t.regs, fab := t.fab }) ∧
    (k.vc = 0 → s.fab.hostStage = [] → k.data.length ≤ 2 ^ 22 →
      (s.busMaster 0 = true → exec (.hostcpl p k) s = .next ((s.fabCount 1).emit (.hostWrite 0 k.addr k.data))) ∧
      (s.busMaster 0 = false → exec (.hostcpl p k) s = .next { s.fabCount 1 with fab := { (s.fabCount 1).fab with hostStage := [(k.addr, k.data)] } })) ∧
    (k.vc = 0 → 2 ^ 22 < (s.fab.hostStage.map fun e => e.2.length).sum + k.data.length →
      exec (.hostcpl p k) s = .next ((s.fabCount 1).parkAt p { k with kind := 0x04 } false))) ∧
  (∀ (s : State) (p : Nat) (k : Packet), inPortOk p = true → k.dest ≠ s.ownId →
    (k.vc = 3 → exec (.read p k) s = .next (s.parkAt p { k with kind := 0x01 } false) ∧ exec (.write p k) s = .next (s.parkAt p { k with kind := 0x02 } false)) ∧
    (k.vc = 2 → exec (.resp p k) s = .next (s.parkAt p { k with kind := 0x03 } false) ∧ exec (.back p k) s = .next (s.parkAt p { k with kind := 0x07 } false)) ∧
    (k.vc = 0 → exec (.hostcpl p k) s = .next (s.parkAt p { k with kind := 0x04 } false))) ∧
  (∀ (s : State) (a : Agent) (v : Nat), s.bivouac = false → agentWrites a 0x380000 = true → v.testBit 31 = true →
    (s.running = true → ∃ t : State, exec (.fabId a v) s = .next t ∧ t.rget FAB_ID.RESULT = 2 ∧ t.rget IDENT_DOMAIN.DEVICE_ID = s.rget IDENT_DOMAIN.DEVICE_ID ∧
      t = { s with regs := t.regs }) ∧
    (s.running = false → (∀ p, p < 18 → s.rget KL_PORT_STATUS.STATE p ≠ 7) → ∃ t : State, exec (.fabId a v) s = .next t ∧ t.rget FAB_ID.RESULT = 1 ∧
      t.rget IDENT_DOMAIN.DEVICE_ID = bitsOf v 0 14 ∧ t.rget IDENT_DOMAIN.ID_VALID = 1 ∧
      t.fab.dims = (s.rget FAB_DIMS.XS, s.rget FAB_DIMS.YS, s.rget FAB_DIMS.ZS) ∧ t = { s with regs := t.regs, fab := t.fab })) ∧
  (∀ (s : State) (a : Agent) (v : Nat), s.bivouac = false → agentWrites a 0x900010 = true →
    (∃ t : State, exec (.armPush a v) s = .next t ∧ t.rget TEL_STATUS.ARMED = 1 ∧ t.rget TEL_PUSH.EVERY = (if v.testBit 1 then 1 else 0) ∧ t = { s with regs := t.regs }) ∧
    (∃ t : State, exec (.disarmPush a v) s = .next t ∧ t.rget TEL_STATUS.ARMED = 0 ∧ t = { s with regs := t.regs }))

/-- R247 to R251, R253, R254, R317: a BWRITE from its tree's parent writes locally, its copy goes to every child once each can take it, and the worst status goes up when the last BACK is in; from elsewhere it is counted and dropped. The first packet of a buffer takes the adaptive hop to the port with the fewest queued flits if it fits beyond it, else the escape hop into an empty ring buffer, and else waits; after the grace without
an UP port it is discarded, a request with FLUSHED. A closing gate with nothing open closes; a waking region's gate opens. -/
def Obligations.TreesHopsAndGates : Prop :=
  (∀ (s : State) (p : Nat) (k : Packet), inPortOk p = true → s.treeAccepts p { k with kind := 0x06 } = false →
    exec (.bwrite p k) s = .next (s.fabCount 7)) ∧
  (∀ (s : State) (p c : Nat) (k : Packet), p < 18 → c < 18 → c ≠ p → k.vc = 3 → k.sampled = false → s.treeAccepts p { k with kind := 0x06 } = true →
    s.childrenOf k.tree = [c] → s.childAlive c = true → s.fab.trees = [] → k.addr < 2 ^ 48 → installed < k.addr + k.len →
    s.bufferFlits p 3 false + s.flitsOn p { k with kind := 0x06 } ≤ 32 →
    ∃ t : State, exec (.bwrite p k) s = .next t ∧ (t.port p).inbuf.map (·.pkt) = (s.port p).inbuf.map (·.pkt) ++ [{ k with kind := 0x06 }] ∧
      t.fab.trees = [{ tag := k.tag, tree := k.tree, parent := p, waiting := [c], status := 0x04 }] ∧ t.mem = s.mem) ∧
  (∀ (s : State) (p vc c : Nat) (q : QPkt) (rooms : List (Nat × Nat × Nat)), p < 18 → s.headsOf p vc = [q] → q.pkt.bcast = true → s.copyPorts q.pkt = [c] →
    (s.portUp c = true → fitsBeyond rooms c (s.flitsOn c q.pkt) false = true →
      exec (.servicePacketForward p vc rooms) s = .next (((s.unwait p q).enqueueAt q.pkt c false p).fabCount 2)) ∧
    ((s.portUp c = false ∨ fitsBeyond rooms c (s.flitsOn c q.pkt) false = false) → exec (.servicePacketForward p vc rooms) s = .next s)) ∧
  (∀ (s : State) (p up st : Nat) (k : Packet), p < 18 → up < 18 → k.vc = 2 → k.dest = s.ownId → k.sampled = false →
    s.fab.trees = [{ tag := k.tag, tree := k.tree, parent := up, waiting := [p], status := st }] →
    ∃ t : State, exec (.back p k) s = .next t ∧ t.fab.trees = [] ∧
      t.fab.staging.map (fun q => (q.via, q.pkt.kind, q.pkt.status, q.pkt.tag)) =
        s.fab.staging.map (fun q => (q.via, q.pkt.kind, q.pkt.status, q.pkt.tag)) ++ [(some up, 0x07, worstStatus st k.status, k.tag)]) ∧
  (∀ (s : State) (p vc : Nat) (rooms : List (Nat × Nat × Nat)), inPortOk p = true →
    (∀ q ∈ s.headsOf p vc, q.pkt.bcast = false ∧ q.pkt.dest ≠ s.ownId ∧ s.hopOf q rooms = none) → exec (.servicePacketForward p vc rooms) s = .next s) ∧
  (∀ (s : State) (p vc o : Nat) (q : QPkt) (qs : List QPkt) (esc : Bool) (rooms : List (Nat × Nat × Nat)), p < 18 → o < 18 → o ≠ p →
    s.headsOf p vc = q :: qs → q.pkt.bcast = false → q.pkt.dest ≠ s.ownId → s.hopOf q rooms = some (o, esc) →
    ∃ t : State, exec (.servicePacketForward p vc rooms) s = .next t ∧ (t.port p).inbuf.map (·.pkt) = ((s.port p).inbuf.erase q).map (·.pkt) ∧
      (t.port o).queue = (s.port o).queue ++ [{ pkt := q.pkt, escape := esc, inPort := p, since := s.gst }] ∧
      Assoc.get 0 t.fab.live 2 = Assoc.get 0 s.fab.live 2 + 1 ∧
      Assoc.get 0 t.fab.live 3 = Assoc.get 0 s.fab.live 3 + (if esc && !q.escape then 1 else 0) ∧
      t.mem.cells = s.mem.cells ∧ t = { s with ports := t.ports, fab := t.fab, mem := t.mem }) ∧
  (∀ (s : State) (q : QPkt) (rooms : List (Nat × Nat × Nat)) (o : Nat), q.escape = false → s.leastQueued q.pkt.vc (s.adaptivePorts q) = some o →
    (fitsBeyond rooms o (s.flitsOn o q.pkt) false = true → s.hopOf q rooms = some (o, false)) ∧
    (∀ e, fitsBeyond rooms o (s.flitsOn o q.pkt) false = false → s.leastQueued q.pkt.vc (s.escapePorts q) = some e →
      s.hopOf q rooms = if fitsBeyond rooms e 32 true then some (e, true) else none)) ∧
  (∀ (s : State) (p vc : Nat) (q : QPkt), inPortOk p = true → s.headsOf p vc = [q] →
    ((q.pkt.bcast = true ∨ q.pkt.dest = s.ownId ∨ (s.allPorts q).filter s.portUp ≠ [] ∨ s.clk.wall < s.stuckSince q + s.packetGrace p q.pkt) →
      exec (.packetDiscard p vc) s = .next s) ∧
    (q.pkt.bcast = false → q.pkt.dest ≠ s.ownId → (s.allPorts q).filter s.portUp = [] → s.stuckSince q + s.packetGrace p q.pkt ≤ s.clk.wall →
      exec (.packetDiscard p vc) s = .next (if isRequest q.pkt.kind then ((s.unwait p q).fabCount 5).originate (responseTo q.pkt 0x0E [])
        else (s.unwait p q).fabCount 7))) ∧
  (∀ (s : State) (r : Nat), r < 288 → s.rget FAB_GATE.STATE r = 1 →
    (s.openAccesses r ≠ 0 → exec (.gateClosed r) s = .next s) ∧
    (s.openAccesses r = 0 → (s.region r).porch = [] → (s.region r).target < 8 →
      ∃ t : State, exec (.gateClosed r) s = .next t ∧ t.rget FAB_GATE.STATE r = 2 ∧ t.rget FAB_GATE.DRAIN r = 0 ∧
        t.rget PWR_REGION.PSTATE r = (s.region r).target ∧ t.mem = s.mem ∧ t.ports = s.ports ∧
        ((s.region r).target ≠ 5 → s.rget PWR_REGION.PSTATE r ≠ 5 → t = { s with regs := t.regs }))) ∧
  (∀ (s : State) (r : Nat), r < 288 →
    (s.rget FAB_GATE.STATE r ≠ 3 → exec (.regionExitComplete r) s = .next s) ∧
    (s.rget FAB_GATE.STATE r = 3 → (s.region r).porch = [] → ∃ t : State, exec (.regionExitComplete r) s = .next t ∧ t.rget FAB_GATE.STATE r = 0 ∧
      t.rget PWR_REGION.PSTATE r = 0 ∧ t.rget FAB_GATE.HELD r = 0 ∧ (t.region r).target = 0 ∧ (t.region r).tick = s.gst))

/-- R238, R246, R272, R274, R275, R276, R288, R359: heartbeats go out on every UP port each HB_US, and one that is heard clears a suspicion; a member that is silent for LOSS_US or reports itself failed comes under suspicion. The coordinator collects SUSPECTs of members in its epoch and REQUESTs, which another member sends on to it, and after the window proposes the change they make. The four requests of ROLL_REQ are submitted; a device
outside the domain's sizes does not ask to join. -/
def Obligations.SuspicionsReachTheCoordinator : Prop :=
  (∀ s : State,
    (s.clk.wall < s.roll.heartAt → exec .heartbeatSend s = .next s) ∧
    (s.roll.heartAt ≤ s.clk.wall → ∃ t : State, exec .heartbeatSend s = .next t ∧
      t = { s with roll := { s.roll with heartAt := s.clk.wall + usEdges (s.rget ROLL_CFG.HB_US) }, out := t.out } ∧
      t.out = s.out ++ (((List.range 18).filter s.portUp).map fun p => .orderedSet p (setBytes 0xF5
        (s.ownId + s.rget ROLL_STATUS.STATE * 2 ^ 14 + (if s.rget ROLL_STATUS.AGREEING = 1 then s.rget ROLL_STATUS.ROUND else 0) * 2 ^ 16)
        [s.rget ROLL_EPOCH.EPOCH, s.rget ROLL_DIGEST.DIGEST])))) ∧
  (∀ (s : State) (p dev st round epoch digest : Nat), p < 18 →
    exec (.heartbeat p dev st round epoch digest false) s = .next (s.portCount p 10) ∧
    (s.roll.accepted = none → st < 2 →
      ∃ t : State, exec (.heartbeat p dev st round epoch digest true) s = .next t ∧ (st = 0 → Assoc.find t.roll.heard dev = some s.clk.wall) ∧
        (∀ e ∈ t.roll.gone, e.link = false → e.dev ≠ dev) ∧ t = { s with roll := t.roll })) ∧
  (∀ (s : State) (p dev round epoch digest : Nat) (c : Instr), p < 18 → s.roll.accepted = none → s.isMember = true → s.roll.members.testBit dev = true → dev ≠ s.ownId →
    (c = .heartbeat p dev 2 round epoch digest true ∨ (c = .neighbourLost dev ∧ s.silent dev = true)) →
    ∃ t : State, exec c s = .next t ∧ (∃ e ∈ t.roll.gone, e.dev = dev ∧ e.link = false) ∧ Assoc.find t.roll.heard dev = none ∧
      t.rget ROLL_EPOCH.EPOCH = s.rget ROLL_EPOCH.EPOCH ∧ t.roll.members = s.roll.members) ∧
  (∀ (s : State) (dev : Nat), s.silent dev = false → exec (.neighbourLost dev) s = .next s) ∧
  (∀ (s : State) (m : RcMsg), m.ring = none →
    (s.isMember = true → m.epoch = s.rget ROLL_EPOCH.EPOCH → s.roll.members.testBit m.sender = true →
      ∃ t : State, exec (.suspect m) s = .next t ∧ (∀ e ∈ m.entries, (m.sender, e) ∈ t.roll.suspects) ∧ t.roll.collecting = true ∧
        t = { s.handled with roll := t.roll }) ∧
    ((s.isMember = false ∨ m.epoch ≠ s.rget ROLL_EPOCH.EPOCH ∨ s.roll.members.testBit m.sender = false) → exec (.suspect m) s = .next s.handled) ∧
    (s.isMember = true → s.coordinator = s.ownId → ∃ t : State, exec (.request m) s = .next t ∧ (∀ e ∈ m.entries, (m.sender, e) ∈ t.roll.suspects) ∧
      t.roll.collecting = true ∧ t = { s.handled with roll := t.roll }) ∧
    (s.isMember = true → s.coordinator ≠ s.ownId →
      exec (.request m) s = .next (s.handled.sendBody s.coordinator (rcBody { m with coord := s.coordinator } 0x07))) ∧
    (s.isMember = false → s.roll.members ≠ 0 → exec (.request m) s = .next s.handled)) ∧
  (∀ s : State, (s.roll.collecting = false ∨ s.clk.wall < s.roll.collectAt + usEdges (s.rget ROLL_CFG.COLLECT_US)) →
    exec .collectionWindow s = .next s) ∧
  (∀ s : State, s.roll.collecting = true → s.roll.collectAt + usEdges (s.rget ROLL_CFG.COLLECT_US) ≤ s.clk.wall → s.roll.proposal = none →
    (s.changeOf = [] → exec .collectionWindow s = .next { s with roll := { s.roll with collecting := false, suspects := [] } }) ∧
    (s.changeOf ≠ [] → ∃ t : State, exec .collectionWindow s = .next t ∧ (s.rget ROLL_EPOCH.EPOCH + 1, s.nextRound, 2, 0) ∈ t.roll.flooded)) ∧
  (∀ (s : State) (a : Agent) (c : Instr) (e : RcEntry), s.bivouac = false → agentWrites a 0x600020 = true → s.coordinator = s.ownId →
    ((∃ d, d < 2 ^ 14 ∧ c = .excludeDevice a d ∧ e = { dev := d, cause := 3 }) ∨
     (∃ d p, d < 2 ^ 14 ∧ p < 18 ∧ c = .excludeLink a d p ∧ e = { dev := d, port := p, link := true, cause := 3 }) ∨
     (c = .joinThisDevice a ∧ s.inDims s.ownId = true ∧ s.rget ROLL_STATUS.STATE = 3 ∧ e = { dev := s.ownId, cause := 5 }) ∨
     (∃ p, p < 18 ∧ s.portUp p = true ∧ c = .linkReturn a p ∧ e = { dev := s.ownId, port := p, link := true, cause := 5 })) →
    ∃ t : State, exec c s = .next t ∧ (s.ownId, e) ∈ t.roll.suspects ∧ t.roll.collecting = true ∧ t = { s with roll := t.roll, regs := t.regs }) ∧
  (∀ (s : State) (a : Agent), s.bivouac = false → agentWrites a 0x600020 = true →
    (s.inDims s.ownId = true → s.rget ROLL_STATUS.STATE = 3 → ∃ t : State, exec (.joinThisDevice a) s = .next t ∧ t.rget ROLL_STATUS.STATE = 1) ∧
    (s.inDims s.ownId = false → exec (.joinThisDevice a) s = .next s)) ∧
  (∀ (s : State) (a : Agent) (p : Nat), s.bivouac = false → agentWrites a 0x600020 = true → p < 18 → s.portUp p = false → exec (.linkReturn a p) s = .next s)

/-- R276 to R279, R281, R287, R326: a member accepts the next epoch's PROPOSE whose digest it computes, passes each message on once, and answers its packet; the ACCEPT that completes a proposal commits it; a COMMIT makes the change's epoch and members this device's own, or puts it outside. A FULL replaces the membership, REFUSE is held against the round, ACK_TIMEOUT proposes again, and an acceptance without COMMIT is dropped. Leases that
run out free their channel or reset their command processor. -/
def Obligations.RollCallAgrees : Prop :=
  (∀ (s : State) (m : RcMsg), m.ring = none → s.roll.flooded.contains (m.epoch, m.round, 2, m.reason % 256) = true → exec (.propose m) s = .next s.handled) ∧
  (∀ (s : State) (m : RcMsg), m.ring = none → s.rget ROLL_STATUS.STATE ≠ 3 → s.roll.flooded.contains (m.epoch, m.round, 2, 0) = false → s.roll.parts = [] → m.reason = 256 →
    s.roll.accepted = none → m.coord ≠ s.ownId → m.round < 256 → m.epoch = s.rget ROLL_EPOCH.EPOCH + 1 →
    m.digest = memberDigest (applyMembers s.roll.members m.entries) →
    ∃ t : State, exec (.propose m) s = .next t ∧ t.rget ROLL_STATUS.AGREEING = 1 ∧ t.rget ROLL_STATUS.ROUND = m.round ∧ t.roll.acceptedCoord = m.coord ∧
      t.roll.accepted.map (fun p => (p.epoch, p.members, p.entries)) = some (m.epoch, applyMembers s.roll.members m.entries, m.entries) ∧
      t.roll.members = s.roll.members ∧ t.rget ROLL_EPOCH.EPOCH = s.rget ROLL_EPOCH.EPOCH) ∧
  (∀ (s : State) (m : RcMsg), m.ring = none → s.rget ROLL_STATUS.STATE ≠ 3 → s.roll.flooded.contains (m.epoch, m.round, 2, 0) = false → s.roll.parts = [] → m.reason = 256 →
    m.coord ≠ s.ownId → m.epoch ≤ s.rget ROLL_EPOCH.EPOCH →
    ∃ t : State, exec (.propose m) s = .next t ∧ t.roll.accepted = s.roll.accepted ∧ t.rget ROLL_STATUS.AGREEING = s.rget ROLL_STATUS.AGREEING) ∧
  (∀ (s : State) (m : RcMsg) (p q : Proposal), m.ring = none → s.roll.proposal = some p → p.round = m.round → p.epoch = m.epoch → p.members.testBit m.sender = true →
    (p.accepts.any fun e => decide (e.1 = m.sender)) = false → q = { p with accepts := p.accepts ++ [(m.sender, m.planId)] } →
    (q.complete = false → exec (.accept m) s = .next { s.handled with roll := { s.roll with proposal := some q } }) ∧
    (q.complete = true → s.rget ROLL_EPOCH.EPOCH < p.epoch → p.epoch < 2 ^ 64 → p.members.testBit s.ownId = true →
      ∃ t : State, exec (.accept m) s = .next t ∧ t.rget ROLL_EPOCH.EPOCH = p.epoch ∧ t.roll.members = p.members ∧ t.roll.proposal = none ∧
        t.rget ROLL_EVENT.NEW_EPOCH = 1)) ∧
  (∀ (s : State) (m : RcMsg) (p : Proposal), m.ring = none → s.roll.proposal = some p → p.round = m.round → p.epoch = m.epoch →
    (p.refused.contains m.sender = false →
      ∃ t : State, exec (.refuse m) s = .next t ∧ t.roll.proposal = some { p with refused := p.refused ++ [m.sender] } ∧ t.rget ROLL_EVENT.RESTART = 1) ∧
    (p.refused.contains m.sender = true → exec (.refuse m) s = .next s.handled)) ∧
  (∀ (s : State) (m : RcMsg) (bitmap : Nat), s.rget ROLL_STATUS.STATE ≠ 3 →
    (m.epoch < s.rget ROLL_EPOCH.EPOCH → exec (.full m bitmap) s = .next s.handled) ∧
    (s.rget ROLL_EPOCH.EPOCH ≤ m.epoch → m.epoch < 2 ^ 64 → bitmap.testBit s.ownId = true → s.roll.parts = [] →
      ∃ t : State, exec (.full m bitmap) s = .next t ∧ t.roll.members = bitmap ∧ t.rget ROLL_EPOCH.EPOCH = m.epoch ∧
        t.rget ROLL_DIGEST.DIGEST = memberDigest bitmap ∧ t = { s.handled with regs := t.regs, roll := t.roll })) ∧
  (∀ (s : State) (m : RcMsg) (p : Proposal), m.ring = none → s.rget ROLL_STATUS.STATE ≠ 3 → s.roll.flooded.contains (m.epoch, m.round, 5, 0) = false →
    s.rget ROLL_EPOCH.EPOCH < m.epoch → m.epoch < 2 ^ 64 → s.roll.accepted = some p → p.epoch = m.epoch → p.digest = m.digest →
    (p.members.testBit s.ownId = true → ∃ t : State, exec (.commit m) s = .next t ∧ t.rget ROLL_EPOCH.EPOCH = m.epoch ∧ t.roll.members = p.members ∧
      t.roll.accepted = none ∧ t.rget ROLL_STATUS.AGREEING = 0 ∧ t.rget ROLL_EVENT.NEW_EPOCH = 1) ∧
    (p.members.testBit s.ownId = false → s.isMember = true → ∃ t : State, exec (.commit m) s = .next t ∧ t.rget ROLL_EVENT.OUTSIDE = 1 ∧
      t.rget ROLL_STATUS.COORD = 0 ∧ t.rget ROLL_EPOCH.EPOCH = s.rget ROLL_EPOCH.EPOCH)) ∧
  (∀ s : State, (s.roll.proposal = none → exec .ackTimeout s = .next s) ∧
    (s.clk.wall < s.roll.proposedAt + usEdges (s.rget ROLL_CFG.ACK_US) → exec .ackTimeout s = .next s) ∧
    (s.roll.proposal.isSome = true → s.roll.proposedAt + usEdges (s.rget ROLL_CFG.ACK_US) ≤ s.clk.wall → ∃ t : State, exec .ackTimeout s = .next t ∧ (s.rget ROLL_EPOCH.EPOCH + 1, s.nextRound, 2, 0) ∈ t.roll.flooded ∧
      t.rget ROLL_EVENT.RESTART = 1) ∧
    (s.rget ROLL_STATUS.AGREEING = 1 → ∃ t : State, exec .acceptanceDrop s = .next t ∧ t.roll.accepted = none ∧ t.rget ROLL_STATUS.AGREEING = 0 ∧
      t.rget ROLL_STATUS.CHOICE = 7 ∧ t = { s with regs := t.regs, roll := t.roll })) ∧
  (∀ (s : State) (die ch : Nat), die < 2 → ch < 16 →
    ((Assoc.get ({} : SvcDma) s.mem.svcDma (16 * die + ch)).requester = none → exec (.serviceDmaExpiry die ch) s = .next s) ∧
    ((Assoc.get ({} : SvcDma) s.mem.svcDma (16 * die + ch)).requester.isSome = true →
      ∃ t : State, exec (.serviceDmaExpiry die ch) s = .next t ∧ Assoc.get ({} : SvcDma) t.mem.svcDma (16 * die + ch) = {} ∧
        (∀ l ∈ t.roll.leases, ¬ (l.kind = 1 ∧ l.item = 16 * die + ch)) ∧ t.rget ROLL_EVENT.REVOKED = 1)) ∧
  (∀ (s : State) (n : Nat), n < 8 →
    exec (.cpWorkRenewal n) s = .next { s with host := { s.host with cpExpired := s.host.cpExpired.filter (· ≠ n) } } ∧
    (s.rgr.running = false → n ∉ s.host.cpExpired → exec (.cpWorkExpiry n) s = .next { s with host := { s.host with cpExpired := s.host.cpExpired ++ [n] } }) ∧
    (s.rgr.running = true → ∃ t : State, exec (.cpWorkExpiry n) s = .next t ∧ Assoc.get 0 t.rgr.cpResets n = Assoc.get 0 s.rgr.cpResets n + 1 ∧
      n ∉ t.host.cpExpired))

/-- R293, R294, R297, R301, R302, R303: enabling a queue checks LOG2, takes its fields and resets its pointers; clearing ENABLE drains it; a doorbell outside the ring is a queue error; one picked entry is fetched and is in flight; an unknown opcode is answered BAD_OPCODE and a known command starts; a reply goes to the completion slot, and the moderation timer fires the vector. -/
def Obligations.QueuesFetchAndReply : Prop :=
  (∀ (s : State) (q v : Nat), q < 65536 → s.bivouac = false → s.vfOf q = none → s.rget HOST_Q.ENABLE q = 0 → v.testBit 0 = true →
    (4 ≤ bitsOf v 3 5 → bitsOf v 3 5 ≤ 16 → ∃ t : State, exec (.queueEnable .pf0 q v) s = .next t ∧ t.rget HOST_Q.ENABLE q = 1 ∧
      t.rget HOST_Q.CLASS q = bitsOf v 1 2 ∧ t.rget HOST_Q.LOG2 q = bitsOf v 3 5 ∧ t.rget HOST_Q.VECTOR q = bitsOf v 8 11 ∧
      t.rget HOST_Q.BASE q = bitsOf v 19 45 ∧ (t.hq q).state = 1 ∧ (t.hq q).sqHead = 0 ∧ (t.hq q).tail = 0 ∧ (t.hq q).cqTail = 0 ∧ (t.hq q).cqHead = 0 ∧
      (t.hq q).err = 0 ∧ (∀ r, r ≠ q → t.hq r = s.hq r)) ∧
    (bitsOf v 3 5 < 4 → ∃ t : State, exec (.queueEnable .pf0 q v) s = .next t ∧ t.rget HOST_Q.ENABLE q = 0 ∧ (t.hq q).err = 5 ∧ (t.hq q).state = (s.hq q).state)) ∧
  (∀ (s : State) (q v : Nat), q < 65536 → s.bivouac = false → s.vfOf q = none → s.rget HOST_Q.ENABLE q = 1 →
    (v.testBit 0 = true → exec (.queueEnable .pf0 q v) s = .next s) ∧
    (∃ t : State, exec (.queueDisable .pf0 q v) s = .next t ∧ t.rget HOST_Q.ENABLE q = 0 ∧ (t.hq q).state = 3 ∧ (t.hq q).replies = [] ∧
      (∀ e ∈ (t.hq q).inflight, e ∈ (s.hq q).inflight ∧ (q, e.cmd.cmdId) ∈ t.host.dropped ∧
        ∀ w ∈ s.frame.waits, ¬ (w.cmd.queue = q ∧ w.cmd.cmdId = e.cmd.cmdId)) ∧
      (∀ w ∈ t.frame.waits, w.cmd.queue ≠ q) ∧ (∀ r, r ≠ q → t.hq r = s.hq r) ∧ t.mem.cells = s.mem.cells)) ∧
  (∀ (s : State) (q : Nat), q < 65536 →
    ((s.hq q).state = 3 → (s.hq q).inflight = [] → exec (.drainComplete q) s = .next (s.setHq q { s.hq q with state := 0 })) ∧
    ((s.hq q).inflight ≠ [] → exec (.drainComplete q) s = .next s)) ∧
  (∀ (s : State) (a : Agent) (q g v : Nat), q < 65536 → v < 65536 → s.reachQueue a q = some g →
    ((s.hq g).state = 1 → v < 2 ^ s.rget HOST_Q.LOG2 g → exec (.dbSqTail a q v) s = .next (s.setHq g { s.hq g with tail := v }) ∧
      exec (.dbCqHead a q v) s = .next (s.setHq g { s.hq g with cqHead := v })) ∧
    ((s.hq g).state = 1 → 2 ^ s.rget HOST_Q.LOG2 g ≤ v →
      (∃ t : State, exec (.dbSqTail a q v) s = .next t ∧ (t.hq g).err = 1 ∧ (t.hq g).state = 2 ∧ t.rget HOST_EVENT.QUEUE_ERR = 1) ∧
      (∃ t : State, exec (.dbCqHead a q v) s = .next t ∧ (t.hq g).err = 4 ∧ (t.hq g).state = 2 ∧ t.rget HOST_EVENT.QUEUE_ERR = 1)) ∧
    ((s.hq g).state ≠ 1 → exec (.dbSqTail a q v) s = .next s ∧ exec (.dbCqHead a q v) s = .next s)) ∧
  (∀ (s : State) (ok : Bool) (entry : List Byte), s.pickQueue = none → exec (.fetch ok entry) s = .next s) ∧
  (∀ (s : State) (q : Nat) (entry : List Byte), s.pickQueue = some q →
    (∃ t : State, exec (.fetch true entry) s = .next t ∧ (t.hq q).sqHead = ((s.hq q).sqHead + 1) % 2 ^ s.rget HOST_Q.LOG2 q ∧
      (t.hq q).inflight = (s.hq q).inflight ++ [{ opcode := (entry.headD 0).toNat, cmd := (packetCmd (s.ownerOf q) q entry).2, started := false, pick := s.host.picked }] ∧
      (∀ r, r ≠ q → t.hq r = s.hq r)) ∧
    (∃ t : State, exec (.fetch false entry) s = .next t ∧ (t.hq q).err = 2 ∧ (t.hq q).state = 2 ∧ (t.hq q).sqHead = (s.hq q).sqHead)) ∧
  (∀ (s : State) (q : Nat), q < 65536 →
    (s.nextStart q = none → exec (.commandStart q) s = .next s) ∧
    (∀ e, s.nextStart q = some e → knownOpcodes.contains e.opcode = false → exec (.commandStart q) s = .next (s.reply e.cmd e.opcode 0x02 0 0 0)) ∧
    (∀ e, s.nextStart q = some e → knownOpcodes.contains e.opcode = true → ∃ t : State, exec (.commandStart q) s = .next t ∧
      { e with started := true } ∈ (t.hq q).inflight ∧ (t.hq q).inflight.length = (s.hq q).inflight.length ∧ t = { s with host := t.host })) ∧
  (∀ (s : State) (q : Nat) (r : Reply) (rest : List Reply), q < 65536 → (s.hq q).replies = r :: rest →
    (s.slotFree q = false ∨ s.busMaster (s.ownerOf q) = false → ∀ ok, exec (.replyWrite q ok) s = .next s) ∧
    ((s.hq q).state = 1 → s.slotFree q = true → s.busMaster (s.ownerOf q) = true → r.irqNow = false → (s.hq q).modCount = 0 →
      ∃ t : State, exec (.replyWrite q true) s = .next t ∧ (t.hq q).replies = rest ∧ (t.hq q).cqTail = ((s.hq q).cqTail + 1) % 2 ^ s.rget HOST_Q.LOG2 q ∧
        (t.hq q).unsignalled = (s.hq q).unsignalled + 1 ∧ ((s.hq q).unsignalled = 0 → (t.hq q).pendAt = s.clk.wall) ∧
        t.out = s.out ++ [.hostWrite (s.ownerOf q)
          (s.rget HOST_Q.BASE q * 4096 + 64 * 2 ^ s.rget HOST_Q.LOG2 q + 32 * (s.hq q).cqTail) (s.replyBytes (s.hq q) r)] ∧
        t = { s with out := t.out, host := t.host }) ∧
    ((s.hq q).state = 1 → s.slotFree q = true → s.busMaster (s.ownerOf q) = true → ∃ t : State, exec (.replyWrite q false) s = .next t ∧
      (t.hq q).err = 3 ∧ (t.hq q).state = 2 ∧ (t.hq q).replies = rest)) ∧
  (∀ (s : State) (q : Nat), q < 65536 →
    (((s.hq q).unsignalled = 0 ∨ s.clk.wall < (s.hq q).pendAt + usEdges (s.hq q).modTime) → exec (.moderationTimer q) s = .next s) ∧
    (1 ≤ (s.hq q).modTime → 1 ≤ (s.hq q).unsignalled → (s.hq q).pendAt + usEdges (s.hq q).modTime ≤ s.clk.wall → ∃ t : State, exec (.moderationTimer q) s = .next t ∧ (t.hq q).unsignalled = 0 ∧
      (if (s.ownerOf q, s.rget HOST_Q.VECTOR q) ∈ s.host.unmasked then t.out = s.out ++ [.msix (s.ownerOf q) (s.rget HOST_Q.VECTOR q)]
       else (s.ownerOf q, s.rget HOST_Q.VECTOR q) ∈ t.host.pba ∧ t.out = s.out)))

/-- R291, R304 to R307, R309: a command that moves host data pauses while its function is no bus master, and runs once it is; a queue map of an enabled VF, or one that overlaps, is refused with MAP_REJECT; a reset VF loses its queues, interrupts and bus mastering, and its contexts await their unbind; clearing VF Enable, a PF0 FLR and PERST_N reset every VF; HOST_STATUS.FULL is x16 at 64 GT/s in FLIT mode. -/
def Obligations.FunctionsAndTheHostLink : Prop :=
  (∀ (s : State) (a : Agent) (f v : Nat), 0 < f → f < 256 → s.bivouac = false → agentWrites a (0x580100 + 8 * f) = true →
    (s.qmapRefused f (bitsOf v 0 16) (bitsOf v 16 11) = true → ∃ t : State, exec (.hostVfQmap a f v) s = .next t ∧ t.rget HOST_EVENT.MAP_REJECT = 1 ∧
      t.rget HOST_VF_QMAP.BASE f = s.rget HOST_VF_QMAP.BASE f ∧ t.rget HOST_VF_QMAP.COUNT f = s.rget HOST_VF_QMAP.COUNT f ∧ t = { s with regs := t.regs, raised := t.raised }) ∧
    (s.qmapRefused f (bitsOf v 0 16) (bitsOf v 16 11) = false → ∃ t : State, exec (.hostVfQmap a f v) s = .next t ∧
      t.rget HOST_VF_QMAP.BASE f = bitsOf v 0 16 ∧ t.rget HOST_VF_QMAP.COUNT f = bitsOf v 16 11 ∧ t.rget HOST_VF_QMAP.MINCLASS f = bitsOf v 32 2 ∧
      t.rget HOST_EVENT.MAP_REJECT = s.rget HOST_EVENT.MAP_REJECT ∧ t = { s with regs := t.regs }) ∧
    (s.vfEnabled f = true → s.qmapRefused f (bitsOf v 0 16) (bitsOf v 16 11) = true)) ∧
  (∀ (s : State) (f : Nat), 0 < f → f < 256 →
    (∃ t : State, exec (.vfFlr f) s = .next t ∧ (∀ q, s.ownerOf q = f → t.hq q = {}) ∧ (∀ q, s.ownerOf q ≠ f → t.hq q = s.hq q) ∧ s.busMaster 0 = t.busMaster 0 ∧
      t.busMaster f = false ∧ f ∈ t.host.flr ∧ t.rget HOST_EVENT.VF_RESET = 1 ∧ t.rget HOST_EVENT.VF = f ∧
      ((∃ e ∈ s.srv.ctxs, e.2.field .func = f) → f ∈ t.host.unbind) ∧ t.srv = s.srv ∧ t.mem.cells = s.mem.cells) ∧
    exec (.vfFlrCompletion f) s = .next { s with host := { s.host with flr := s.host.flr.filter fun g => decide (g ≠ f) } }) ∧
  (∀ (s : State), ∃ t : State, exec .vfEnableClear s = .next t ∧ t.host.vfOn = false ∧ t.rget HOST_STATUS.VFS = 0 ∧ t.srv = s.srv ∧ t.mem.cells = s.mem.cells ∧
    (s.host.vfOn = true → ∀ f, 0 < f → f ≤ s.rget HOST_STATUS.VFS → f ∈ t.host.flr)) ∧
  (∀ (s : State), ∃ t : State, exec .pf0Flr s = .next t ∧ t.host.vfOn = false ∧ t.rget HOST_STATUS.VFS = 0 ∧ (∀ q, s.ownerOf q = 0 → t.hq q = {}) ∧ t.busMaster 0 = false ∧
    t.plan.variants = s.plan.variants ∧ t.plan.active = s.plan.active ∧ t.mem.cells = s.mem.cells ∧ t.ports = s.ports) ∧
  (∀ (s : State), s.rget PWR_STATE.DSTATE = 0 → s.failSafe = false → s.pwr.exiting = false → s.pwr.waking = false → s.entering = false →
    ∃ t : State, exec .perstN s = .next t ∧ t.host.vfOn = false ∧ t.rget HOST_STATUS.GEN = 0 ∧ t.rget HOST_STATUS.WIDTH = 0 ∧ t.rget HOST_STATUS.FULL = 0 ∧
      (∀ q, s.ownerOf q = 0 → t.hq q = {}) ∧ t.plan.variants = s.plan.variants) ∧
  (∀ (s : State) (f : Nat) (on : Bool), f < 256 → s.host.paused = [] → s.fab.hostStage = [] → ∃ t : State, exec (.busMasterEnable f on) s = .next t ∧ t.busMaster f = on ∧
    (∀ g, g ≠ f → t.busMaster g = s.busMaster g) ∧ t.host.queues = s.host.queues ∧ t = { s with regs := t.regs, host := t.host }) ∧
  (∀ (s : State) (h : HostCmd) (desc trail : List Byte), s.commitOwns = false → s.failSafe = false → s.rget PWR_STATE.MOVING = 0 → s.rget PWR_STATE.DSTATE = 0 →
    h.func = 0 → cmdBadForm h cmdCtxCreate = false → s.busMaster 0 = false →
    exec (.ctxCreate h desc trail) s = .next { s with host := { s.host with paused := s.host.paused ++ [.ctxCreate h desc trail] } }) ∧
  (∀ (s u t : State) (h : HostCmd) (desc trail : List Byte), h.func = 0 → s.host.paused = [.ctxCreate h desc trail] →
    u = { s with host := { s.host with paused := [], bme := Assoc.put false s.host.bme 0 true } } → exec (.ctxCreate h desc trail) u = .next t →
    exec (.busMasterEnable 0 true) s = .next t.drainStage) ∧
  (∀ (s : State) (gen width : Nat) (flit : Bool), gen < 8 → width < 32 → ∃ t : State, exec (.pcieLinkTraining gen width flit) s = .next t ∧
    t.rget HOST_STATUS.GEN = gen ∧ t.rget HOST_STATUS.WIDTH = width ∧ t.rget HOST_STATUS.FLIT = (if flit then 1 else 0) ∧
    t.rget HOST_STATUS.FULL = (if gen = 6 ∧ width = 16 ∧ flit = true then 1 else 0) ∧ t = { s with regs := t.regs })

/-- R310 to R314, R316, R375: POWER_SET's cases in order, an entry's steps to their target, the losses of D3, which ends the ladder where CLK32K is absent, the commit point, the wake causes with CAUSES and FROM, and the wake's end in D0, after D3 with every crossing probed (R29) and a new key epoch. -/
def Obligations.DeviceStatesAndWakes : Prop :=
  (∀ (s : State) (h : HostCmd), plainCmd s h cmdPowerSet →
    (5 ≤ h.a0 → exec (.powerSet h) s = .next (s.reply h 0x50 0x03 0 0 0)) ∧
    (h.a0 = 0 → exec (.powerSet h) s = .next (s.reply h 0x50 0x00 0 0 0)) ∧
    (1 ≤ h.a0 → h.a0 < 5 → s.running = true → exec (.powerSet h) s = .next (s.reply h 0x50 0x01 0 0 0)) ∧
    (2 ≤ h.a0 → h.a0 < 5 → s.running = false → s.rget ROLL_STATUS.STATE ≠ 3 → exec (.powerSet h) s = .next (s.reply h 0x50 0x04 0 0 0)) ∧
    (1 ≤ h.a0 → h.a0 < 5 → s.running = false → s.rget ROLL_STATUS.STATE = 3 → s.rget PWR_WAKE.PEND = 1 →
      exec (.powerSet h) s = .next (s.reply h 0x50 0x11 0 0 0)) ∧
    (1 ≤ h.a0 → h.a0 < 5 → s.running = false → s.rget ROLL_STATUS.STATE = 3 → s.rget PWR_WAKE.PEND ≠ 1 →
      ∃ t : State, exec (.powerSet h) s = .next t ∧ t.rget PWR_STATE.TARGET = h.a0 ∧ t.rget PWR_STATE.MOVING = 1 ∧ t.rget PWR_STATE.DSTATE = 0 ∧
        t.pwr.step = 1 ∧ t.pwr.entryCmd = some h ∧ t = { s with regs := t.regs, pwr := t.pwr })) ∧
  (∀ s : State, (s.entering = true → s.pwr.step = 3 → exec .commitPoint s = .next { s with pwr := { s.pwr with committed := true } }) ∧
    (s.entering = false → exec .commitPoint s = .next s ∧ exec .entryStep s = .next s)) ∧
  (∀ (s : State) (bit : Nat) (c : Instr), s.failSafe = false → s.pwr.exiting = false → s.pwr.waking = false → s.rget PWR_STATE.MOVING = 0 →
    (c = .hostPm ∧ bit = 1 ∨ c = .timerWake ∧ bit = 5 ∧ s.rget PWR_WAKE_CFG.TIMER_S ≠ 0) →
    (s.rget PWR_STATE.DSTATE = 0 → exec c s = .next s) ∧
    (1 ≤ s.rget PWR_STATE.DSTATE → s.rget PWR_STATE.DSTATE ≤ 3 → ∃ t : State, exec c s = .next t ∧ t.rget PWR_WAKE.CAUSES = 2 ^ bit ∧
      t.rget PWR_WAKE.FROM = s.rget PWR_STATE.DSTATE ∧ t.rget PWR_STATE.TARGET = 0 ∧ t.rget PWR_STATE.MOVING = 1 ∧ t.pwr.exiting = true ∧
      t = { s with regs := t.regs, raised := t.raised, pwr := t.pwr })) ∧
  (∀ s : State, s.rget PWR_WAKE_CFG.TIMER_S = 0 → exec .timerWake s = .next s) ∧
  (∀ (s : State) (n : Nat), s.entering = true → s.pwr.step = n → s.failSafe = false → s.pwr.waking = false → s.host.held = [] → s.frame.phase = .idle →
    (1 ≤ n → n ≤ 2 → s.rget PWR_STATE.TARGET = n → ∃ t : State, exec .entryStep s = .next t ∧ t.rget PWR_STATE.DSTATE = n ∧ t.rget PWR_STATE.MOVING = 0 ∧
      t.pwr.entryCmd = none ∧ t.mem.cells = s.mem.cells ∧ t.srv = s.srv ∧ t.cores = s.cores) ∧
    (1 ≤ n → n ≤ 2 → n < s.rget PWR_STATE.TARGET → ∃ t : State, exec .entryStep s = .next t ∧ t.rget PWR_STATE.DSTATE = n ∧ t.pwr.step = n + 1 ∧
      t.rget PWR_STATE.MOVING = s.rget PWR_STATE.MOVING ∧ t.mem.cells = s.mem.cells) ∧
    (n = 3 → (s.rget PWR_STATE.TARGET = 3 ∨ s.rget PWR_STATE.TARGET = 4 ∧ s.pwr.clk32k = false) → ∃ t : State, exec .entryStep s = .next t ∧
      t.rget PWR_STATE.DSTATE = 3 ∧ t.rget PWR_STATE.MOVING = 0 ∧ t.mem = {} ∧ t.cores = [] ∧ t.srv = {} ∧ t.roll = {} ∧ t.ports = [] ∧
      t.rget IDENT_DOMAIN.DEVICE_ID = s.rget IDENT_DOMAIN.DEVICE_ID)) ∧
  (∀ (s : State) (probes : List (Nat × Nat × Nat)),
    ((s.pwr.exiting = false ∨ s.exitProbed probes = false) → exec (.d0Reached probes) s = .next s) ∧
    (s.pwr.exiting = true → s.exitProbed probes = true → s.failSafe = false → s.host.held = [] → ∃ t : State, exec (.d0Reached probes) s = .next t ∧ t.rget PWR_STATE.DSTATE = 0 ∧
      t.rget PWR_STATE.MOVING = 0 ∧ t.rget PWR_EVENT.WAKE = 1 ∧ t.pwr.exiting = false ∧ t.pwr.waiters = [] ∧
      (3 ≤ s.rget PWR_WAKE.FROM → t.rget MEM_CRYPT.KEY_EPOCH = (s.rget MEM_CRYPT.KEY_EPOCH + 1) % 2 ^ MEM_CRYPT.KEY_EPOCH.width) ∧
      (s.rget PWR_WAKE.FROM < 3 → t.rget MEM_CRYPT.KEY_EPOCH = s.rget MEM_CRYPT.KEY_EPOCH)))

/-- R319, R320, R323, R324, R326, R334, R344, R345, R373: a region sleeps from START to END, and one that has been at P5 has lost its core's state and recalibrates; the sampled power is the sum of rail currents times voltages and 1 W; a window of ten samples above the allowance lowers the power clamp by 18 MHz to its floor; over-power, critical heat and a silent or low rail enter the
fail-safe state; a hot region's clamp falls; 10 ms at CRIT_C powers off; a ready rail releases what waits; a watchdog restarts the firmware alone. -/
def Obligations.PowerHeatAndRails : Prop :=
  (∀ (s : State) (r : Nat), isCoreRegion r = true →
    (s.frame.phase ≠ .inFrame → exec (.sleepStart r) s = .next s) ∧
    (∀ e, s.frame.phase = .inFrame → ((s.sleepsOf r).find? fun e => decide (e.start ≤ s.ftick) && decide (s.ftick < e.stop)) = some e →
      (s.region r).sleep = none → 3 ≤ s.sleepState r e.state → s.sleepState r e.state < 8 → s.openAccesses r = 0 →
      ∃ t : State, exec (.sleepStart r) s = .next t ∧ t.rget PWR_REGION.PSTATE r = s.sleepState r e.state ∧ t.rget PWR_REGION.SCHED r = 1 ∧
        t.rget FAB_GATE.STATE r = 2 ∧ (t.region r).sleep = some (e.start, e.stop, s.sleepState r e.state) ∧
        (s.sleepState r e.state ≠ 5 → s.rget PWR_REGION.PSTATE r ≠ 5 → t = { s with regs := t.regs, clk := t.clk }) ∧
        (s.sleepState r e.state = 5 → s.rget PWR_REGION.PSTATE r ≠ 5 → ∀ c, s.coreOfRegion r = some c → t.core c = {})) ∧
    ((s.region r).sleep = none → exec (.sleepExit r) s = .next s) ∧
    (∀ x, (s.region r).sleep = some x → s.frame.phase = .idle → ∃ t : State, exec (.sleepExit r) s = .next t ∧ t.rget PWR_REGION.PSTATE r = 0 ∧
      t.rget PWR_REGION.SCHED r = 0 ∧ t.rget FAB_GATE.STATE r = 0 ∧ (t.region r).sleep = none ∧
      (s.rget FAB_GATE.STATE r = 1 → t.rget PWR_EVENT.SLEEP_SHORT = 1) ∧ (t.region r).tick = s.gst ∧
      (s.rget PWR_REGION.PSTATE r = 5 → (r, s.gst) ∈ t.rgr.leaving) ∧ t = { s with regs := t.regs, raised := t.raised, clk := t.clk, rgr := t.rgr })) ∧
  (∀ (s : State) (ma : List Nat), ∃ t : State, exec (.powerSample ma) s = .next t ∧ t.pwr.samples = s.pwr.samples + 1 ∧
    t.pwr.sumW = s.pwr.sumW + ((List.range 8).map fun k => ma.getD k 0 * (if k < 3 then s.rget RGR_AVS.READ_MV k else nominalMv k)).sum / 1000 + 1000 ∧
    t = { s with pwr := t.pwr }) ∧
  (∀ s : State, s.pwr.samples < 10 → exec .powerWindow s = .next s) ∧
  (∀ s : State, 10 ≤ s.pwr.samples → s.rget CLK_STATUS.RATE_IDX < 6 →
    (s.rget PWR_MEASURE.PCLAMP_MHZ = 2047 → 1000 * s.pwr.samples * s.rget PWR_ALLOW.ALLOW_W < s.pwr.sumW →
      ∃ t : State, exec .powerWindow s = .next t ∧
        t.rget PWR_MEASURE.PCLAMP_MHZ = Nat.max (ceilFloor (s.rget CLK_STATUS.RATE_IDX)) (defaultCeil (s.rget CLK_STATUS.RATE_IDX) - 18) ∧
        t.rget PWR_EVENT.CLAMP_ON = 1 ∧ t.pwr.samples = 0 ∧ t.pwr.sumW = 0 ∧
        t.rget PWR_MEASURE.MEAS_W = Nat.min 2047 (s.pwr.sumW / (1000 * s.pwr.samples)) ∧ t = { s with regs := t.regs, raised := t.raised, pwr := t.pwr, out := t.out }) ∧
    (s.pwr.sumW ≤ 1000 * s.pwr.samples * s.rget PWR_ALLOW.ALLOW_W → 1000 * s.pwr.samples * (s.rget PWR_ALLOW.ALLOW_W - 25) ≤ s.pwr.sumW →
      ∃ t : State, exec .powerWindow s = .next t ∧ t.rget PWR_MEASURE.PCLAMP_MHZ = s.rget PWR_MEASURE.PCLAMP_MHZ ∧ t.pwr.samples = 0 ∧
        t = { s with regs := t.regs, pwr := t.pwr })) ∧
  (∀ s : State, (s.pwr.overMs100 < 10 → exec .overPower s = .next s) ∧
    (10 ≤ s.pwr.overMs100 → s.failSafe = false → ∃ t : State, exec .overPower s = .next t ∧ t.rget RGR_STATUS.MODE = 1 ∧ t.rget RGR_FS.CAUSE = 0x41)) ∧
  (∀ (s : State) (r c : Nat), isCoreRegion r = true → s.failSafe = false → c < 256 →
    (s.rget PWR_THERM.HOT_C ≤ c → c < s.rget PWR_THERM.CRIT_C → (s.region r).thermal ≠ 2047 →
      ∃ t : State, exec (.thermalClamp r c) s = .next t ∧ (t.region r).thermal = Nat.max 900 ((s.region r).thermal - 18) ∧ t.rget PWR_EVENT.THERM_HOT = 1 ∧
        t.rget PWR_REGION.TEMP_C r = c ∧ t.rget RGR_STATUS.MODE = s.rget RGR_STATUS.MODE) ∧
    (c < s.rget PWR_THERM.HOT_C → s.rget PWR_THERM.HOT_C < c + 5 → c < s.rget PWR_THERM.CRIT_C →
      ∃ t : State, exec (.thermalClamp r c) s = .next t ∧ (t.region r).thermal = (s.region r).thermal ∧ t.rget PWR_REGION.TEMP_C r = c ∧ t.out = s.out) ∧
    (s.rget PWR_THERM.CRIT_C ≤ c → ∃ t : State, exec (.thermalClamp r c) s = .next t ∧ t.rget RGR_STATUS.MODE = 1 ∧ t.rget RGR_FS.CAUSE = 0x40 ∧
      t.rget RGR_FS.REGION = r)) ∧
  (∀ s : State, (s.failSafe = false → exec .thermalShutdown s = .next s) ∧
    (s.failSafe = true → s.rget RGR_FS.CAUSE = 0x40 → (∃ r, r < 288 ∧ 100 ≤ (s.region r).critMs) →
      ∃ t : State, exec .thermalShutdown s = .next t ∧ t.rgr.powerOff = true ∧ t.mem = {} ∧ t.cores = [])) ∧
  (∀ (s : State) (rail mv amps : Nat), rail < 3 → mv < 4096 → amps < 65536 → s.failSafe = false →
    (s.rget RGR_AVS.TARGET_MV rail ≤ mv + 25 → ∃ t : State, exec (.avsbusReadback rail true mv amps) s = .next t ∧ t.rget RGR_AVS.READ_MV rail = mv ∧
      t.rget RGR_AVS.READ_A rail = amps ∧ t.rget RGR_AVS.ERR rail = 0 ∧ t = { s with regs := t.regs, rgr := t.rgr } ∧ t.failSafe = false) ∧
    (Assoc.get 0 s.rgr.avsMiss rail < 2 → ∃ t : State, exec (.avsbusReadback rail false mv amps) s = .next t ∧ t.rget RGR_AVS.ERR rail = 1 ∧
      Assoc.get 0 t.rgr.avsMiss rail = Assoc.get 0 s.rgr.avsMiss rail + 1 ∧ t.failSafe = false) ∧
    (Assoc.get 0 s.rgr.avsMiss rail = 2 → ∃ t : State, exec (.avsbusReadback rail false mv amps) s = .next t ∧ t.rget RGR_STATUS.MODE = 1 ∧ t.rget RGR_FS.CAUSE = 0x43)) ∧
  (∀ (s : State) (rail : Nat), rail < 2 →
    (s.railReady rail = false → exec (.ceilingRelease rail) s = .next s) ∧
    (s.railReady rail = true → ∃ t : State, exec (.ceilingRelease rail) s = .next t ∧
      ∀ i, i < 136 → (s.region (144 * rail + i)).ceilPend.isSome = true → (t.region (144 * rail + i)).ceilReady = true)) ∧
  (∀ s : State, ∃ t : State, exec .watchdog s = .next t ∧ t.rgr.running = false ∧ t.rgr.sessions = [] ∧ t.rget RGR_STATUS.SESSIONS = 0 ∧
    t = { s with regs := t.regs, rgr := t.rgr })

/-- R322, R328, R335, R336, R341, R346, R351, R352, R364: a management message that does not reach a running Ranger changes nothing;
a command outside an authenticated session, or with a sequence number already passed, is answered NOT_PERMITTED and changes nothing;
inside a session each has its effect and its status. A session opens by KEY_EXCHANGE, at most two at once, is authenticated by FINISH,
and ends by END_SESSION or expiry. -/
def Obligations.ManagementSessionsAndCommands : Prop :=
  (∀ (s : State) (m : MgmtMsg) (a b : Nat) (data : List Byte) (c : Instr) (code : Nat), sessionRow m a b data c code →
    (s.hears m code = false → exec c s = .next s) ∧
    (s.hears m code = true → s.inSession m = false → exec c s = .next (s.mgmtAnswer m code 0x04 []))) ∧
  (∀ (s : State) (m : MgmtMsg) (a b : Nat) (c : Instr) (code : Nat), plainRow m a b c code → s.hears m code = false → exec c s = .next s) ∧
  (∀ (s : State) (m : MgmtMsg) (a b : Nat), s.inSession m = true → (∀ code, s.hears m code = true) →
    (s.running = true → ∃ t : State, exec (.idAssign m a b) s = .next (t.mgmtAnswer m 0x7F01 0x01 []) ∧ t.rget FAB_ID.RESULT = 2 ∧
      t = { s.took m with regs := t.regs }) ∧
    (s.running = false → (∀ p, p < 18 → s.rget KL_PORT_STATUS.STATE p ≠ 7) → a < 2 ^ 14 → ∃ t : State,
      exec (.idAssign m a b) s = .next (t.mgmtAnswer m 0x7F01 0x00 []) ∧ t.rget IDENT_DOMAIN.DEVICE_ID = a ∧ t.rget IDENT_DOMAIN.ID_VALID = 1 ∧
      t.rget FAB_ID.RESULT = 1 ∧ t = { s.took m with regs := t.regs, fab := t.fab }) ∧
    (800 ≤ a → a ≤ 1600 → 20 ≤ b → b ≤ 200 → ∃ t : State, exec (.allowSet m a b) s = .next (t.mgmtAnswer m 0x7F02 0x00 []) ∧
      t.rget PWR_ALLOW.ALLOW_W = a ∧ t.rget PWR_ALLOW.HARD_W = b ∧ (s.rget PWR_ALLOW.ALLOW_W ≤ a → t = { s.took m with regs := t.regs })) ∧
    (a < 800 ∨ 1600 < a ∨ b < 20 ∨ 200 < b → exec (.allowSet m a b) s = .next ((s.took m).mgmtAnswer m 0x7F02 0x03 [])) ∧
    (70 ≤ a → a ≤ 105 → a + 5 ≤ b → b ≤ 120 → ∃ t : State, exec (.thermSet m a b) s = .next (t.mgmtAnswer m 0x7F03 0x00 []) ∧
      t.rget PWR_THERM.HOT_C = a ∧ t.rget PWR_THERM.CRIT_C = b ∧ t = { s.took m with regs := t.regs }) ∧
    (a < 70 ∨ 105 < a ∨ b < a + 5 ∨ 120 < b → exec (.thermSet m a b) s = .next ((s.took m).mgmtAnswer m 0x7F03 0x03 [])) ∧
    ((∃ pf0, m.path = .pcie pf0) → exec (.wake m) s = .next ((s.took m).mgmtAnswer m 0x7F04 0x04 [])) ∧
    (m.path = .i3c ∨ m.path = .mgt → s.failSafe = false → s.pwr.exiting = false → s.pwr.waking = false → s.rget PWR_STATE.MOVING = 0 →
      1 ≤ s.rget PWR_STATE.DSTATE → s.rget PWR_STATE.DSTATE ≤ 4 → ∃ t : State, exec (.wake m) s = .next (t.mgmtAnswer m 0x7F04 0x00 []) ∧
      t.rget PWR_WAKE.CAUSES = 16 ∧ t.rget PWR_STATE.MOVING = 1 ∧ t.rget PWR_WAKE.FROM = s.rget PWR_STATE.DSTATE ∧
      t = { s.took m with regs := t.regs, raised := t.raised, pwr := { s.pwr with exiting := true } }) ∧
    (s.rgr.supplyLoss = false → s.rgr.powerOff = false → ∃ t : State, exec (.deviceReset m) s = .next t ∧ t.rget RGR_RESET.CAUSE = 2 ∧ t.plan = {} ∧ t.mem = {} ∧ t.srv = {} ∧
      t.cores = [] ∧ t.pending = s.pending ∧ t.rgr.sessions = [] ∧ t.rget RGR_BOOTS.COUNT = Nat.min (s.rget RGR_BOOTS.COUNT + 1) (2 ^ 32 - 1)) ∧
    (s.failSafe = false → ∃ t : State, exec (.failsafeEnter m) s = .next (t.mgmtAnswer m 0x7F06 0x00 []) ∧ t.rget RGR_STATUS.MODE = 1 ∧ t.rget RGR_FS.CAUSE = 0x44) ∧
    (2 ≤ a → a ≤ 7 → ∃ t : State, exec (.bivouacSet m a) s = .next (t.mgmtAnswer m 0x7F07 0x00 []) ∧ t.rget RGR_RESET.BIVOUAC_N = a ∧
      t = { s.took m with regs := t.regs }) ∧
    (a < 2 ∨ 7 < a → exec (.bivouacSet m a) s = .next ((s.took m).mgmtAnswer m 0x7F07 0x03 [])) ∧
    (s.bivouac = false → exec (.bivouacExit m) s = .next ((s.took m).mgmtAnswer m 0x7F08 0x01 [])) ∧
    (s.bivouac = true → ∃ t : State, exec (.bivouacExit m) s = .next t ∧ t.bivouac = false ∧ t.rgr.bivouacFlag = false ∧ t.rget RGR_RESET.FAILED = 0) ∧
    (∃ t : State, exec (.linkMasterSet m a) s = .next (t.mgmtAnswer m 0x7F09 0x00 []) ∧ t.rgr.linkKey = some (a % 2 ^ 256) ∧ t.rget RGR_MGMT.LINK_KEY = 1 ∧
      t = { s with regs := t.regs, rgr := t.rgr }) ∧
    (∃ t : State, exec (.logClear m 1) s = .next (t.mgmtAnswer m 0x7F0A 0x00 []) ∧ t.rgr.rej = [] ∧ t.rget RGR_REJ_HEAD.HEAD = 0 ∧ t.rget RGR_REJ_HEAD.COUNT = 0 ∧
      t.rget RGR_FS.CAUSE = s.rget RGR_FS.CAUSE) ∧
    (∃ t : State, exec (.logClear m 2) s = .next (t.mgmtAnswer m 0x7F0A 0x00 []) ∧ t.rget RGR_FS.CAUSE = 0 ∧ t.rget RGR_FS.REGION = 511 ∧ t.rgr.rej = s.rgr.rej) ∧
    (if Config.signatureValid s.rootDigest (bytesOf a 48) b then
       ∃ t : State, exec (.rootRotate m a b) s = .next (t.mgmtAnswer m 0x7F0B 0x00 []) ∧ (∀ k, k < 6 → t.rget RGR_ROOT.DIGEST k = bitsOf a (64 * k) 64) ∧
         t = { s.took m with regs := t.regs }
     else exec (.rootRotate m a b) s = .next ((s.took m).mgmtAnswer m 0x7F0B 0x08 []))) ∧
  (∀ (s : State) (m : MgmtMsg) (die i spare : Nat), (die < 2 ∧ i < 136 → s.inSession m = true ∧ s.hears m 0x7F0C = true) →
    (die < 2 → i < 136 → s.coreOfRegion (144 * die + i) = none → exec (.coreRetire m die i) s = .next ((s.took m).mgmtAnswer m 0x7F0C 0x01 [])) ∧
    (die < 2 → i < 136 → (s.coreOfRegion (144 * die + i)).isSome = true → s.rgr.retireTry = none → s.rgr.retire = none → s.lowestSpare die = some spare →
      ∃ t : State, exec (.coreRetire m die i) s = .next (t.mgmtAnswer m 0x7F0C 0x00 []) ∧ t.rget RGR_RETIRE.PENDING = 1 ∧ t.rget RGR_RETIRE.PCORE = i ∧
        t.rget RGR_RETIRE.PDIE = die ∧ t.rget RGR_RETIRE.SPARE = spare % 144 ∧ t.rget RGR_RETIRE.RESULT = 0 ∧ t.rgr.retireTry = some (144 * die + i) ∧
        (spare, s.gst) ∈ t.rgr.leaving) ∧
    (die < 2 → i < 136 → (s.coreOfRegion (144 * die + i)).isSome = true → s.rgr.retireTry = none → s.rgr.retire = none → s.lowestSpare die = none →
      ∃ t : State, exec (.coreRetire m die i) s = .next (t.mgmtAnswer m 0x7F0C 0x00 []) ∧ t.rget RGR_RETIRE.PENDING = 1 ∧ t.rget RGR_RETIRE.RESULT = 2 ∧
        t.rgr.retire = some (144 * die + i, 288) ∧ t = { s with regs := t.regs, rgr := t.rgr }) ∧
    (2 ≤ die ∨ 136 ≤ i → exec (.coreRetire m die i) s = .next s)) ∧
  (∀ (s : State) (n : Nat), s.rgr.sessions.length ≤ 2 →
    ∃ t : State, exec (.sessionExpiry n) s = .next t ∧ t.rgr.sessions = s.rgr.sessions.filter (fun x => x.id ≠ n) ∧ t.rget RGR_STATUS.SESSIONS = t.rgr.sessions.length) ∧
  (∀ (s : State) (m : MgmtMsg), s.rgr.sessions.length ≤ 2 → (∀ code, s.hears m code = true) →
    (s.inSession m = true → (∃ t : State, exec (.endSession m) s = .next (t.mgmtAnswer m 0x05EC 0x00 []) ∧
      t.rgr.sessions = s.rgr.sessions.filter (fun x => x.id ≠ m.session) ∧ t.rget RGR_STATUS.SESSIONS = t.rgr.sessions.length) ∧
      (∃ t : State, exec (.spdmHeartbeat m) s = .next ((s.took m).mgmtAnswer m 0x05E8 0x00 []) ∧ t = (s.took m).mgmtAnswer m 0x05E8 0x00 [] ∧
        t.inSession m = false ∧ exec (.spdmHeartbeat m) t = .next (t.mgmtAnswer m 0x05E8 0x04 [])) ∧
      (∀ op, op = 1 ∨ op = 2 → ∃ t : State, exec (.keyUpdate m op) s = .next (t.mgmtAnswer m 0x05E9 0x00 []) ∧
        (∀ x ∈ s.rgr.sessions, x.id = m.session → { x with keyGen := x.keyGen + 1, seq := m.seq + 1 } ∈ t.rgr.sessions)) ∧
      (∀ op, op ≠ 1 → op ≠ 2 → exec (.keyUpdate m op) s = .next ((s.took m).mgmtAnswer m 0x05E9 (if op = 3 then 0x00 else 0x03) []))) ∧
    (∀ e : Nat,
      (s.rgr.algosOk = false → exec (.keyExchange m e) s = .next (s.mgmtAnswer m 0x05E4 0x04 [])) ∧
      (s.rgr.algosOk = true → s.rgr.sessions.length = 2 → exec (.keyExchange m e) s = .next (s.mgmtAnswer m 0x05E4 0x01 [])) ∧
      (s.rgr.algosOk = true → s.rgr.sessions.length < 2 → ∃ t : State, exec (.keyExchange m e) s = .next t ∧
        t.rgr.sessions = s.rgr.sessions ++ [{ id := s.rgr.nextSession, authed := false, pf0 := decide (m.path = .pcie true) }] ∧
        t.rget RGR_STATUS.SESSIONS = s.rgr.sessions.length + 1)) ∧
    (∀ root sig : Nat, (s.rgr.sessions.any fun x => decide (x.id = m.session) && !x.authed) = true →
      if root = s.rootDigest ∧ Config.signatureValid root (bytesOf m.session 4) sig = true then
        ∃ t : State, exec (.finish m root sig) s = .next t ∧ (∀ x ∈ s.rgr.sessions, x.id = m.session → { x with authed := true } ∈ t.rgr.sessions)
      else exec (.finish m root sig) s = .next (s.mgmtAnswer m 0x05E5 0x04 [])) ∧
    (∀ root sig : Nat, (s.rgr.sessions.any fun x => decide (x.id = m.session) && !x.authed) = false →
      exec (.finish m root sig) s = .next (s.mgmtAnswer m 0x05E5 0x04 [])))

/-- R337 to R341, R353 to R355: a firmware update over PLDM goes through its stages in order, inside a session, and leaves the image in the inactive slot; the endpoint's other answers, its I3C addresses and its MGT port. -/
def Obligations.UpdatesAndAnswers : Prop :=
  (∀ (s : State) (m : MgmtMsg) (a kind v size : Nat), s.inSession m = true → (∀ code, romOffers code = true → s.hears m code = true) →
    (s.rgr.pldmState = 0 → ∃ t : State, exec (.requestUpdate m a) s = .next (t.mgmtAnswer m 0x010510 0x00 []) ∧
      t = { s.took m with rgr := { (s.took m).rgr with pldmState := 1, pldmMax := Nat.min a 1024 } }) ∧
    (s.rgr.pldmState ≠ 0 → exec (.requestUpdate m a) s = .next ((s.took m).mgmtAnswer m 0x010510 0x01 [])) ∧
    (s.rgr.pldmState = 1 ∨ s.rgr.pldmState = 2 → kind < 4 → exec (.passComponentTable m kind v) s = .next (((s.took m).setPldm 2).mgmtAnswer m 0x010513 0x00 [])) ∧
    (s.rgr.pldmState = 1 ∨ s.rgr.pldmState = 2 → 4 ≤ kind → exec (.passComponentTable m kind v) s = .next ((s.took m).mgmtAnswer m 0x010513 0x03 [])) ∧
    (s.rgr.pldmState = 2 → kind < 4 → (s.romOnly = false ∨ kind = 1) → s.rget RGR_UPD.TRIAL kind = 0 → size ≤ slotBytes kind →
      ∃ t : State, exec (.updateComponent m kind v size) s = .next (t.mgmtAnswer m 0x010514 0x00 []) ∧ t.rget RGR_UPD.OTHER kind = 1 ∧ t.rgr.pldmState = 3 ∧
        t.rgr.pldmKind = kind ∧ t.rgr.pldmSize = size ∧ t.rgr.pldmData = [] ∧ t = { s with regs := t.regs, rgr := t.rgr }) ∧
    (s.rgr.pldmState = 2 → kind < 4 → (s.romOnly = false ∨ kind = 1) → s.rget RGR_UPD.TRIAL kind = 1 →
      exec (.updateComponent m kind v size) s = .next ((s.took m).mgmtAnswer m 0x010514 0x01 [])) ∧
    (s.rgr.pldmState = 2 → s.romOnly = true → kind ≠ 1 → exec (.updateComponent m kind v size) s = .next ((s.took m).mgmtAnswer m 0x010514 0x03 [])) ∧
    (∀ bs : List Byte, s.rgr.pldmState = 3 → s.rgr.pldmData.length + bs.length ≤ s.rgr.pldmSize → bs.length ≤ s.rgr.pldmMax →
      ∃ t : State, exec (.requestFirmwareData m s.rgr.pldmData.length bs) s = .next (t.mgmtAnswer m 0x010515 0x00 []) ∧
        t = { s.took m with rgr := { (s.took m).rgr with pldmData := s.rgr.pldmData ++ bs } }) ∧
    (∀ bs : List Byte, s.rgr.pldmState = 3 → s.rgr.pldmMax < bs.length →
      exec (.requestFirmwareData m s.rgr.pldmData.length bs) s = .next ((s.took m).mgmtAnswer m 0x010515 0x03 [])) ∧
    (s.rgr.pldmState = 3 → s.rgr.pldmData.length = s.rgr.pldmSize → s.rgr.pldmKind < 4 → ∃ t : State, exec (.transferComplete m 0) s = .next (t.mgmtAnswer m 0x010516 0x00 []) ∧
      t.rget RGR_UPD.OTHER s.rgr.pldmKind = 2 ∧ t.rgr.pldmState = 4 ∧
      (t.fwSlot s.rgr.pldmKind (1 - s.rget RGR_UPD.ACTIVE s.rgr.pldmKind)).image = s.rgr.pldmData) ∧
    (s.rgr.pldmState = 4 → s.rgr.pldmKind < 4 →
      if s.fwVerify s.rgr.pldmKind (s.otherImage s.rgr.pldmKind) = 0 then ∃ t : State, exec (.verifyComplete m) s = .next (t.mgmtAnswer m 0x010517 0x00 []) ∧
        t.rget RGR_UPD.OTHER s.rgr.pldmKind = 3 ∧ t.rgr.pldmState = 5
      else ∃ t : State, exec (.verifyComplete m) s = .next (t.mgmtAnswer m 0x010517 (s.fwVerify s.rgr.pldmKind (s.otherImage s.rgr.pldmKind)) []) ∧
        t.rget RGR_UPD.OTHER s.rgr.pldmKind = s.rget RGR_UPD.OTHER s.rgr.pldmKind) ∧
    (s.rgr.pldmState = 5 → exec (.applyComplete m) s = .next (((s.took m).setPldm 2).mgmtAnswer m 0x010518 0x00 [])) ∧
    (s.rgr.pldmState = 2 → s.rgr.pldmKind = 2 → s.activateStatus 2 = 0 → fwResetActivate (s.otherImage 2) = false → s.rget RGR_UPD.ACTIVE 2 ≤ 1 →
      ∃ t : State, exec (.activateFirmware m) s = .next (t.mgmtAnswer m 0x01051A 0x00 []) ∧ t.rget RGR_UPD.ACTIVE 2 = 1 - s.rget RGR_UPD.ACTIVE 2 ∧
        t.rget RGR_UPD.TRIAL 2 = 1 ∧ t.rget RGR_UPD.TRIALS 2 = 0 ∧ t.rget RGR_UPD.TRIAL_MAX 2 = 3 ∧ t.rgr.pldmState = 0) ∧
    (s.rgr.pldmState = 2 → s.activateStatus s.rgr.pldmKind ≠ 0 →
      exec (.activateFirmware m) s = .next ((s.took m).mgmtAnswer m 0x01051A (s.activateStatus s.rgr.pldmKind) [])) ∧
    exec (.cancelUpdate m) s = .next (((s.took m).setPldm 0).mgmtAnswer m 0x01051D 0x00 []) ∧
    exec (.getStatus m) s = .next ((s.took m).mgmtAnswer m 0x01051B 0x00 (bytesOf s.rgr.pldmState 1))) ∧
  (∀ (s : State) (m : MgmtMsg) (a n off len : Nat), (∀ code, s.hears m code = true) →
    exec (.getVersion m) s = .next (s.mgmtAnswer m 0x0584 0 (Config.mgmtPayload 0x0584 0)) ∧
    exec (.getCapabilities m) s = .next (s.mgmtAnswer m 0x05E1 0 (Config.mgmtPayload 0x05E1 0)) ∧
    (∃ t : State, exec (.negotiateAlgorithms m 31) s = .next (t.mgmtAnswer m 0x05E3 0 [31]) ∧ t = { s with rgr := { s.rgr with algosOk := true } }) ∧
    exec (.getDigests m) s = .next (s.mgmtAnswer m 0x0581 0 (Config.mgmtPayload 0x0581 0)) ∧
    exec (.getCertificate m 0 off len) s = .next (s.mgmtAnswer m 0x0582 0 (((Config.mgmtPayload 0x0582 0).drop off).take len)) ∧
    exec (.challenge m 0 n) s = .next (s.mgmtAnswer m 0x0583 0 (Config.mgmtPayload 0x0583 n)) ∧ exec (.challenge m 1 n) s = .next (s.mgmtAnswer m 0x0583 0x03 []) ∧
    exec (.getMeasurements m 0 n) s = .next (s.mgmtAnswer m 0x05E0 0 [6]) ∧
    exec (.getMeasurements m 1 n) s = .next (s.mgmtAnswer m 0x05E0 0 (sha384 (s.activeImageOf 1))) ∧
    (6 < a → a < 255 → exec (.getMeasurements m a n) s = .next (s.mgmtAnswer m 0x05E0 0x03 [])) ∧
    (a < 256 → ∃ t : State, exec (.setEndpointId m a) s = .next (t.mgmtAnswer m 0x0001 0 (bytesOf a 1)) ∧ t.rget RGR_MGMT.EID = a ∧ t = { s with regs := t.regs }) ∧
    exec (.getEndpointId m) s = .next (s.mgmtAnswer m 0x0002 0 (bytesOf (s.rget RGR_MGMT.EID) 1)) ∧
    exec (.getEndpointUuid m) s = .next (s.mgmtAnswer m 0x0003 0 (Config.mgmtPayload 0x0003 0)) ∧
    exec (.getMctpVersionSupport m 5) s = .next (s.mgmtAnswer m 0x0004 0 (Config.mgmtPayload 0x0004 5)) ∧ exec (.getMctpVersionSupport m 2) s = .next (s.mgmtAnswer m 0x0004 0x03 []) ∧
    exec (.getMessageTypeSupport m) s = .next (s.mgmtAnswer m 0x0005 0 [0x00, 0x01, 0x05, 0x06, 0x7F]) ∧ exec (.getTid m) s = .next (s.mgmtAnswer m 0x010002 0 (bytesOf s.rgr.tid 1)) ∧
    exec (.getPldmVersion m 5) s = .next (s.mgmtAnswer m 0x010003 0 (Config.mgmtPayload 0x010003 5)) ∧ exec (.getPldmTypes m) s = .next (s.mgmtAnswer m 0x010004 0 [0, 2, 5]) ∧
    exec (.getPldmCommands m 2) s = .next (s.mgmtAnswer m 0x010005 0 (Config.mgmtPayload 0x010005 2)) ∧ exec (.getPldmCommands m 1) s = .next (s.mgmtAnswer m 0x010005 0x03 []) ∧
    exec (.getPdr m a) s = .next (s.mgmtAnswer m 0x010251 0 (Config.mgmtPayload 0x010251 a)) ∧
    exec (.getSensorReading m 0) s = .next (s.mgmtAnswer m 0x010211 0 (bytesOf (s.rget PWR_MEASURE.MEAS_W) 4)) ∧
    exec (.getSensorReading m 1) s = .next (s.mgmtAnswer m 0x010211 0 (bytesOf (s.rget PWR_THERM.MAX_C) 4)) ∧ exec (.getSensorReading m 20) s = .next (s.mgmtAnswer m 0x010211 0x03 [])) ∧
  (∀ (s : State) (code status : Nat) (bs : List Byte) (m : MgmtMsg),
    (m.path = .i3c → s.mgmtAnswer m code status bs = (s.emit (.mgmt .i3c code status bs)).emit (.ibi 0x03)) ∧
    (m.path ≠ .i3c → s.mgmtAnswer m code status bs = s.emit (.mgmt m.path code status bs))) ∧
  (∀ (s : State) (a b : Nat), a < 128 → b < 128 →
    (s.rget RGR_MGMT.I3C_DA = 0 → (∃ t : State, exec (.entdaa a) s = .next t ∧ t.rget RGR_MGMT.I3C_DA = a ∧ t = { s with regs := t.regs }) ∧ exec .hotJoin s = .next (s.emit (.ibi 0))) ∧
    (s.rget RGR_MGMT.I3C_DA ≠ 0 → exec (.entdaa a) s = .next s ∧ exec .hotJoin s = .next s) ∧
    (b = s.rget RGR_MGMT.I3C_SA → ∃ t : State, exec (.setdasa b a) s = .next t ∧ t.rget RGR_MGMT.I3C_DA = a ∧ t = { s with regs := t.regs }) ∧
    (b ≠ s.rget RGR_MGMT.I3C_SA → exec (.setdasa b a) s = .next s)) ∧
  (∀ (s : State) (ip ident : Nat), s.rget RGR_MGMT.MGT_UP = 1 →
    (s.rgr.mgtIps.contains ip = true → exec (.arp ip) s = .next (s.emit (.mgt 0x0806 ip))) ∧
    (s.rgr.mgtIps.contains ip = true ∨ ip = Config.mgtLinkLocal → exec (.ndp ip) s = .next (s.emit (.mgt 0x3A88 ip)) ∧
      exec (.icmpEcho ip ident) s = .next (s.emit (.mgt 0x0800 ident))) ∧
    (s.rgr.mgtIps.contains ip = false → exec (.arp ip) s = .next s)) ∧
  (∀ (s : State) (ip ident : Nat), s.rget RGR_MGMT.MGT_UP = 0 → exec (.arp ip) s = .next s ∧ exec (.ndp ip) s = .next s ∧ exec (.icmpEcho ip ident) s = .next s) ∧
  (∀ (s : State) (up : Bool), ∃ t : State, exec (.mgtLinkUp up) s = .next t ∧ t.rget RGR_MGMT.MGT_UP = (if up then 1 else 0) ∧ t = { s with regs := t.regs })

/-- R8, R12, R29, R333, R346, R348 to R352, R355, R369, R370, R374: a power-on reset and SYS_RST_N lose the device's state, record their cause and make a start due; the start goes B0 to B5 and READY, each phase's failure with its reason and one more in FAILED; enough failures, or two bad Ranger slots, end in Bivouac mode; a retry resets, SETTLED clears FAILED; VDD_AO's loss, straps, rails and JTAG's instructions. -/
def Obligations.StartsGoPhaseByPhase : Prop :=
  (∀ (s : State) (bad : Bool), s.rgr.supplyLoss = false → s.rgr.powerOff = false → ∃ t : State, exec (.powerOnReset bad) s = .next t ∧ t.rget RGR_RESET.CAUSE = 0 ∧ t.rgr.sysRst = false ∧
    t.rgr.startDue = true ∧ t.plan = {} ∧ t.mem = {} ∧ t.srv = {} ∧ t.cores = [] ∧ t.ports = [] ∧ t.host = {} ∧ t.pwr = {} ∧ t.rgr.rej = [] ∧ t.pending = s.pending ∧
    t.rget RGR_NVREC.BAD = (if bad then 1 else 0) ∧ (∀ k, k < 4 → t.rget RGR_UPD.TRIAL_MAX k = 3 ∧ t.rget RGR_UPD.TRIALS k = s.rget RGR_UPD.TRIALS k) ∧
    (s.rgr.bivouacFlag = true → 2 ≤ s.rget RGR_RESET.BIVOUAC_N → s.rget RGR_RESET.BIVOUAC_N ≤ 7 →
      t.rget RGR_RESET.FAILED = s.rget RGR_RESET.BIVOUAC_N - 1 ∧ t.rgr.bivouacFlag = false) ∧
    (s.rgr.bivouacFlag = false → s.rgr.startOpen = false → t.rget RGR_RESET.FAILED = s.rget RGR_RESET.FAILED) ∧
    (s.rgr.bivouacFlag = false → s.rgr.startOpen = true → t.rget RGR_RESET.FAILED = Nat.min (s.rget RGR_RESET.FAILED + 1) 7 ∧ t.rget RGR_BOOT.REASON = 0x0D)) ∧
  (∀ s : State, (s.rgr.sysRst = true → exec .sysRstNAsserted s = .next s) ∧ (s.rgr.sysRst = false → exec .sysRstN s = .next s) ∧
    (s.rgr.sysRst = false → ∃ t : State, exec .sysRstNAsserted s = .next t ∧ t.rgr.sysRst = true ∧ t.mem = {} ∧ t.plan = {} ∧ t.rgr.rej = s.rgr.rej ∧ t.rgr.startDue = false ∧
      (s.unsettled = true → t.rget RGR_RESET.FAILED = Nat.min (s.rget RGR_RESET.FAILED + 1) 7 ∧ t.rget RGR_BOOT.REASON = 0x0D) ∧
      (s.unsettled = false → t.rget RGR_RESET.FAILED = s.rget RGR_RESET.FAILED)) ∧
    (s.rgr.sysRst = true → s.rgr.supplyLoss = false → s.rgr.powerOff = false → s.rgr.rstCause = 1 → ∃ t : State, exec .sysRstN s = .next t ∧ t.rgr.sysRst = false ∧
      t.rgr.startDue = true ∧ t.rget RGR_RESET.CAUSE = 1 ∧ t = { s with regs := t.regs, rgr := t.rgr })) ∧
  (∀ s : State, (s.rgr.startDue = false ∨ s.rgr.sysRst = true ∨ s.rgr.powerOff = true → exec .start s = .next s) ∧
    (s.rgr.startDue = true → s.rgr.sysRst = false → s.rgr.powerOff = false → ∃ t : State, exec .start s = .next t ∧ t.rgr.starting = true ∧
      t.rgr.nextPhase = 0 ∧ t.rgr.startOpen = true ∧ t.rget RGR_BOOT.PHASE = 0 ∧ t.rget RGR_BOOT.SETTLED = 0 ∧
      t.rget RGR_RESET.CAUSE = (if s.rgr.supplyLoss then 5 else s.rget RGR_RESET.CAUSE) ∧ t.rgr.supplyLoss = false ∧
      t = { s with regs := t.regs, rgr := t.rgr, pwr := { s.pwr with clk32k := t.pwr.clk32k } })) ∧
  (∀ (s : State) (a b c d : Bool) (x y : BitVec 12) (ps : List (Nat × Nat × Nat)) (e : Nat), s.rgr.starting = false →
    exec (.b0 a b c d) s = .next s ∧ exec (.b1 a) s = .next s ∧ exec (.b2 a ps) s = .next s ∧ exec (.b3 x y a) s = .next s ∧ exec (.b4 a b) s = .next s ∧
      exec (.b5 a b c d e) s = .next s ∧ exec .readyTimeout s = .next s) ∧
  (∀ s : State, s.rgr.starting = true → ∃ t : State, exec .readyTimeout s = .next t ∧ startFailed s t 0x0B) ∧
  (∀ (s : State) (a b c : Bool), s.rgr.starting = true → s.rgr.nextPhase = 0 →
    (∃ t : State, exec (.b0 false a b c) s = .next t ∧ startFailed s t 0x02) ∧
    (∃ t : State, exec (.b0 true a b true) s = .next t ∧ startFailed s t 0x02)) ∧
  (∀ (s : State) (b : Bool), s.rgr.starting = true → s.rgr.nextPhase = 0 → s.rgr.trialBad = [] → s.rget RGR_UPD.ACTIVE 1 = 0 → s.rgr.testEn = false →
    (∃ t : State, exec (.b0 true true b false) s = .next t ∧ t.rgr.nextPhase = 1 ∧ t.rgr.starting = true ∧ t.rget RGR_UPD.ACTIVE 1 = 0 ∧
      t.rgr.numbered = true ∧ t.coreMap = (if s.rgr.numbered then s.coreMap else s.assignCores.coreMap)) ∧
    (∃ t : State, exec (.b0 true false true false) s = .next t ∧ t.rgr.nextPhase = 1 ∧ t.rget RGR_UPD.ACTIVE 1 = 1 ∧ t.rget RGR_UPD.ROLLED 1 = 1 ∧
      t.rget RGR_UPD.OTHER 1 = 4 ∧ t.rget RGR_RESET.FAILED = 0) ∧
    (∃ t : State, exec (.b0 true false false false) s = .next t ∧ t.bivouac = true ∧ t.rget RGR_BOOT.BIV_REASON = 1 ∧ t.rgr.bivouacFlag = true)) ∧
  (∀ s : State, s.rgr.starting = true → s.rgr.nextPhase = 1 → s.rgr.trialBad = [] →
    (∀ rails, s.rget RGR_RESET.BIVOUAC_N ≤ s.rget RGR_RESET.FAILED → ∃ t : State, exec (.b1 rails) s = .next t ∧ t.bivouac = true ∧
      t.rget RGR_BOOT.BIV_REASON = s.rget RGR_BOOT.REASON % 256 ∧ t.rgr.starting = false) ∧
    (s.rget RGR_RESET.FAILED < s.rget RGR_RESET.BIVOUAC_N →
      (∃ t : State, exec (.b1 true) s = .next t ∧ t.rgr.nextPhase = 2 ∧ t.bivouac = false ∧ t.rget RGR_STATUS.PWR_REQ = 1 ∧ t.rget RGR_AVS.TARGET_MV 2 = 750 ∧ t.rget RGR_BOOT.PHASE = 1) ∧
      (∃ t : State, exec (.b1 false) s = .next t ∧ startFailed s t 0x03))) ∧
  (∀ (s : State) (ps : List (Nat × Nat × Nat)), s.rgr.starting = true → s.rgr.nextPhase = 2 →
    (∃ t : State, exec (.b2 false ps) s = .next t ∧ startFailed s t 0x04) ∧
    (∀ i, i < s.rget CLK_XING_COUNT.COUNT → (∀ e ∈ ps, e.1 ≠ i) → ∃ t : State, exec (.b2 true ps) s = .next t ∧ startFailed s t 0x05) ∧
    (∀ i lo hi, i < s.rget CLK_XING_COUNT.COUNT → ps.filter (fun e => decide (e.1 = i)) = [(i, lo, hi)] → (lo + 3 < hi ∨ 30 < hi) →
      ∃ t : State, exec (.b2 true ps) s = .next t ∧ startFailed s t 0x05) ∧
    ((∀ i, i < s.rget CLK_XING_COUNT.COUNT → ∃ lo hi, ps.filter (fun e => decide (e.1 = i)) = [(i, lo, hi)] ∧ hi ≤ lo + 3 ∧ hi ≤ 30) →
      ∃ t : State, exec (.b2 true ps) s = .next t ∧ t.rgr.nextPhase = 3 ∧ t.rget RGR_BOOT.PHASE = 2 ∧ t.gst = 0 ∧ t.clk.acc = 0 ∧ t.clk.frac = 0 ∧
        (∀ r, (t.region r).tick = 0) ∧ (∀ i lo hi, i < s.rget CLK_XING_COUNT.COUNT → (i, lo, hi) ∈ ps → (Assoc.get ({} : Xing) t.clk.xings i).lat = hi + 2))) ∧
  (∀ (s : State) (f : Bool), s.rgr.starting = true → s.rgr.nextPhase = 3 →
    (∀ x y, x ≠ BitVec.allOnes 12 → ∃ t : State, exec (.b3 x y f) s = .next t ∧ startFailed s t 0x06) ∧
    (∀ y, y ≠ BitVec.allOnes 12 → ∃ t : State, exec (.b3 (BitVec.allOnes 12) y f) s = .next t ∧ startFailed s t 0x07) ∧
    (∃ t : State, exec (.b3 (BitVec.allOnes 12) (BitVec.allOnes 12) f) s = .next t ∧ t.rgr.nextPhase = 4 ∧ t.mem = {} ∧ t.rget MEM_STATUS.TRAINED = 4095 ∧
      t.rget MEM_CRYPT.KEY_EPOCH = (s.rget MEM_CRYPT.KEY_EPOCH + 1) % 2 ^ 24)) ∧
  (∀ s : State, s.rgr.starting = true →
    (s.rgr.nextPhase = 4 → (∀ b, ∃ t : State, exec (.b4 true b) s = .next t ∧ t.rgr.nextPhase = 5 ∧ t.rget RGR_UPD.ACTIVE 0 = s.rget RGR_UPD.ACTIVE 0) ∧
      (s.rget RGR_UPD.ACTIVE 0 ≤ 1 → ∃ t : State, exec (.b4 false true) s = .next t ∧ t.rgr.nextPhase = 5 ∧ t.rget RGR_UPD.ACTIVE 0 = 1 - s.rget RGR_UPD.ACTIVE 0) ∧
      (∃ t : State, exec (.b4 false false) s = .next t ∧ startFailed s t 0x08)) ∧
    (s.rgr.nextPhase = 5 →
      (∀ a b e, ∃ t : State, exec (.b5 false false a b e) s = .next t ∧ startFailed s t 0x09) ∧
      (∀ b e, ∃ t : State, exec (.b5 true b false false e) s = .next t ∧ startFailed s t 0x0A) ∧
      (∀ b c e, 2000 < e → ∃ t : State, exec (.b5 true b true c e) s = .next t ∧ startFailed s t 0x0B) ∧
      (∀ b c e, e ≤ 2000 → ∃ t : State, exec (.b5 true b true c e) s = .next t ∧ t.rgr.ready = true ∧ t.rgr.starting = false ∧ t.rget RGR_BOOT.READY_MS = e))) ∧
  (∀ s : State, (s.rgr.retryAt = false → exec .bootRetry s = .next s) ∧
    (s.rgr.retryAt = true → ∃ t : State, exec .bootRetry s = .next t ∧ t.mem = {} ∧ t.plan = {} ∧ t.rgr.retryAt = false ∧ t.rgr.startDue = true) ∧
    (s.rgr.ready = true → s.rget RGR_BOOT.SETTLED = 0 → ∃ t : State, exec .settlePoint s = .next t ∧ t.rget RGR_RESET.FAILED = 0 ∧ t.rget RGR_BOOT.SETTLED = 1 ∧
      t.rgr.startOpen = false ∧ t = { s with regs := t.regs, rgr := t.rgr }) ∧
    (∀ bad, ∃ t : State, exec (.vddAoLow bad) s = .next t ∧ t.rgr.supplyLoss = true ∧ t.rgr.rej = [] ∧ t.mem = {} ∧ t.rgr.startDue = true ∧
      t.rget RGR_NVREC.BAD = (if bad then 1 else 0))) ∧
  (∀ (s : State) (m e : Bool) (a : BitVec 3), ∃ t : State, exec (.strapSample m a e) s = .next t ∧ t.rget RGR_MGMT.I3C_SA = 0x48 + a.toNat ∧ t.rgr.mgtSgmii = m ∧
    t.rgr.testEn = e ∧ t = { s with regs := t.regs, rgr := t.rgr }) ∧
  (∀ s : State, exec (.railOutOfRange 0) s = .next s ∧
    (∀ r, 0 < r → r < 16 → s.failSafe = false → ∃ t : State, exec (.railOutOfRange r) s = .next t ∧ t.rget RGR_STATUS.MODE = 1 ∧ t.rget RGR_FS.CAUSE = 0x43)) ∧
  (∀ (s : State) (ir off v : Nat), exec (.jtagInstruction 1 off v) s = .next { s with rgr := { s.rgr with jtag := 0x10960A5B } } ∧
    (ir ≠ 1 → s.rgr.sysRst = false → exec (.jtagInstruction ir off v) s = .next { s with rgr := { s.rgr with jtag := 0 } }))

/-- R326, R354 to R358, R360 to R362: UPDATE_STAGE needs PF0's session, downloads and verifies an image for the inactive slot, and activates a verified one in trial; UPDATE_CONFIRM ends the trial, its time limit rolls back what has used its starts; the command processors restart in order; a waiting library or firmware comes into use. A region recalibrates between boundaries, and its probes' results
are taken or refused. -/
def Obligations.UpdatesTrialsAndRecalibration : Prop :=
  (∀ (s : State) (h : HostCmd) (im : List Byte), plainCmd s h cmdUpdateStage →
    (s.pf0Session = false → exec (.updateStage h im) s = .next (s.reply h 0x58 0x04 0 0 0)) ∧
    (s.pf0Session = true → h.a0 = 4 → exec (.updateStage h im) s = .next (s.reply h 0x58 0x03 0 0 0)) ∧
    (s.pf0Session = true → h.a0 < 4 → s.rget RGR_UPD.TRIAL h.a0 = 1 → exec (.updateStage h im) s = .next (s.reply h 0x58 0x01 0 0 0)) ∧
    (s.pf0Session = true → h.a0 < 4 → s.rget RGR_UPD.TRIAL h.a0 = 0 → slotBytes h.a0 < h.a2 → exec (.updateStage h im) s = .next (s.reply h 0x58 0x06 0 0 0)) ∧
    (s.pf0Session = true → h.a0 < 4 → s.rget RGR_UPD.TRIAL h.a0 = 0 → h.a2 ≤ slotBytes h.a0 → 0 < h.a2 →
      ∃ t : State, exec (.updateStage h im) s = .next (t.reply h 0x58 (s.fwVerify h.a0 (im.take h.a2)) 0 0 0) ∧
        t.rget RGR_UPD.OTHER h.a0 = (if s.fwVerify h.a0 (im.take h.a2) = 0 then 3 else 2) ∧ t.otherImage h.a0 = im.take h.a2 ∧
        t.rget RGR_UPD.ACTIVE h.a0 = s.rget RGR_UPD.ACTIVE h.a0) ∧
    (s.pf0Session = true → h.a0 = 2 + 256 → h.a2 = 0 → s.activateStatus 2 = 0 → fwResetActivate (s.otherImage 2) = false → s.rget RGR_UPD.ACTIVE 2 ≤ 1 →
      s.rget RGR_UPD.TRIAL 2 = 0 → ∃ t : State, exec (.updateStage h im) s = .next (t.reply h 0x58 0x00 0 0 0) ∧ t.rget RGR_UPD.ACTIVE 2 = 1 - s.rget RGR_UPD.ACTIVE 2 ∧
        t.rget RGR_UPD.TRIAL 2 = 1 ∧ t.rget RGR_UPD.TRIALS 2 = 0 ∧ t.rget RGR_UPD.TRIAL_MAX 2 = 3 ∧ t.rget RGR_UPD.ROLLED 2 = 0)) ∧
  (∀ (s : State) (h : HostCmd), plainCmd s h cmdUpdateConfirm → h.a0 < 4 →
    (s.pf0Session = false → exec (.updateConfirm h) s = .next (s.reply h 0x59 0x04 0 0 0)) ∧
    (s.pf0Session = true → s.rget RGR_UPD.TRIAL h.a0 = 0 → exec (.updateConfirm h) s = .next (s.reply h 0x59 0x13 0 0 0)) ∧
    (s.pf0Session = true → s.rget RGR_UPD.TRIAL h.a0 = 1 → ∃ t : State, exec (.updateConfirm h) s = .next (t.reply h 0x59 0x00 0 0 0) ∧
      t.rget RGR_UPD.TRIAL h.a0 = 0 ∧ t.rget RGR_UPD.ACTIVE h.a0 = s.rget RGR_UPD.ACTIVE h.a0 ∧ t = { s with regs := t.regs })) ∧
  (∀ (s : State) (k : Nat), 4 ≤ k → exec (.trialTimeout k) s = .next s) ∧
  (∀ (s : State) (k : Nat), k < 4 →
    (s.rget RGR_UPD.TRIAL k = 0 → exec (.trialTimeout k) s = .next s) ∧
    (s.rget RGR_UPD.TRIAL k = 1 → s.rget RGR_UPD.TRIAL_MAX k ≤ s.rget RGR_UPD.TRIALS k → s.rget RGR_UPD.ACTIVE k ≤ 1 → ∃ t : State, exec (.trialTimeout k) s = .next t ∧
      t.rget RGR_UPD.ACTIVE k = 1 - s.rget RGR_UPD.ACTIVE k ∧ t.rget RGR_UPD.OTHER k = 4 ∧ t.rget RGR_UPD.TRIAL k = 0 ∧ t.rget RGR_UPD.ROLLED k = 1) ∧
    (k = 1 → s.rget RGR_UPD.TRIAL k = 1 → s.rget RGR_UPD.TRIALS k < s.rget RGR_UPD.TRIAL_MAX k → ∃ t : State, exec (.trialTimeout k) s = .next t ∧
      t.rgr.running = false ∧ t.rget RGR_UPD.ACTIVE k = s.rget RGR_UPD.ACTIVE k)) ∧
  (∀ (s : State) (n k : Nat) (h : Option HostCmd), n < 8 → s.rgr.cpRestart = some (k, h) →
    (k ≠ n → exec (.commandProcessorRestart n) s = .next s) ∧
    (k = n → 0 < n → n < 7 → Assoc.get [] s.host.cpWork n = [] →
      exec (.commandProcessorRestart n) s = .next { s with rgr := { s.rgr with cpRestart := some (n + 1, h) } }) ∧
    (∀ c, k = 7 → n = 7 → h = some c → Assoc.get [] s.host.cpWork 7 = [] → exec (.commandProcessorRestart n) s =
      .next (({ s with rgr := { s.rgr with cpRestart := none } } : State).finish c cmdUpdateStage 0 0 0 0))) ∧
  (∀ s : State,
    (s.rgr.libPend = true → s.cores = [] → exec .libraryActivation s =
      .next { s with rgr := { s.rgr with libPend := false, libTrial := decide (s.rget RGR_UPD.TRIAL 3 = 1) } }) ∧
    (s.rgr.libPend = false → exec .libraryActivation s = .next s) ∧ (s.rgr.running = true → exec .firmwareResume s = .next s) ∧
    (s.rgr.running = false → s.rget RGR_UPD.TRIAL 1 = 0 → s.host.cpExpired = [] → exec .firmwareResume s = .next { s with rgr := { s.rgr with running := true } })) ∧
  (∀ (s : State) (a : Agent) (r : Nat), s.bivouac = false → agentWrites a 0x10060 = true → r < 512 →
    (s.mayRecal r = true → ∃ t : State, exec (.clkRecal a (r + 512)) s = .next t ∧ t.rget CLK_RECAL.REGION = r ∧ t.rget CLK_RECAL.STATE = 1 ∧ t.rget CLK_RECAL.RESULT = 0 ∧
      t.rgr.recal = some r ∧ t = { s with regs := t.regs, rgr := t.rgr }) ∧
    (s.mayRecal r = false → ∃ t : State, exec (.clkRecal a (r + 512)) s = .next t ∧ t.rget CLK_RECAL.RESULT = 5 ∧ t.rget CLK_RECAL.STATE = s.rget CLK_RECAL.STATE ∧
      t = { s with regs := t.regs })) ∧
  (∀ (s : State) (r : Nat), s.rgr.recal = some r → s.frame.phase = .idle → s.rget CLK_RECAL.STATE = 1 → ∃ t : State, exec .recalibration s = .next t ∧
    t.rget CLK_RECAL.STATE = 2 ∧ t.rgr.recalW = s.gst ∧ t = { s with regs := t.regs, rgr := t.rgr }) ∧
  (∀ (s : State) (r : Nat) (ps : List (Nat × Nat × Nat)), s.rgr.recal = some r → s.rget CLK_RECAL.STATE = 2 → s.rgr.leaving = [] → s.plan.loads = [] →
    (s.gst < s.rgr.recalW + 16639 ∨ (∃ i ∈ s.xingsOf r, ∀ e ∈ ps, e.1 ≠ i) → exec (.recalibrationResult ps) s = .next s) ∧
    (s.rgr.recalW + 16639 ≤ s.gst → (∀ i ∈ s.xingsOf r, ∃ e ∈ ps, e.1 = i) → ∃ t : State, exec (.recalibrationResult ps) s = .next t ∧
      t.rget CLK_RECAL.STATE = 0 ∧ t.rgr.recal = none ∧ t = { s with regs := t.regs, rgr := t.rgr, clk := { s.clk with xings := t.clk.xings } } ∧
      ((∃ e ∈ s.probesOf r ps, e.2.1 + 3 < e.2.2) → t.rget CLK_RECAL.RESULT = 3) ∧
      ((∀ e ∈ s.probesOf r ps, e.2.2 ≤ e.2.1 + 3) → (∃ e ∈ s.probesOf r ps, s.latLimit < e.2.2 + 2) → t.rget CLK_RECAL.RESULT = 4) ∧
      ((∀ e ∈ s.probesOf r ps, e.2.2 ≤ e.2.1 + 3 ∧ e.2.2 + 2 ≤ s.latLimit) → t.rget CLK_RECAL.RESULT =
        if ∀ e ∈ s.probesOf r ps, e.2.2 + 2 = (Assoc.get ({} : Xing) s.clk.xings e.1).lat then 1 else 2) ∧
      (∀ i, i ∉ s.xingsOf r → Assoc.get ({} : Xing) t.clk.xings i = Assoc.get {} s.clk.xings i) ∧
      (∀ i lo hi, i ∈ s.xingsOf r → ps.filter (fun e => decide (e.1 = i)) = [(i, lo, hi)] →
        (hi ≤ lo + 3 → hi + 2 ≤ s.latLimit → (Assoc.get ({} : Xing) t.clk.xings i).lat = hi + 2) ∧
        (lo + 3 < hi ∨ s.latLimit < hi + 2 → Assoc.get ({} : Xing) t.clk.xings i = Assoc.get {} s.clk.xings i)))) ∧
  (∀ (s : State) (r w : Nat) (ps : List (Nat × Nat × Nat)), s.rgr.recal = none → s.rgr.leaving = [(r, w)] → s.plan.loads = [] →
    (s.gst < w + 16639 ∨ (∃ i ∈ s.xingsOf r, ∀ e ∈ ps, e.1 ≠ i) → exec (.recalibrationResult ps) s = .next s) ∧
    (w + 16639 ≤ s.gst → (∀ i ∈ s.xingsOf r, ∃ e ∈ ps, e.1 = i) →
      (s.rgr.retireTry = none → ∃ t : State, exec (.recalibrationResult ps) s = .next t ∧ t.rgr.leaving = [] ∧
        t = { s with rgr := t.rgr, clk := { s.clk with xings := t.clk.xings } }) ∧
      (∀ old, s.rgr.retireTry = some old → s.spareTried = some r → (∀ e ∈ s.probesOf r ps, e.2.2 ≤ e.2.1 + 3 ∧ e.2.2 + 2 ≤ s.latLimit) →
        ∃ t : State, exec (.recalibrationResult ps) s = .next t ∧ t.rgr.leaving = [] ∧ t.rgr.retire = some (old, r) ∧ t.rgr.retireTry = none) ∧
      (∀ old, s.rgr.retireTry = some old → s.rgr.retire = none → s.spareTried = some r → r < 288 → (∃ e ∈ s.probesOf r ps, e.2.1 + 3 < e.2.2) →
        ∃ t : State, exec (.recalibrationResult ps) s = .next t ∧ t.pcoreState r = 2 ∧ t.rgr.retire ≠ some (old, r))))

/-- R6, R7, R9, R18, R20, R328: a register write reaches the bits that its byte enables cover: a field takes its value and an event clears where a 1 is written, save one that the hardware set in the same update cycle. A write that covers an RGO bit, and a remote write outside ROLL and TEL, change nothing but the rejected-write log; a VF's write to a block it cannot see changes nothing. A read of a low half
gives it and latches the high half, which the same agent's next read of the high half returns. -/
def Obligations.RegisterAccessesAndTheirLog : Prop :=
  (∀ (s : State) (a : Agent) (v : Nat), s.bivouac = false → agentWrites a 0x800008 = true →
    exec (.registerWrite a 0x800008 4 15 v) s = .next (s.rset0 AUD_ENTRY_SEL.INDEX v)) ∧
  (∀ (s : State) (a : Agent) (be v : Nat), s.bivouac = false → agentWrites a 0x10038 = true → be = 1 ∨ be = 15 →
    ∃ t : State, exec (.registerWrite a 0x10038 4 be v) s = .next t ∧ t = { s with regs := t.regs } ∧
      (∀ e ∈ [CLK_EVENT.REF_LOST, CLK_EVENT.REF_BACK, CLK_EVENT.SLACK_EXH, CLK_EVENT.DEBT_HIGH, CLK_EVENT.OSC_FLOOR, CLK_EVENT.CLAMP_PINNED,
          CLK_EVENT.STEER_PINNED, CLK_EVENT.CEIL_REJECT], t.rget e = if bitAt v e.lo && !setNow s e then 0 else s.rget e % 2) ∧
      (∀ e ∈ [CLK_EVENT.CEIL_PENDING, CLK_EVENT.RATE_CANCEL, CLK_EVENT.LOCK_LOST, CLK_EVENT.GL_MISMATCH],
        t.rget e = if be = 1 then s.rget e else if bitAt v e.lo && !setNow s e then 0 else s.rget e % 2)) ∧
  (∀ (s : State) (a : Agent) (be v : Nat), 0 < be → be < 16 → be ≠ 2 → ∃ t : State, exec (.registerWrite a 0x700000 4 be v) s = .next t ∧
    Assoc.get {} t.rgr.rej (s.rget RGR_REJ_HEAD.HEAD) = { gst := s.gst, kind := agentKind a, source := (s.agentSource a).1, off := 0x700000 } ∧
    t.rget RGR_REJ_HEAD.HEAD = (s.rget RGR_REJ_HEAD.HEAD + 1) % 64 ∧ t.rget RGR_REJ_HEAD.COUNT = Nat.min (s.rget RGR_REJ_HEAD.COUNT + 1) 65535 ∧
    (∀ k, k ≠ s.rget RGR_REJ_HEAD.HEAD → Assoc.get {} t.rgr.rej k = Assoc.get {} s.rgr.rej k) ∧
    (∀ (f : Field) (i : Nat), f.key i ≠ RGR_REJ_HEAD.HEAD.key 0 → f.key i ≠ RGR_REJ_HEAD.COUNT.key 0 → t.rget f i = s.rget f i) ∧ (a ≠ .jtag → t.freeCount = s.freeCount) ∧
    t = { s with regs := t.regs, rgr := { s.rgr with rej := t.rgr.rej }, freeCount := t.freeCount }) ∧
  (∀ (s : State) (d off size be v : Nat), off < 2 ^ 24 → agentWrites (.remote d) off = false → 0 < size → be.testBit 0 = true →
    exec (.registerWrite (.remote d) off size be v) s = .next (s.logReject (.remote d) off)) ∧
  (∀ (s : State) (f v : Nat), exec (.registerWrite (.vf f) 0x10038 4 15 v) s = .next s) ∧
  (∀ (s : State) (a : Agent) (off size v : Nat), off < 2 ^ 24 → exec (.registerWrite a off size 0 v) s = .next s) ∧
  (∀ (s : State) (v : Nat), exec (.registerWrite .pf0 0xA00000 4 15 v) s = .next s) ∧
  (∀ (s : State) (a : Agent) (off : Nat), off % 8 = 0 →
    (regBytes off = 8 →
      (∃ t : State, exec (.lowHalfRead a off 4) s = .next (t.emit (.regValue a off (s.agentValue a off % 2 ^ 32))) ∧
        ((a, off), s.agentValue a off / 2 ^ 32 % 2 ^ 32) ∈ t.clk.hiLatch ∧ t = { s with clk := { s.clk with hiLatch := t.clk.hiLatch } }) ∧
      (∀ v rest, s.clk.hiLatch = ((a, off), v) :: rest → (∀ e ∈ rest, e.1 ≠ (a, off)) →
        exec (.lowHalfRead a (off + 4) 4) s = .next (({ s with clk := { s.clk with hiLatch := rest } } : State).emit (.regValue a (off + 4) (v % 2 ^ 32)))) ∧
      ((∀ e ∈ s.clk.hiLatch, e.1 ≠ (a, off)) →
        exec (.lowHalfRead a (off + 4) 4) s = .next (s.emit (.regValue a (off + 4) (s.agentValue a off / 2 ^ 32 % 2 ^ 32))) ∧
        exec (.lowHalfRead a off 8) s = .next (s.emit (.regValue a off (s.agentValue a off % 2 ^ 64))))) ∧
    (regBytes off ≠ 8 → exec (.lowHalfRead a off 4) s = .next (s.emit (.regValue a off (s.agentValue a off % 2 ^ 32))) ∧
      exec (.lowHalfRead a (off + 4) 4) s = .next (s.emit (.regValue a (off + 4) (s.agentValue a (off + 4) % 2 ^ 32))))) ∧
  (∀ s : State, s.bivouac = false → ∃ t : State, exec (.lowHalfRead .pf0 0x10008 4) s = .next (t.emit (.regValue .pf0 0x10008 (s.gst % 2 ^ 32))) ∧
    ((.pf0, 0x10008), s.gst / 2 ^ 32 % 2 ^ 32) ∈ t.clk.hiLatch)

/-- A step takes the command at the front of the queue and is that command's effect with the queue's rest; with no command waiting
the device idles (the model's choice, log 1). -/
def Obligations.StepRunsTheFrontCommand : Prop :=
  (∀ (s : State) (c : Instr) (rest : List Instr), s.pending = c :: rest → step s = exec c { s with pending := rest }) ∧
  (∀ s : State, s.pending = [] → step s = .next s)

/-- Every command answers a next state from every state, whatever its operands: none stops and none is refused. A command that names a
unit the device does not have changes nothing, which is the model's choice (log 48; R20 says so of reserved registers). -/
def Obligations.CommandsComplete : Prop :=
  (∀ (c : Instr) (s : State), ∃ t : State, exec c s = .next t) ∧
  (∀ (c : Instr) (s : State) (r : Refusal) (f : Fault), exec c s ≠ .refused r ∧ exec c s ≠ .fault f) ∧
  (∀ (s : State) (r : Nat) (b : Bool), 288 ≤ r → exec (.tickIssue r b) s = .next s ∧ exec (.slackExhausted r) s = .next s ∧
    exec (.ceilPending r) s = .next s ∧ exec (.ceilingChangeApply r) s = .next s ∧ exec (.powerOver r) s = .next s) ∧
  (∀ (s : State) (p rx n : Nat), 18 ≤ p → exec (.blockLock p rx n) s = .next s ∧ exec (.timestampSend p) s = .next s)

/-- R86, R87: every instruction word that the encoder writes is decoded to its instruction, with its gap and every operand, and the decoder takes no other
word: a word it decodes is the one the encoder writes. -/
def Obligations.InstructionWordsRoundTrip : Prop :=
  (∀ i : IsaWord, decodeIsa (encodeIsa i) = some i) ∧ (∀ (w : Word) (i : IsaWord), decodeIsa w = some i → encodeIsa i = w)

/-- R86, R87: words written out from the opcode table are read as their instructions; an opcode that the table does not hold, and a word with an unassigned bit set, are refused. -/
def Obligations.InstructionWordsReadAsTheTableSays : Prop :=
  decodeIsa 0b0000000100000000001100000010000010010000000000000000000000000101#64 = some { gap := 3, op := .alu .add 1 2 0x20 5 } ∧
  decodeIsa 0b0001000000000000001100001001000011011110101011011011111011101111#64 = some { gap := 3, op := .ldi 4 true 0xDEADBEEF } ∧
  decodeIsa 0b0010001100000000001110100000010000010100000000000110000000000100#64 = some { gap := 3, op := .brb 5 1 2 0x1001 0x1002 } ∧
  decodeIsa 0b0100000000000000001110011010011110000000010000010100000000000010#64 = some { gap := 3, op := .mpass 9 true false true 3 12 1 2 0x2001 } ∧
  decodeIsa 0b0110000000000000001110011000100000000000000000010000000000000001#64 = some { gap := 3, op := .dma 9 17 0x10001 } ∧
  decodeIsa 0b0111001000000000001110000000000110011100100000000000000000000000#64 = some { gap := 3, op := .cgive 0x801 9 200 } ∧
  decodeIsa 0b0000111100000000001100000000000000000000000000000000000000000000#64 = none ∧
  decodeIsa 0b0010000000000000001100000000000000000000000000000000000000000001#64 = none

/-- R159, R162: the device memory's sparse form stays canonical: from every state whose list of bytes is in rising order of address with no listed zero, every step that answers a next
state gives such a state. -/
def Obligations.MemoryStaysCanonical : Prop :=
  ∀ s t : State, memoryCanonical s → step s = .next t → memoryCanonical t

/-- R231 to R233, R273: the copy of a Roll Call or tick-rate message on the Guyline: discarded and counted where its CRC is bad, removed
where this node sent it, and else taken as at its last hop and forwarded with one more in HOPS; a node whose bypass is closed
sees none. -/
def Obligations.RingCopiesOfRollCallMessages : Prop :=
  ∀ (s : State) (m : RcMsg) (row : RcMsg → Instr) (rtype h : Nat) (ok : Bool), ringRow row rtype →
    (s.onRing = false → exec (row { m with ring := some (h, ok) }) s = .next s) ∧
    (s.onRing = true → exec (row { m with ring := some (h, false) }) s = .next { s with gl := { s.gl with crcErr := s.gl.crcErr + 1 } }) ∧
    (s.onRing = true → m.sender = s.ownId → exec (row { m with ring := some (h, true) }) s = .next s) ∧
    (s.onRing = true → m.sender ≠ s.ownId → h < 63 → ∃ u : State, exec (row { m with ring := some (63, true) }) s = .next u ∧
      exec (row { m with ring := some (h, true) }) s = .next (u.glPass (glBytes 0x11 (h + 1) m.sender (rcBody m rtype))))

/-- R8: right after reset every register field reads its reset value (a fuse value or calibration is the model's choice, log 3), the memory is canonical and lists nothing, no frame
runs, no command waits, and SYS_RST_N is low with a start due. -/
def Obligations.ResetLeavesTheResetValues : Prop :=
  (∀ (f : Field) (i : Nat), State.reset.rget f i = f.reset) ∧ memoryCanonical State.reset ∧ registersSorted State.reset ∧
  (∀ a, State.reset.memByte a = 0) ∧ State.reset.pending = [] ∧ State.reset.frame.phase = .idle ∧ State.reset.gst = 0 ∧ State.reset.rgr.sysRst = true ∧
  State.reset.rgr.startDue = true ∧ State.reset.rget PLAN_FRAME_CTRL.RERUN_LIMIT = 1 ∧ State.reset.rget CLK_STEER_CFG.INTERVAL_LOG2 = 12 ∧
  State.reset.rget RGR_RESET.BIVOUAC_N = 3 ∧ State.reset.rget KL_GRACE.GRACE = 20 ∧ State.reset.rget HOST_Q.LOG2 65535 = 4 ∧ State.reset.rget HOST_Q.ENABLE 0 = 0
end

