-- ==== Sys2Proof/Laws/State.lean ====
section
/-! SUPPORT. What each update of the state leaves as it was: one lemma per field per update. -/
namespace Sys2Proof.Machine

variable (s : State)

/-! ### rset -/

@[simp] theorem State.rset_pending (f : Field) (i v : Nat) : (s.rset f i v).pending = s.pending := rfl
@[simp] theorem State.rset_freeCount (f : Field) (i v : Nat) : (s.rset f i v).freeCount = s.freeCount := rfl
@[simp] theorem State.rset_out (f : Field) (i v : Nat) : (s.rset f i v).out = s.out := rfl
@[simp] theorem State.rset_raised (f : Field) (i v : Nat) : (s.rset f i v).raised = s.raised := rfl
@[simp] theorem State.rset_coreMap (f : Field) (i v : Nat) : (s.rset f i v).coreMap = s.coreMap := rfl
@[simp] theorem State.rset_pcores (f : Field) (i v : Nat) : (s.rset f i v).pcores = s.pcores := rfl
@[simp] theorem State.rset_clk (f : Field) (i v : Nat) : (s.rset f i v).clk = s.clk := rfl
@[simp] theorem State.rset_plan (f : Field) (i v : Nat) : (s.rset f i v).plan = s.plan := rfl
@[simp] theorem State.rset_cores (f : Field) (i v : Nat) : (s.rset f i v).cores = s.cores := rfl
@[simp] theorem State.rset_mem (f : Field) (i v : Nat) : (s.rset f i v).mem = s.mem := rfl
@[simp] theorem State.rset_srv (f : Field) (i v : Nat) : (s.rset f i v).srv = s.srv := rfl
@[simp] theorem State.rset_ports (f : Field) (i v : Nat) : (s.rset f i v).ports = s.ports := rfl
@[simp] theorem State.rset_gl (f : Field) (i v : Nat) : (s.rset f i v).gl = s.gl := rfl
@[simp] theorem State.rset_fab (f : Field) (i v : Nat) : (s.rset f i v).fab = s.fab := rfl
@[simp] theorem State.rset_roll (f : Field) (i v : Nat) : (s.rset f i v).roll = s.roll := rfl
@[simp] theorem State.rset_host (f : Field) (i v : Nat) : (s.rset f i v).host = s.host := rfl
@[simp] theorem State.rset_pwr (f : Field) (i v : Nat) : (s.rset f i v).pwr = s.pwr := rfl
@[simp] theorem State.rset_rgr (f : Field) (i v : Nat) : (s.rset f i v).rgr = s.rgr := rfl

/-! ### rset0 -/

@[simp] theorem State.rset0_pending (f : Field) (v : Nat) : (s.rset0 f v).pending = s.pending := rfl
@[simp] theorem State.rset0_freeCount (f : Field) (v : Nat) : (s.rset0 f v).freeCount = s.freeCount := rfl
@[simp] theorem State.rset0_out (f : Field) (v : Nat) : (s.rset0 f v).out = s.out := rfl
@[simp] theorem State.rset0_raised (f : Field) (v : Nat) : (s.rset0 f v).raised = s.raised := rfl
@[simp] theorem State.rset0_coreMap (f : Field) (v : Nat) : (s.rset0 f v).coreMap = s.coreMap := rfl
@[simp] theorem State.rset0_pcores (f : Field) (v : Nat) : (s.rset0 f v).pcores = s.pcores := rfl
@[simp] theorem State.rset0_clk (f : Field) (v : Nat) : (s.rset0 f v).clk = s.clk := rfl
@[simp] theorem State.rset0_plan (f : Field) (v : Nat) : (s.rset0 f v).plan = s.plan := rfl
@[simp] theorem State.rset0_cores (f : Field) (v : Nat) : (s.rset0 f v).cores = s.cores := rfl
@[simp] theorem State.rset0_mem (f : Field) (v : Nat) : (s.rset0 f v).mem = s.mem := rfl
@[simp] theorem State.rset0_srv (f : Field) (v : Nat) : (s.rset0 f v).srv = s.srv := rfl
@[simp] theorem State.rset0_ports (f : Field) (v : Nat) : (s.rset0 f v).ports = s.ports := rfl
@[simp] theorem State.rset0_gl (f : Field) (v : Nat) : (s.rset0 f v).gl = s.gl := rfl
@[simp] theorem State.rset0_fab (f : Field) (v : Nat) : (s.rset0 f v).fab = s.fab := rfl
@[simp] theorem State.rset0_roll (f : Field) (v : Nat) : (s.rset0 f v).roll = s.roll := rfl
@[simp] theorem State.rset0_host (f : Field) (v : Nat) : (s.rset0 f v).host = s.host := rfl
@[simp] theorem State.rset0_pwr (f : Field) (v : Nat) : (s.rset0 f v).pwr = s.pwr := rfl
@[simp] theorem State.rset0_rgr (f : Field) (v : Nat) : (s.rset0 f v).rgr = s.rgr := rfl

/-! ### rbit -/

@[simp] theorem State.rbit_pending (f : Field) (i : Nat) : (s.rbit f i).pending = s.pending := rfl
@[simp] theorem State.rbit_freeCount (f : Field) (i : Nat) : (s.rbit f i).freeCount = s.freeCount := rfl
@[simp] theorem State.rbit_out (f : Field) (i : Nat) : (s.rbit f i).out = s.out := rfl
@[simp] theorem State.rbit_raised (f : Field) (i : Nat) : (s.rbit f i).raised = s.raised := rfl
@[simp] theorem State.rbit_coreMap (f : Field) (i : Nat) : (s.rbit f i).coreMap = s.coreMap := rfl
@[simp] theorem State.rbit_pcores (f : Field) (i : Nat) : (s.rbit f i).pcores = s.pcores := rfl
@[simp] theorem State.rbit_clk (f : Field) (i : Nat) : (s.rbit f i).clk = s.clk := rfl
@[simp] theorem State.rbit_plan (f : Field) (i : Nat) : (s.rbit f i).plan = s.plan := rfl
@[simp] theorem State.rbit_cores (f : Field) (i : Nat) : (s.rbit f i).cores = s.cores := rfl
@[simp] theorem State.rbit_mem (f : Field) (i : Nat) : (s.rbit f i).mem = s.mem := rfl
@[simp] theorem State.rbit_srv (f : Field) (i : Nat) : (s.rbit f i).srv = s.srv := rfl
@[simp] theorem State.rbit_ports (f : Field) (i : Nat) : (s.rbit f i).ports = s.ports := rfl
@[simp] theorem State.rbit_gl (f : Field) (i : Nat) : (s.rbit f i).gl = s.gl := rfl
@[simp] theorem State.rbit_fab (f : Field) (i : Nat) : (s.rbit f i).fab = s.fab := rfl
@[simp] theorem State.rbit_roll (f : Field) (i : Nat) : (s.rbit f i).roll = s.roll := rfl
@[simp] theorem State.rbit_host (f : Field) (i : Nat) : (s.rbit f i).host = s.host := rfl
@[simp] theorem State.rbit_pwr (f : Field) (i : Nat) : (s.rbit f i).pwr = s.pwr := rfl
@[simp] theorem State.rbit_rgr (f : Field) (i : Nat) : (s.rbit f i).rgr = s.rgr := rfl

/-! ### rsat -/

@[simp] theorem State.rsat_pending (f : Field) (i n : Nat) : (s.rsat f i n).pending = s.pending := rfl
@[simp] theorem State.rsat_freeCount (f : Field) (i n : Nat) : (s.rsat f i n).freeCount = s.freeCount := rfl
@[simp] theorem State.rsat_out (f : Field) (i n : Nat) : (s.rsat f i n).out = s.out := rfl
@[simp] theorem State.rsat_raised (f : Field) (i n : Nat) : (s.rsat f i n).raised = s.raised := rfl
@[simp] theorem State.rsat_coreMap (f : Field) (i n : Nat) : (s.rsat f i n).coreMap = s.coreMap := rfl
@[simp] theorem State.rsat_pcores (f : Field) (i n : Nat) : (s.rsat f i n).pcores = s.pcores := rfl
@[simp] theorem State.rsat_clk (f : Field) (i n : Nat) : (s.rsat f i n).clk = s.clk := rfl
@[simp] theorem State.rsat_plan (f : Field) (i n : Nat) : (s.rsat f i n).plan = s.plan := rfl
@[simp] theorem State.rsat_cores (f : Field) (i n : Nat) : (s.rsat f i n).cores = s.cores := rfl
@[simp] theorem State.rsat_mem (f : Field) (i n : Nat) : (s.rsat f i n).mem = s.mem := rfl
@[simp] theorem State.rsat_srv (f : Field) (i n : Nat) : (s.rsat f i n).srv = s.srv := rfl
@[simp] theorem State.rsat_ports (f : Field) (i n : Nat) : (s.rsat f i n).ports = s.ports := rfl
@[simp] theorem State.rsat_gl (f : Field) (i n : Nat) : (s.rsat f i n).gl = s.gl := rfl
@[simp] theorem State.rsat_fab (f : Field) (i n : Nat) : (s.rsat f i n).fab = s.fab := rfl
@[simp] theorem State.rsat_roll (f : Field) (i n : Nat) : (s.rsat f i n).roll = s.roll := rfl
@[simp] theorem State.rsat_host (f : Field) (i n : Nat) : (s.rsat f i n).host = s.host := rfl
@[simp] theorem State.rsat_pwr (f : Field) (i n : Nat) : (s.rsat f i n).pwr = s.pwr := rfl
@[simp] theorem State.rsat_rgr (f : Field) (i n : Nat) : (s.rsat f i n).rgr = s.rgr := rfl

/-! ### rinc -/

@[simp] theorem State.rinc_pending (f : Field) (i n : Nat) : (s.rinc f i n).pending = s.pending := rfl
@[simp] theorem State.rinc_freeCount (f : Field) (i n : Nat) : (s.rinc f i n).freeCount = s.freeCount := rfl
@[simp] theorem State.rinc_out (f : Field) (i n : Nat) : (s.rinc f i n).out = s.out := rfl
@[simp] theorem State.rinc_raised (f : Field) (i n : Nat) : (s.rinc f i n).raised = s.raised := rfl
@[simp] theorem State.rinc_coreMap (f : Field) (i n : Nat) : (s.rinc f i n).coreMap = s.coreMap := rfl
@[simp] theorem State.rinc_pcores (f : Field) (i n : Nat) : (s.rinc f i n).pcores = s.pcores := rfl
@[simp] theorem State.rinc_clk (f : Field) (i n : Nat) : (s.rinc f i n).clk = s.clk := rfl
@[simp] theorem State.rinc_plan (f : Field) (i n : Nat) : (s.rinc f i n).plan = s.plan := rfl
@[simp] theorem State.rinc_cores (f : Field) (i n : Nat) : (s.rinc f i n).cores = s.cores := rfl
@[simp] theorem State.rinc_mem (f : Field) (i n : Nat) : (s.rinc f i n).mem = s.mem := rfl
@[simp] theorem State.rinc_srv (f : Field) (i n : Nat) : (s.rinc f i n).srv = s.srv := rfl
@[simp] theorem State.rinc_ports (f : Field) (i n : Nat) : (s.rinc f i n).ports = s.ports := rfl
@[simp] theorem State.rinc_gl (f : Field) (i n : Nat) : (s.rinc f i n).gl = s.gl := rfl
@[simp] theorem State.rinc_fab (f : Field) (i n : Nat) : (s.rinc f i n).fab = s.fab := rfl
@[simp] theorem State.rinc_roll (f : Field) (i n : Nat) : (s.rinc f i n).roll = s.roll := rfl
@[simp] theorem State.rinc_host (f : Field) (i n : Nat) : (s.rinc f i n).host = s.host := rfl
@[simp] theorem State.rinc_pwr (f : Field) (i n : Nat) : (s.rinc f i n).pwr = s.pwr := rfl
@[simp] theorem State.rinc_rgr (f : Field) (i n : Nat) : (s.rinc f i n).rgr = s.rgr := rfl

/-! ### setCore -/

@[simp] theorem State.setCore_pending (c : Nat) (k : Core) : (s.setCore c k).pending = s.pending := rfl
@[simp] theorem State.setCore_freeCount (c : Nat) (k : Core) : (s.setCore c k).freeCount = s.freeCount := rfl
@[simp] theorem State.setCore_out (c : Nat) (k : Core) : (s.setCore c k).out = s.out := rfl
@[simp] theorem State.setCore_regs (c : Nat) (k : Core) : (s.setCore c k).regs = s.regs := rfl
@[simp] theorem State.setCore_raised (c : Nat) (k : Core) : (s.setCore c k).raised = s.raised := rfl
@[simp] theorem State.setCore_coreMap (c : Nat) (k : Core) : (s.setCore c k).coreMap = s.coreMap := rfl
@[simp] theorem State.setCore_pcores (c : Nat) (k : Core) : (s.setCore c k).pcores = s.pcores := rfl
@[simp] theorem State.setCore_clk (c : Nat) (k : Core) : (s.setCore c k).clk = s.clk := rfl
@[simp] theorem State.setCore_plan (c : Nat) (k : Core) : (s.setCore c k).plan = s.plan := rfl
@[simp] theorem State.setCore_mem (c : Nat) (k : Core) : (s.setCore c k).mem = s.mem := rfl
@[simp] theorem State.setCore_srv (c : Nat) (k : Core) : (s.setCore c k).srv = s.srv := rfl
@[simp] theorem State.setCore_ports (c : Nat) (k : Core) : (s.setCore c k).ports = s.ports := rfl
@[simp] theorem State.setCore_gl (c : Nat) (k : Core) : (s.setCore c k).gl = s.gl := rfl
@[simp] theorem State.setCore_fab (c : Nat) (k : Core) : (s.setCore c k).fab = s.fab := rfl
@[simp] theorem State.setCore_roll (c : Nat) (k : Core) : (s.setCore c k).roll = s.roll := rfl
@[simp] theorem State.setCore_host (c : Nat) (k : Core) : (s.setCore c k).host = s.host := rfl
@[simp] theorem State.setCore_pwr (c : Nat) (k : Core) : (s.setCore c k).pwr = s.pwr := rfl
@[simp] theorem State.setCore_rgr (c : Nat) (k : Core) : (s.setCore c k).rgr = s.rgr := rfl

/-! ### mapCores -/

@[simp] theorem State.mapCores_pending (g : Core → Core) : (s.mapCores g).pending = s.pending := rfl
@[simp] theorem State.mapCores_freeCount (g : Core → Core) : (s.mapCores g).freeCount = s.freeCount := rfl
@[simp] theorem State.mapCores_out (g : Core → Core) : (s.mapCores g).out = s.out := rfl
@[simp] theorem State.mapCores_regs (g : Core → Core) : (s.mapCores g).regs = s.regs := rfl
@[simp] theorem State.mapCores_raised (g : Core → Core) : (s.mapCores g).raised = s.raised := rfl
@[simp] theorem State.mapCores_coreMap (g : Core → Core) : (s.mapCores g).coreMap = s.coreMap := rfl
@[simp] theorem State.mapCores_pcores (g : Core → Core) : (s.mapCores g).pcores = s.pcores := rfl
@[simp] theorem State.mapCores_clk (g : Core → Core) : (s.mapCores g).clk = s.clk := rfl
@[simp] theorem State.mapCores_plan (g : Core → Core) : (s.mapCores g).plan = s.plan := rfl
@[simp] theorem State.mapCores_mem (g : Core → Core) : (s.mapCores g).mem = s.mem := rfl
@[simp] theorem State.mapCores_srv (g : Core → Core) : (s.mapCores g).srv = s.srv := rfl
@[simp] theorem State.mapCores_ports (g : Core → Core) : (s.mapCores g).ports = s.ports := rfl
@[simp] theorem State.mapCores_gl (g : Core → Core) : (s.mapCores g).gl = s.gl := rfl
@[simp] theorem State.mapCores_fab (g : Core → Core) : (s.mapCores g).fab = s.fab := rfl
@[simp] theorem State.mapCores_roll (g : Core → Core) : (s.mapCores g).roll = s.roll := rfl
@[simp] theorem State.mapCores_host (g : Core → Core) : (s.mapCores g).host = s.host := rfl
@[simp] theorem State.mapCores_pwr (g : Core → Core) : (s.mapCores g).pwr = s.pwr := rfl
@[simp] theorem State.mapCores_rgr (g : Core → Core) : (s.mapCores g).rgr = s.rgr := rfl

/-! ### setPort -/

@[simp] theorem State.setPort_pending (p : Nat) (k : Port) : (s.setPort p k).pending = s.pending := rfl
@[simp] theorem State.setPort_freeCount (p : Nat) (k : Port) : (s.setPort p k).freeCount = s.freeCount := rfl
@[simp] theorem State.setPort_out (p : Nat) (k : Port) : (s.setPort p k).out = s.out := rfl
@[simp] theorem State.setPort_regs (p : Nat) (k : Port) : (s.setPort p k).regs = s.regs := rfl
@[simp] theorem State.setPort_raised (p : Nat) (k : Port) : (s.setPort p k).raised = s.raised := rfl
@[simp] theorem State.setPort_coreMap (p : Nat) (k : Port) : (s.setPort p k).coreMap = s.coreMap := rfl
@[simp] theorem State.setPort_pcores (p : Nat) (k : Port) : (s.setPort p k).pcores = s.pcores := rfl
@[simp] theorem State.setPort_clk (p : Nat) (k : Port) : (s.setPort p k).clk = s.clk := rfl
@[simp] theorem State.setPort_plan (p : Nat) (k : Port) : (s.setPort p k).plan = s.plan := rfl
@[simp] theorem State.setPort_cores (p : Nat) (k : Port) : (s.setPort p k).cores = s.cores := rfl
@[simp] theorem State.setPort_mem (p : Nat) (k : Port) : (s.setPort p k).mem = s.mem := rfl
@[simp] theorem State.setPort_srv (p : Nat) (k : Port) : (s.setPort p k).srv = s.srv := rfl
@[simp] theorem State.setPort_gl (p : Nat) (k : Port) : (s.setPort p k).gl = s.gl := rfl
@[simp] theorem State.setPort_fab (p : Nat) (k : Port) : (s.setPort p k).fab = s.fab := rfl
@[simp] theorem State.setPort_roll (p : Nat) (k : Port) : (s.setPort p k).roll = s.roll := rfl
@[simp] theorem State.setPort_host (p : Nat) (k : Port) : (s.setPort p k).host = s.host := rfl
@[simp] theorem State.setPort_pwr (p : Nat) (k : Port) : (s.setPort p k).pwr = s.pwr := rfl
@[simp] theorem State.setPort_rgr (p : Nat) (k : Port) : (s.setPort p k).rgr = s.rgr := rfl

/-! ### setRegion -/

@[simp] theorem State.setRegion_pending (r : Nat) (k : Region) : (s.setRegion r k).pending = s.pending := rfl
@[simp] theorem State.setRegion_freeCount (r : Nat) (k : Region) : (s.setRegion r k).freeCount = s.freeCount := rfl
@[simp] theorem State.setRegion_out (r : Nat) (k : Region) : (s.setRegion r k).out = s.out := rfl
@[simp] theorem State.setRegion_regs (r : Nat) (k : Region) : (s.setRegion r k).regs = s.regs := rfl
@[simp] theorem State.setRegion_raised (r : Nat) (k : Region) : (s.setRegion r k).raised = s.raised := rfl
@[simp] theorem State.setRegion_coreMap (r : Nat) (k : Region) : (s.setRegion r k).coreMap = s.coreMap := rfl
@[simp] theorem State.setRegion_pcores (r : Nat) (k : Region) : (s.setRegion r k).pcores = s.pcores := rfl
@[simp] theorem State.setRegion_plan (r : Nat) (k : Region) : (s.setRegion r k).plan = s.plan := rfl
@[simp] theorem State.setRegion_cores (r : Nat) (k : Region) : (s.setRegion r k).cores = s.cores := rfl
@[simp] theorem State.setRegion_mem (r : Nat) (k : Region) : (s.setRegion r k).mem = s.mem := rfl
@[simp] theorem State.setRegion_srv (r : Nat) (k : Region) : (s.setRegion r k).srv = s.srv := rfl
@[simp] theorem State.setRegion_ports (r : Nat) (k : Region) : (s.setRegion r k).ports = s.ports := rfl
@[simp] theorem State.setRegion_gl (r : Nat) (k : Region) : (s.setRegion r k).gl = s.gl := rfl
@[simp] theorem State.setRegion_fab (r : Nat) (k : Region) : (s.setRegion r k).fab = s.fab := rfl
@[simp] theorem State.setRegion_roll (r : Nat) (k : Region) : (s.setRegion r k).roll = s.roll := rfl
@[simp] theorem State.setRegion_host (r : Nat) (k : Region) : (s.setRegion r k).host = s.host := rfl
@[simp] theorem State.setRegion_pwr (r : Nat) (k : Region) : (s.setRegion r k).pwr = s.pwr := rfl
@[simp] theorem State.setRegion_rgr (r : Nat) (k : Region) : (s.setRegion r k).rgr = s.rgr := rfl

/-! ### mapRegions -/

@[simp] theorem State.mapRegions_pending (g : Region → Region) : (s.mapRegions g).pending = s.pending := rfl
@[simp] theorem State.mapRegions_freeCount (g : Region → Region) : (s.mapRegions g).freeCount = s.freeCount := rfl
@[simp] theorem State.mapRegions_out (g : Region → Region) : (s.mapRegions g).out = s.out := rfl
@[simp] theorem State.mapRegions_regs (g : Region → Region) : (s.mapRegions g).regs = s.regs := rfl
@[simp] theorem State.mapRegions_raised (g : Region → Region) : (s.mapRegions g).raised = s.raised := rfl
@[simp] theorem State.mapRegions_coreMap (g : Region → Region) : (s.mapRegions g).coreMap = s.coreMap := rfl
@[simp] theorem State.mapRegions_pcores (g : Region → Region) : (s.mapRegions g).pcores = s.pcores := rfl
@[simp] theorem State.mapRegions_plan (g : Region → Region) : (s.mapRegions g).plan = s.plan := rfl
@[simp] theorem State.mapRegions_cores (g : Region → Region) : (s.mapRegions g).cores = s.cores := rfl
@[simp] theorem State.mapRegions_mem (g : Region → Region) : (s.mapRegions g).mem = s.mem := rfl
@[simp] theorem State.mapRegions_srv (g : Region → Region) : (s.mapRegions g).srv = s.srv := rfl
@[simp] theorem State.mapRegions_ports (g : Region → Region) : (s.mapRegions g).ports = s.ports := rfl
@[simp] theorem State.mapRegions_gl (g : Region → Region) : (s.mapRegions g).gl = s.gl := rfl
@[simp] theorem State.mapRegions_fab (g : Region → Region) : (s.mapRegions g).fab = s.fab := rfl
@[simp] theorem State.mapRegions_roll (g : Region → Region) : (s.mapRegions g).roll = s.roll := rfl
@[simp] theorem State.mapRegions_host (g : Region → Region) : (s.mapRegions g).host = s.host := rfl
@[simp] theorem State.mapRegions_pwr (g : Region → Region) : (s.mapRegions g).pwr = s.pwr := rfl
@[simp] theorem State.mapRegions_rgr (g : Region → Region) : (s.mapRegions g).rgr = s.rgr := rfl

/-! ### setHq -/

@[simp] theorem State.setHq_pending (q : Nat) (k : HQueue) : (s.setHq q k).pending = s.pending := rfl
@[simp] theorem State.setHq_freeCount (q : Nat) (k : HQueue) : (s.setHq q k).freeCount = s.freeCount := rfl
@[simp] theorem State.setHq_out (q : Nat) (k : HQueue) : (s.setHq q k).out = s.out := rfl
@[simp] theorem State.setHq_regs (q : Nat) (k : HQueue) : (s.setHq q k).regs = s.regs := rfl
@[simp] theorem State.setHq_raised (q : Nat) (k : HQueue) : (s.setHq q k).raised = s.raised := rfl
@[simp] theorem State.setHq_coreMap (q : Nat) (k : HQueue) : (s.setHq q k).coreMap = s.coreMap := rfl
@[simp] theorem State.setHq_pcores (q : Nat) (k : HQueue) : (s.setHq q k).pcores = s.pcores := rfl
@[simp] theorem State.setHq_clk (q : Nat) (k : HQueue) : (s.setHq q k).clk = s.clk := rfl
@[simp] theorem State.setHq_plan (q : Nat) (k : HQueue) : (s.setHq q k).plan = s.plan := rfl
@[simp] theorem State.setHq_cores (q : Nat) (k : HQueue) : (s.setHq q k).cores = s.cores := rfl
@[simp] theorem State.setHq_mem (q : Nat) (k : HQueue) : (s.setHq q k).mem = s.mem := rfl
@[simp] theorem State.setHq_srv (q : Nat) (k : HQueue) : (s.setHq q k).srv = s.srv := rfl
@[simp] theorem State.setHq_ports (q : Nat) (k : HQueue) : (s.setHq q k).ports = s.ports := rfl
@[simp] theorem State.setHq_gl (q : Nat) (k : HQueue) : (s.setHq q k).gl = s.gl := rfl
@[simp] theorem State.setHq_fab (q : Nat) (k : HQueue) : (s.setHq q k).fab = s.fab := rfl
@[simp] theorem State.setHq_roll (q : Nat) (k : HQueue) : (s.setHq q k).roll = s.roll := rfl
@[simp] theorem State.setHq_pwr (q : Nat) (k : HQueue) : (s.setHq q k).pwr = s.pwr := rfl
@[simp] theorem State.setHq_rgr (q : Nat) (k : HQueue) : (s.setHq q k).rgr = s.rgr := rfl

/-! ### setVariant -/

@[simp] theorem State.setVariant_pending (v : Nat) (k : Variant) : (s.setVariant v k).pending = s.pending := rfl
@[simp] theorem State.setVariant_freeCount (v : Nat) (k : Variant) : (s.setVariant v k).freeCount = s.freeCount := rfl
@[simp] theorem State.setVariant_out (v : Nat) (k : Variant) : (s.setVariant v k).out = s.out := rfl
@[simp] theorem State.setVariant_regs (v : Nat) (k : Variant) : (s.setVariant v k).regs = s.regs := rfl
@[simp] theorem State.setVariant_raised (v : Nat) (k : Variant) : (s.setVariant v k).raised = s.raised := rfl
@[simp] theorem State.setVariant_coreMap (v : Nat) (k : Variant) : (s.setVariant v k).coreMap = s.coreMap := rfl
@[simp] theorem State.setVariant_pcores (v : Nat) (k : Variant) : (s.setVariant v k).pcores = s.pcores := rfl
@[simp] theorem State.setVariant_clk (v : Nat) (k : Variant) : (s.setVariant v k).clk = s.clk := rfl
@[simp] theorem State.setVariant_cores (v : Nat) (k : Variant) : (s.setVariant v k).cores = s.cores := rfl
@[simp] theorem State.setVariant_mem (v : Nat) (k : Variant) : (s.setVariant v k).mem = s.mem := rfl
@[simp] theorem State.setVariant_srv (v : Nat) (k : Variant) : (s.setVariant v k).srv = s.srv := rfl
@[simp] theorem State.setVariant_ports (v : Nat) (k : Variant) : (s.setVariant v k).ports = s.ports := rfl
@[simp] theorem State.setVariant_gl (v : Nat) (k : Variant) : (s.setVariant v k).gl = s.gl := rfl
@[simp] theorem State.setVariant_fab (v : Nat) (k : Variant) : (s.setVariant v k).fab = s.fab := rfl
@[simp] theorem State.setVariant_roll (v : Nat) (k : Variant) : (s.setVariant v k).roll = s.roll := rfl
@[simp] theorem State.setVariant_host (v : Nat) (k : Variant) : (s.setVariant v k).host = s.host := rfl
@[simp] theorem State.setVariant_pwr (v : Nat) (k : Variant) : (s.setVariant v k).pwr = s.pwr := rfl
@[simp] theorem State.setVariant_rgr (v : Nat) (k : Variant) : (s.setVariant v k).rgr = s.rgr := rfl

/-! ### setFrame -/

@[simp] theorem State.setFrame_pending (f : Frame) : (s.setFrame f).pending = s.pending := rfl
@[simp] theorem State.setFrame_freeCount (f : Frame) : (s.setFrame f).freeCount = s.freeCount := rfl
@[simp] theorem State.setFrame_out (f : Frame) : (s.setFrame f).out = s.out := rfl
@[simp] theorem State.setFrame_regs (f : Frame) : (s.setFrame f).regs = s.regs := rfl
@[simp] theorem State.setFrame_raised (f : Frame) : (s.setFrame f).raised = s.raised := rfl
@[simp] theorem State.setFrame_coreMap (f : Frame) : (s.setFrame f).coreMap = s.coreMap := rfl
@[simp] theorem State.setFrame_pcores (f : Frame) : (s.setFrame f).pcores = s.pcores := rfl
@[simp] theorem State.setFrame_clk (f : Frame) : (s.setFrame f).clk = s.clk := rfl
@[simp] theorem State.setFrame_cores (f : Frame) : (s.setFrame f).cores = s.cores := rfl
@[simp] theorem State.setFrame_mem (f : Frame) : (s.setFrame f).mem = s.mem := rfl
@[simp] theorem State.setFrame_srv (f : Frame) : (s.setFrame f).srv = s.srv := rfl
@[simp] theorem State.setFrame_ports (f : Frame) : (s.setFrame f).ports = s.ports := rfl
@[simp] theorem State.setFrame_gl (f : Frame) : (s.setFrame f).gl = s.gl := rfl
@[simp] theorem State.setFrame_fab (f : Frame) : (s.setFrame f).fab = s.fab := rfl
@[simp] theorem State.setFrame_roll (f : Frame) : (s.setFrame f).roll = s.roll := rfl
@[simp] theorem State.setFrame_host (f : Frame) : (s.setFrame f).host = s.host := rfl
@[simp] theorem State.setFrame_pwr (f : Frame) : (s.setFrame f).pwr = s.pwr := rfl
@[simp] theorem State.setFrame_rgr (f : Frame) : (s.setFrame f).rgr = s.rgr := rfl

/-! ### setCtx -/

@[simp] theorem State.setCtx_pending (id : Nat) (c : Ctx) : (s.setCtx id c).pending = s.pending := rfl
@[simp] theorem State.setCtx_freeCount (id : Nat) (c : Ctx) : (s.setCtx id c).freeCount = s.freeCount := rfl
@[simp] theorem State.setCtx_out (id : Nat) (c : Ctx) : (s.setCtx id c).out = s.out := rfl
@[simp] theorem State.setCtx_regs (id : Nat) (c : Ctx) : (s.setCtx id c).regs = s.regs := rfl
@[simp] theorem State.setCtx_raised (id : Nat) (c : Ctx) : (s.setCtx id c).raised = s.raised := rfl
@[simp] theorem State.setCtx_coreMap (id : Nat) (c : Ctx) : (s.setCtx id c).coreMap = s.coreMap := rfl
@[simp] theorem State.setCtx_pcores (id : Nat) (c : Ctx) : (s.setCtx id c).pcores = s.pcores := rfl
@[simp] theorem State.setCtx_clk (id : Nat) (c : Ctx) : (s.setCtx id c).clk = s.clk := rfl
@[simp] theorem State.setCtx_plan (id : Nat) (c : Ctx) : (s.setCtx id c).plan = s.plan := rfl
@[simp] theorem State.setCtx_cores (id : Nat) (c : Ctx) : (s.setCtx id c).cores = s.cores := rfl
@[simp] theorem State.setCtx_mem (id : Nat) (c : Ctx) : (s.setCtx id c).mem = s.mem := rfl
@[simp] theorem State.setCtx_ports (id : Nat) (c : Ctx) : (s.setCtx id c).ports = s.ports := rfl
@[simp] theorem State.setCtx_gl (id : Nat) (c : Ctx) : (s.setCtx id c).gl = s.gl := rfl
@[simp] theorem State.setCtx_fab (id : Nat) (c : Ctx) : (s.setCtx id c).fab = s.fab := rfl
@[simp] theorem State.setCtx_roll (id : Nat) (c : Ctx) : (s.setCtx id c).roll = s.roll := rfl
@[simp] theorem State.setCtx_host (id : Nat) (c : Ctx) : (s.setCtx id c).host = s.host := rfl
@[simp] theorem State.setCtx_pwr (id : Nat) (c : Ctx) : (s.setCtx id c).pwr = s.pwr := rfl
@[simp] theorem State.setCtx_rgr (id : Nat) (c : Ctx) : (s.setCtx id c).rgr = s.rgr := rfl

/-! ### emit -/

@[simp] theorem State.emit_pending (o : Output) : (s.emit o).pending = s.pending := rfl
@[simp] theorem State.emit_freeCount (o : Output) : (s.emit o).freeCount = s.freeCount := rfl
@[simp] theorem State.emit_regs (o : Output) : (s.emit o).regs = s.regs := rfl
@[simp] theorem State.emit_raised (o : Output) : (s.emit o).raised = s.raised := rfl
@[simp] theorem State.emit_coreMap (o : Output) : (s.emit o).coreMap = s.coreMap := rfl
@[simp] theorem State.emit_pcores (o : Output) : (s.emit o).pcores = s.pcores := rfl
@[simp] theorem State.emit_clk (o : Output) : (s.emit o).clk = s.clk := rfl
@[simp] theorem State.emit_plan (o : Output) : (s.emit o).plan = s.plan := rfl
@[simp] theorem State.emit_cores (o : Output) : (s.emit o).cores = s.cores := rfl
@[simp] theorem State.emit_mem (o : Output) : (s.emit o).mem = s.mem := rfl
@[simp] theorem State.emit_srv (o : Output) : (s.emit o).srv = s.srv := rfl
@[simp] theorem State.emit_ports (o : Output) : (s.emit o).ports = s.ports := rfl
@[simp] theorem State.emit_gl (o : Output) : (s.emit o).gl = s.gl := rfl
@[simp] theorem State.emit_fab (o : Output) : (s.emit o).fab = s.fab := rfl
@[simp] theorem State.emit_roll (o : Output) : (s.emit o).roll = s.roll := rfl
@[simp] theorem State.emit_host (o : Output) : (s.emit o).host = s.host := rfl
@[simp] theorem State.emit_pwr (o : Output) : (s.emit o).pwr = s.pwr := rfl
@[simp] theorem State.emit_rgr (o : Output) : (s.emit o).rgr = s.rgr := rfl

/-! ### fabCount -/

@[simp] theorem State.fabCount_pending (k : Nat) : (s.fabCount k).pending = s.pending := rfl
@[simp] theorem State.fabCount_freeCount (k : Nat) : (s.fabCount k).freeCount = s.freeCount := rfl
@[simp] theorem State.fabCount_out (k : Nat) : (s.fabCount k).out = s.out := rfl
@[simp] theorem State.fabCount_regs (k : Nat) : (s.fabCount k).regs = s.regs := rfl
@[simp] theorem State.fabCount_raised (k : Nat) : (s.fabCount k).raised = s.raised := rfl
@[simp] theorem State.fabCount_coreMap (k : Nat) : (s.fabCount k).coreMap = s.coreMap := rfl
@[simp] theorem State.fabCount_pcores (k : Nat) : (s.fabCount k).pcores = s.pcores := rfl
@[simp] theorem State.fabCount_clk (k : Nat) : (s.fabCount k).clk = s.clk := rfl
@[simp] theorem State.fabCount_plan (k : Nat) : (s.fabCount k).plan = s.plan := rfl
@[simp] theorem State.fabCount_cores (k : Nat) : (s.fabCount k).cores = s.cores := rfl
@[simp] theorem State.fabCount_mem (k : Nat) : (s.fabCount k).mem = s.mem := rfl
@[simp] theorem State.fabCount_srv (k : Nat) : (s.fabCount k).srv = s.srv := rfl
@[simp] theorem State.fabCount_ports (k : Nat) : (s.fabCount k).ports = s.ports := rfl
@[simp] theorem State.fabCount_gl (k : Nat) : (s.fabCount k).gl = s.gl := rfl
@[simp] theorem State.fabCount_roll (k : Nat) : (s.fabCount k).roll = s.roll := rfl
@[simp] theorem State.fabCount_host (k : Nat) : (s.fabCount k).host = s.host := rfl
@[simp] theorem State.fabCount_pwr (k : Nat) : (s.fabCount k).pwr = s.pwr := rfl
@[simp] theorem State.fabCount_rgr (k : Nat) : (s.fabCount k).rgr = s.rgr := rfl

/-! ### event -/

@[simp] theorem State.event_pending (f : Field) (i b : Nat) : (s.event f i b).pending = s.pending := rfl
@[simp] theorem State.event_freeCount (f : Field) (i b : Nat) : (s.event f i b).freeCount = s.freeCount := rfl
@[simp] theorem State.event_out (f : Field) (i b : Nat) : (s.event f i b).out = s.out := rfl
@[simp] theorem State.event_coreMap (f : Field) (i b : Nat) : (s.event f i b).coreMap = s.coreMap := rfl
@[simp] theorem State.event_pcores (f : Field) (i b : Nat) : (s.event f i b).pcores = s.pcores := rfl
@[simp] theorem State.event_clk (f : Field) (i b : Nat) : (s.event f i b).clk = s.clk := rfl
@[simp] theorem State.event_plan (f : Field) (i b : Nat) : (s.event f i b).plan = s.plan := rfl
@[simp] theorem State.event_cores (f : Field) (i b : Nat) : (s.event f i b).cores = s.cores := rfl
@[simp] theorem State.event_mem (f : Field) (i b : Nat) : (s.event f i b).mem = s.mem := rfl
@[simp] theorem State.event_srv (f : Field) (i b : Nat) : (s.event f i b).srv = s.srv := rfl
@[simp] theorem State.event_ports (f : Field) (i b : Nat) : (s.event f i b).ports = s.ports := rfl
@[simp] theorem State.event_gl (f : Field) (i b : Nat) : (s.event f i b).gl = s.gl := rfl
@[simp] theorem State.event_fab (f : Field) (i b : Nat) : (s.event f i b).fab = s.fab := rfl
@[simp] theorem State.event_roll (f : Field) (i b : Nat) : (s.event f i b).roll = s.roll := rfl
@[simp] theorem State.event_host (f : Field) (i b : Nat) : (s.event f i b).host = s.host := rfl
@[simp] theorem State.event_pwr (f : Field) (i b : Nat) : (s.event f i b).pwr = s.pwr := rfl
@[simp] theorem State.event_rgr (f : Field) (i b : Nat) : (s.event f i b).rgr = s.rgr := rfl

/-! ### clearBits -/

@[simp] theorem State.clearBits_pending (f : Field) (i b : Nat) : (s.clearBits f i b).pending = s.pending := rfl
@[simp] theorem State.clearBits_freeCount (f : Field) (i b : Nat) : (s.clearBits f i b).freeCount = s.freeCount := rfl
@[simp] theorem State.clearBits_out (f : Field) (i b : Nat) : (s.clearBits f i b).out = s.out := rfl
@[simp] theorem State.clearBits_coreMap (f : Field) (i b : Nat) : (s.clearBits f i b).coreMap = s.coreMap := rfl
@[simp] theorem State.clearBits_pcores (f : Field) (i b : Nat) : (s.clearBits f i b).pcores = s.pcores := rfl
@[simp] theorem State.clearBits_clk (f : Field) (i b : Nat) : (s.clearBits f i b).clk = s.clk := rfl
@[simp] theorem State.clearBits_plan (f : Field) (i b : Nat) : (s.clearBits f i b).plan = s.plan := rfl
@[simp] theorem State.clearBits_cores (f : Field) (i b : Nat) : (s.clearBits f i b).cores = s.cores := rfl
@[simp] theorem State.clearBits_mem (f : Field) (i b : Nat) : (s.clearBits f i b).mem = s.mem := rfl
@[simp] theorem State.clearBits_srv (f : Field) (i b : Nat) : (s.clearBits f i b).srv = s.srv := rfl
@[simp] theorem State.clearBits_ports (f : Field) (i b : Nat) : (s.clearBits f i b).ports = s.ports := rfl
@[simp] theorem State.clearBits_gl (f : Field) (i b : Nat) : (s.clearBits f i b).gl = s.gl := rfl
@[simp] theorem State.clearBits_fab (f : Field) (i b : Nat) : (s.clearBits f i b).fab = s.fab := rfl
@[simp] theorem State.clearBits_roll (f : Field) (i b : Nat) : (s.clearBits f i b).roll = s.roll := rfl
@[simp] theorem State.clearBits_host (f : Field) (i b : Nat) : (s.clearBits f i b).host = s.host := rfl
@[simp] theorem State.clearBits_pwr (f : Field) (i b : Nat) : (s.clearBits f i b).pwr = s.pwr := rfl
@[simp] theorem State.clearBits_rgr (f : Field) (i b : Nat) : (s.clearBits f i b).rgr = s.rgr := rfl
@[simp] theorem State.clearBits_raised (f : Field) (i b : Nat) : (s.clearBits f i b).raised = s.raised := rfl

/-! ### draw -/

@[simp] theorem State.draw_pending : s.draw.2.pending = s.pending := rfl
@[simp] theorem State.draw_out : s.draw.2.out = s.out := rfl
@[simp] theorem State.draw_regs : s.draw.2.regs = s.regs := rfl
@[simp] theorem State.draw_raised : s.draw.2.raised = s.raised := rfl
@[simp] theorem State.draw_coreMap : s.draw.2.coreMap = s.coreMap := rfl
@[simp] theorem State.draw_pcores : s.draw.2.pcores = s.pcores := rfl
@[simp] theorem State.draw_clk : s.draw.2.clk = s.clk := rfl
@[simp] theorem State.draw_plan : s.draw.2.plan = s.plan := rfl
@[simp] theorem State.draw_cores : s.draw.2.cores = s.cores := rfl
@[simp] theorem State.draw_mem : s.draw.2.mem = s.mem := rfl
@[simp] theorem State.draw_srv : s.draw.2.srv = s.srv := rfl
@[simp] theorem State.draw_ports : s.draw.2.ports = s.ports := rfl
@[simp] theorem State.draw_gl : s.draw.2.gl = s.gl := rfl
@[simp] theorem State.draw_fab : s.draw.2.fab = s.fab := rfl
@[simp] theorem State.draw_roll : s.draw.2.roll = s.roll := rfl
@[simp] theorem State.draw_host : s.draw.2.host = s.host := rfl
@[simp] theorem State.draw_pwr : s.draw.2.pwr = s.pwr := rfl
@[simp] theorem State.draw_rgr : s.draw.2.rgr = s.rgr := rfl

/-! ### What the updates give -/

@[simp] theorem State.rset_regs (f : Field) (i v : Nat) : (s.rset f i v).regs = Regs.set s.regs f i v := rfl
@[simp] theorem State.setFrame_frame (f : Frame) : (s.setFrame f).frame = f := rfl
/-- An event leaves the bits that stood, and sets its own (R6). -/
@[simp] theorem State.event_regs (f : Field) (i b : Nat) :
    (s.event f i b).regs = Regs.set s.regs f i (Regs.get s.regs f i ||| b) := rfl
@[simp] theorem State.emit_out (o : Output) : (s.emit o).out = s.out ++ [o] := rfl

end Sys2Proof.Machine
end

