-- ==== Sys2Proof/Laws/Assoc.lean ====
section
/-! SUPPORT. Reading back what was written: the sparse maps, and the units and register fields that State holds in
them. -/
namespace Sys2Proof.Machine

/-! ### Sparse maps -/

theorem Assoc.find_insert_same {α : Type} (l : Assoc α) (k : Nat) (v : α) : Assoc.find (Assoc.insert l k v) k = some v := by
  induction l with
  | nil => simp [Assoc.insert, Assoc.find]
  | cons e t ih =>
    obtain ⟨a, b⟩ := e
    unfold Assoc.insert
    split
    · simp [Assoc.find]
    · split
      · simp [Assoc.find]
      · simp [Assoc.find, *]

theorem Assoc.find_insert_ne {α : Type} (l : Assoc α) (k j : Nat) (v : α) (h : j ≠ k) :
    Assoc.find (Assoc.insert l k v) j = Assoc.find l j := by
  induction l with
  | nil => simp [Assoc.insert, Assoc.find, h]
  | cons e t ih =>
    obtain ⟨a, b⟩ := e
    unfold Assoc.insert
    split
    · simp [Assoc.find, h]
    · split
      · rename_i h2; subst h2; simp [Assoc.find, h]
      · simp [Assoc.find, ih]

theorem Assoc.find_erase_same {α : Type} (l : Assoc α) (k : Nat) : Assoc.find (Assoc.erase l k) k = none := by
  induction l with
  | nil => rfl
  | cons e t ih =>
    obtain ⟨a, b⟩ := e
    simp only [Assoc.erase, List.filter_cons] at ih ⊢
    by_cases h : a = k <;> simp [h, Assoc.find, ih]
    intro h2; exact absurd h2.symm h

theorem Assoc.find_erase_ne {α : Type} (l : Assoc α) (k j : Nat) (h : j ≠ k) : Assoc.find (Assoc.erase l k) j = Assoc.find l j := by
  induction l with
  | nil => rfl
  | cons e t ih =>
    obtain ⟨a, b⟩ := e
    simp only [Assoc.erase, List.filter_cons] at ih ⊢
    by_cases h2 : a = k
    · subst h2; simp [Assoc.find, h, ih]
    · simp [h2, Assoc.find, ih]

/-- What is put at a key is there. -/
@[simp] theorem Assoc.get_put_same {α : Type} [DecidableEq α] (d : α) (l : Assoc α) (k : Nat) (v : α) :
    Assoc.get d (Assoc.put d l k v) k = v := by
  unfold Assoc.get Assoc.put
  split
  · simp [Assoc.find_erase_same, *]
  · simp [Assoc.find_insert_same]

/-- A put leaves every other key as it was. -/
theorem Assoc.get_put_ne {α : Type} [DecidableEq α] (d e : α) (l : Assoc α) (k j : Nat) (v : α) (h : j ≠ k) :
    Assoc.get e (Assoc.put d l k v) j = Assoc.get e l j := by
  unfold Assoc.get Assoc.put
  split
  · rw [Assoc.find_erase_ne _ _ _ h]
  · rw [Assoc.find_insert_ne _ _ _ _ h]

/-- A put by cases. -/
theorem Assoc.get_put {α : Type} [DecidableEq α] (d : α) (l : Assoc α) (k j : Nat) (v : α) :
    Assoc.get d (Assoc.put d l k v) j = if j = k then v else Assoc.get d l j := by
  split
  · subst_vars; exact Assoc.get_put_same d l _ v
  · exact Assoc.get_put_ne d d l k j v ‹_›

/-! ### The canonical form -/

theorem Assoc.all_insert {α : Type} (p : Nat × α → Bool) (l : Assoc α) (k : Nat) (v : α) (hl : l.all p = true) (hv : p (k, v) = true) :
    (Assoc.insert l k v).all p = true := by
  induction l with
  | nil => simp [Assoc.insert, hv]
  | cons e t ih =>
    obtain ⟨a, b⟩ := e
    simp only [List.all_cons, Bool.and_eq_true] at hl
    unfold Assoc.insert
    split
    · simp [hv, hl.1, hl.2]
    · split
      · simp [hv, hl.2]
      · simp [hl.1, ih hl.2]

theorem Assoc.sorted_insert {α : Type} (l : Assoc α) (k : Nat) (v : α) (h : Assoc.sorted l = true) :
    Assoc.sorted (Assoc.insert l k v) = true := by
  induction l with
  | nil => simp [Assoc.insert, Assoc.sorted]
  | cons e t ih =>
    obtain ⟨a, b⟩ := e
    simp only [Assoc.sorted, Bool.and_eq_true] at h
    unfold Assoc.insert
    split
    · rename_i hk
      simp only [Assoc.sorted, List.all_cons, Bool.and_eq_true, decide_eq_true_eq]
      refine ⟨⟨hk, ?_⟩, h.1, h.2⟩
      refine List.all_eq_true.2 fun x hx => ?_
      have := List.all_eq_true.1 h.1 x hx
      simp only [decide_eq_true_eq] at this ⊢
      omega
    · split
      · rename_i hk; subst hk; simp [Assoc.sorted, h.1, h.2]
      · rename_i h1 h2
        simp only [Assoc.sorted, Bool.and_eq_true]
        exact ⟨Assoc.all_insert _ t k v h.1 (by simp only [decide_eq_true_eq]; omega), ih h.2⟩

theorem Assoc.sorted_filter {α : Type} (p : Nat × α → Bool) (l : Assoc α) (h : Assoc.sorted l = true) :
    Assoc.sorted (l.filter p) = true := by
  induction l with
  | nil => rfl
  | cons e t ih =>
    obtain ⟨a, b⟩ := e
    simp only [Assoc.sorted, Bool.and_eq_true] at h
    rw [List.filter_cons]
    split
    · simp only [Assoc.sorted, Bool.and_eq_true]
      refine ⟨List.all_eq_true.2 fun x hx => ?_, ih h.2⟩
      exact List.all_eq_true.1 h.1 x (List.mem_filter.1 hx).1
    · exact ih h.2

/-- A filter keeps the canonical form. -/
theorem Assoc.wf_filter {α : Type} [DecidableEq α] (d : α) (p : Nat × α → Bool) (l : Assoc α) (h : Assoc.wf d l = true) :
    Assoc.wf d (l.filter p) = true := by
  simp only [Assoc.wf, Bool.and_eq_true] at h ⊢
  exact ⟨Assoc.sorted_filter p l h.1, List.all_eq_true.2 fun x hx => List.all_eq_true.1 h.2 x (List.mem_filter.1 hx).1⟩

/-- A put keeps the canonical form. -/
theorem Assoc.wf_put {α : Type} [DecidableEq α] (d : α) (l : Assoc α) (k : Nat) (v : α) (h : Assoc.wf d l = true) :
    Assoc.wf d (Assoc.put d l k v) = true := by
  unfold Assoc.put
  split
  · exact Assoc.wf_filter d _ l h
  · rename_i hv
    simp only [Assoc.wf, Bool.and_eq_true] at h ⊢
    exact ⟨Assoc.sorted_insert l k v h.1, Assoc.all_insert _ l k v h.2 (by simpa using hv)⟩

/-- A run of puts keeps the canonical form. -/
theorem Assoc.wf_putRange {α : Type} [DecidableEq α] (d : α) (vs : List α) :
    ∀ (l : Assoc α) (k : Nat), Assoc.wf d l = true → Assoc.wf d (Assoc.putRange d l k vs) = true := by
  induction vs with
  | nil => intro l k h; exact h
  | cons v vs ih => intro l k h; exact ih _ _ (Assoc.wf_put d l k v h)

/-! ### Register fields -/

/-- A field reads as it was written, within its width. -/
@[simp] theorem State.rget_rset_same (s : State) (f : Field) (i v : Nat) : (s.rset f i v).rget f i = v % 2 ^ f.width := by
  simp [State.rget, State.rset, Regs.get, Regs.set]

@[simp] theorem State.rget_rset0_same (s : State) (f : Field) (v : Nat) : (s.rset0 f v).rget f = v % 2 ^ f.width := by
  simp [State.rset0]

/-- A write of one field leaves a field at another place as it was. -/
theorem State.rget_rset_ne (s : State) (f g : Field) (i j v : Nat) (h : g.key j ≠ f.key i) :
    (s.rset f i v).rget g j = s.rget g j := by
  simp [State.rget, State.rset, Regs.get, Regs.set, Assoc.get_put_ne _ _ _ _ _ _ h]

theorem State.rget_rset0_ne (s : State) (f g : Field) (j v : Nat) (h : g.key j ≠ f.key 0) :
    (s.rset0 f v).rget g j = s.rget g j := State.rget_rset_ne s f g 0 j v h

/-- Fields are read from the register file alone. -/
theorem State.rget_of_regs {s t : State} (h : t.regs = s.regs) (f : Field) (i : Nat) : t.rget f i = s.rget f i := by
  simp [State.rget, h]

/-! ### Units -/

@[simp] theorem State.core_setCore_same (s : State) (c : Nat) (k : Core) : (s.setCore c k).core c = k := by
  simp [State.core, State.setCore]

theorem State.core_setCore_ne (s : State) (c d : Nat) (k : Core) (h : d ≠ c) : (s.setCore c k).core d = s.core d := by
  simp [State.core, State.setCore, Assoc.get_put_ne _ _ _ _ _ _ h]

@[simp] theorem State.port_setPort_same (s : State) (p : Nat) (k : Port) : (s.setPort p k).port p = k := by
  simp [State.port, State.setPort]

theorem State.port_setPort_ne (s : State) (p q : Nat) (k : Port) (h : q ≠ p) : (s.setPort p k).port q = s.port q := by
  simp [State.port, State.setPort, Assoc.get_put_ne _ _ _ _ _ _ h]

@[simp] theorem State.region_setRegion_same (s : State) (r : Nat) (k : Region) : (s.setRegion r k).region r = k := by
  simp [State.region, State.setRegion]

theorem State.region_setRegion_ne (s : State) (r q : Nat) (k : Region) (h : q ≠ r) : (s.setRegion r k).region q = s.region q := by
  simp [State.region, State.setRegion, Assoc.get_put_ne _ _ _ _ _ _ h]

@[simp] theorem State.hq_setHq_same (s : State) (q : Nat) (k : HQueue) : (s.setHq q k).hq q = k := by
  simp [State.hq, State.setHq]

theorem State.hq_setHq_ne (s : State) (q r : Nat) (k : HQueue) (h : r ≠ q) : (s.setHq q k).hq r = s.hq r := by
  simp [State.hq, State.setHq, Assoc.get_put_ne _ _ _ _ _ _ h]

@[simp] theorem State.variant_setVariant_same (s : State) (v : Nat) (k : Variant) : (s.setVariant v k).variant v = k := by
  simp [State.variant, State.setVariant]

@[simp] theorem State.ctx_setCtx_same (s : State) (id : Nat) (c : Ctx) : (s.setCtx id c).ctx id = c := by
  simp [State.ctx, State.setCtx]

theorem State.ctx_setCtx_ne (s : State) (id j : Nat) (c : Ctx) (h : j ≠ id) : (s.setCtx id c).ctx j = s.ctx j := by
  simp [State.ctx, State.setCtx, Assoc.get_put_ne _ _ _ _ _ _ h]

/-! ### Reads that a register write leaves -/

@[simp] theorem State.rset_frame (s : State) (f : Field) (i v : Nat) : (s.rset f i v).frame = s.frame := rfl
@[simp] theorem State.rset_gst (s : State) (f : Field) (i v : Nat) : (s.rset f i v).gst = s.gst := rfl
@[simp] theorem State.rset_core (s : State) (f : Field) (i v c : Nat) : (s.rset f i v).core c = s.core c := rfl
@[simp] theorem State.rset_port (s : State) (f : Field) (i v p : Nat) : (s.rset f i v).port p = s.port p := rfl
@[simp] theorem State.rset_region (s : State) (f : Field) (i v r : Nat) : (s.rset f i v).region r = s.region r := rfl
@[simp] theorem State.rset_hq (s : State) (f : Field) (i v q : Nat) : (s.rset f i v).hq q = s.hq q := rfl
@[simp] theorem State.rset0_frame (s : State) (f : Field) (v : Nat) : (s.rset0 f v).frame = s.frame := rfl
@[simp] theorem State.rset0_gst (s : State) (f : Field) (v : Nat) : (s.rset0 f v).gst = s.gst := rfl
@[simp] theorem State.rset0_core (s : State) (f : Field) (v c : Nat) : (s.rset0 f v).core c = s.core c := rfl
@[simp] theorem State.rset0_port (s : State) (f : Field) (v p : Nat) : (s.rset0 f v).port p = s.port p := rfl
@[simp] theorem State.rset0_region (s : State) (f : Field) (v r : Nat) : (s.rset0 f v).region r = s.region r := rfl
@[simp] theorem State.rset0_hq (s : State) (f : Field) (v q : Nat) : (s.rset0 f v).hq q = s.hq q := rfl
@[simp] theorem State.emit_rget (s : State) (o : Output) (f : Field) (i : Nat) : (s.emit o).rget f i = s.rget f i := rfl
@[simp] theorem State.setFrame_rget (s : State) (x : Frame) (f : Field) (i : Nat) : (s.setFrame x).rget f i = s.rget f i := rfl
@[simp] theorem State.setCore_rget (s : State) (c : Nat) (k : Core) (f : Field) (i : Nat) : (s.setCore c k).rget f i = s.rget f i := rfl
@[simp] theorem State.setPort_rget (s : State) (p : Nat) (k : Port) (f : Field) (i : Nat) : (s.setPort p k).rget f i = s.rget f i := rfl
@[simp] theorem State.setRegion_rget (s : State) (r : Nat) (k : Region) (f : Field) (i : Nat) :
    (s.setRegion r k).rget f i = s.rget f i := rfl
@[simp] theorem State.setHq_rget (s : State) (q : Nat) (k : HQueue) (f : Field) (i : Nat) : (s.setHq q k).rget f i = s.rget f i := rfl

end Sys2Proof.Machine
end

