-- ==== Sys2Proof/Laws/Memory.lean ====
section
/-! SUPPORT. The device memory and the scratchpads: what a store leaves at each byte, and that every operation keeps the
canonical form. -/
namespace Sys2Proof.Machine
open Sys2Proof.Safety

/-- After reset the memory is canonical. -/
theorem State.reset_memoryCanonical : memoryCanonical State.reset := rfl

/-- The canonical form is a property of the cells alone. -/
theorem memoryCanonical_of_cells {s t : State} (h : t.mem.cells = s.mem.cells) (hs : memoryCanonical s) : memoryCanonical t := by
  unfold memoryCanonical Memory.wf at *; rw [h]; exact hs

theorem memoryCanonical_of_mem {s t : State} (h : t.mem = s.mem) (hs : memoryCanonical s) : memoryCanonical t :=
  memoryCanonical_of_cells (by rw [h]) hs

/-! ### What a store leaves at each byte -/

/-- A byte outside a run of puts is as before. -/
theorem Assoc.get_putRange_out {α : Type} [DecidableEq α] (d : α) (vs : List α) : ∀ (l : Assoc α) (k a : Nat),
    a < k ∨ k + vs.length ≤ a → Assoc.get d (Assoc.putRange d l k vs) a = Assoc.get d l a := by
  induction vs with
  | nil => intro l k a _; rfl
  | cons v vs ih =>
    intro l k a h
    rw [List.length_cons] at h
    rw [Assoc.putRange, ih _ _ _ (by omega), Assoc.get_put_ne (h := by omega)]

/-- A byte inside a run of puts is the one put there. -/
theorem Assoc.get_putRange_in {α : Type} [DecidableEq α] (d : α) (vs : List α) : ∀ (l : Assoc α) (k i : Nat),
    i < vs.length → Assoc.get d (Assoc.putRange d l k vs) (k + i) = vs.getD i d := by
  induction vs with
  | nil => intro l k i h; exact absurd h (Nat.not_lt_zero i)
  | cons v vs ih =>
    intro l k i h
    rw [Assoc.putRange]
    cases i with
    | zero => rw [Assoc.get_putRange_out _ _ _ _ _ (by omega)]; simp
    | succ j =>
      have := ih (Assoc.put d l k v) (k + 1) j (by simpa using h)
      rw [show k + (j + 1) = k + 1 + j by omega, this]; simp

/-- A store leaves every byte outside it as it was. -/
theorem State.memByte_memStore_out (s : State) (off : Nat) (bs : List Byte) (a : Nat) (h : a < off ∨ off + bs.length ≤ a) :
    (s.memStore off bs).memByte a = s.memByte a := Assoc.get_putRange_out _ _ _ _ _ h

/-- A stored byte reads as stored. -/
theorem State.memByte_memStore_in (s : State) (off : Nat) (bs : List Byte) (i : Nat) (h : i < bs.length) :
    (s.memStore off bs).memByte (off + i) = bs.getD i 0 := Assoc.get_putRange_in _ _ _ _ _ h

/-! ### The canonical form is kept -/

theorem State.memStore_canonical (s : State) (off : Nat) (bs : List Byte) (h : memoryCanonical s) :
    memoryCanonical (s.memStore off bs) := Assoc.wf_putRange _ _ _ _ h

theorem State.zeroGranule_canonical (s : State) (g tweak : Nat) (h : memoryCanonical s) : memoryCanonical (s.zeroGranule g tweak) :=
  Assoc.wf_filter _ _ _ h

theorem State.foundUe_cells (s : State) (burst : Nat) (sched : Bool) : (s.foundUe burst sched).mem.cells = s.mem.cells := rfl

theorem State.hubDrop_cells (s : State) (burst : Nat) : (s.hubDrop burst).mem.cells = s.mem.cells := rfl

theorem State.burstRead_cells (s : State) (off n tweak : Nat) (sched : Bool) :
    (s.burstRead off n tweak sched).2.2.mem.cells = s.mem.cells := by
  unfold State.burstRead
  dsimp only
  by_cases h1 : s.mem.badBursts.contains (off / 64) = true
  · rw [if_pos h1]; rfl
  · rw [if_neg h1]
    by_cases h2 : s.tweakOf (off / 64) = tweak
    · rw [if_pos h2]
    · rw [if_neg h2]; rfl

theorem State.burstWrite_canonical (s : State) (off : Nat) (bs : List Byte) (tweak : Nat) (sched : Bool) (h : memoryCanonical s) :
    memoryCanonical (s.burstWrite off bs tweak sched).2 := by
  unfold State.burstWrite
  dsimp only
  by_cases h1 : bs.length = 64
  · rw [if_pos h1]
    exact memoryCanonical_of_cells rfl (State.memStore_canonical _ off bs (memoryCanonical_of_cells (s := s) rfl h))
  · rw [if_neg h1]
    by_cases h2 : s.mem.badBursts.contains (off / 64) = true
    · rw [if_pos h2]; exact memoryCanonical_of_cells (State.foundUe_cells s _ sched) h
    · rw [if_neg h2]
      by_cases h3 : s.tweakOf (off / 64) = tweak
      · rw [if_pos h3]; exact State.memStore_canonical s off bs h
      · rw [if_neg h3]
        exact memoryCanonical_of_cells rfl (State.memStore_canonical _ off bs (State.memStore_canonical _ _ _ (memoryCanonical_of_cells (s := s) rfl h)))

/-- A fold whose every step keeps the canonical form keeps it. -/
theorem memoryCanonical_foldl {α β : Type} (f : β → α → β) (g : β → State) (hf : ∀ b a, memoryCanonical (g b) → memoryCanonical (g (f b a)))
    (l : List α) : ∀ b, memoryCanonical (g b) → memoryCanonical (g (l.foldl f b)) := by
  induction l with
  | nil => intro b h; exact h
  | cons a l ih => intro b h; exact ih _ (hf b a h)

theorem State.memRead_canonical (s : State) (off n tweak : Nat) (sched : Bool) (h : memoryCanonical s) :
    memoryCanonical (s.memRead off n tweak sched).2.2 := by
  unfold State.memRead
  refine memoryCanonical_foldl _ (fun a : List Byte × Bool × State => a.2.2) (fun b e hb => ?_) _ _ ?_
  · exact memoryCanonical_of_cells (State.burstRead_cells _ _ _ _ _) hb
  · exact h

theorem State.memWrite_canonical (s : State) (off : Nat) (bs : List Byte) (tweak : Nat) (sched : Bool) (h : memoryCanonical s) :
    memoryCanonical (s.memWrite off bs tweak sched).2 := by
  unfold State.memWrite
  refine memoryCanonical_foldl _ (fun a : Bool × State => a.2) (fun b e hb => ?_) _ _ ?_
  · exact State.burstWrite_canonical _ _ _ _ _ hb
  · exact h

/-- One write of a tick keeps the canonical form (R159). -/
theorem State.applyAcc_canonical (s : State) (w : SchedAcc) (h : memoryCanonical s) : memoryCanonical (s.applyAcc w) := by
  unfold State.applyAcc
  dsimp only
  split
  · exact h
  · have hw := State.memWrite_canonical s w.off w.bytes w.tweak (!w.svc) h
    split
    · exact hw
    · exact memoryCanonical_of_cells (State.hubDrop_cells _ _) hw

theorem State.applySched_canonical (s : State) (h : memoryCanonical s) : memoryCanonical s.applySched :=
  memoryCanonical_foldl State.applyAcc id (fun b w hb => State.applyAcc_canonical b w hb) _ _ (memoryCanonical_of_cells (s := s) rfl h)

theorem State.dropSched_canonical (s : State) (h : memoryCanonical s) : memoryCanonical s.dropSched :=
  memoryCanonical_foldl State.applyAcc id (fun b w hb => State.applyAcc_canonical b w hb) _ _ (memoryCanonical_of_cells (s := s) rfl h)

/-- A read in the tick's order stores nothing, and leaves the tick's accesses as they are. -/
theorem State.orderedRead_cells (s : State) (off n tweak : Nat) (sched cached : Bool) :
    (s.orderedRead off n tweak sched cached).2.2.mem.cells = s.mem.cells := rfl

theorem State.orderedRead_sched (s : State) (off n tweak : Nat) (sched cached : Bool) :
    (s.orderedRead off n tweak sched cached).2.2.mem.sched = s.mem.sched := rfl

theorem State.schedRead_cells (s : State) (off n tweak : Nat) : (s.schedRead off n tweak).2.2.mem.cells = s.mem.cells := rfl

/-- Either way of a choice holds the same bytes. -/
theorem cells_ite {c : Prop} [Decidable c] {a b : State} {l : List Host.Cell} (ha : a.mem.cells = l) (hb : b.mem.cells = l) :
    (if c then a else b).mem.cells = l := by
  split
  · exact ha
  · exact hb

theorem State.trackerMiss_cells (s : State) (burst tweak req : Nat) : (s.trackerMiss burst tweak req).mem.cells = s.mem.cells :=
  cells_ite rfl rfl

theorem State.evicted_cells (s : State) (burst : Nat) : (s.evicted burst).mem.cells = s.mem.cells := rfl

theorem State.hubInsert_cells (s : State) (burst tweak : Nat) : (s.hubInsert burst tweak).mem.cells = s.mem.cells := by
  unfold State.hubInsert
  dsimp only
  generalize List.drop 16 _ = l
  generalize List.take 16 _ = v
  suffices h : ∀ (l : List (Nat × Nat)) (t : State), (l.foldl (fun s e => s.evicted e.1) t).mem.cells = t.mem.cells from h l _
  intro l
  induction l with
  | nil => intro t; rfl
  | cons e l ih => intro t; rw [List.foldl_cons, ih, State.evicted_cells]

/-- A service read of one burst stores nothing (R166). -/
theorem State.svcBurst_cells (s : State) (off n tweak req : Nat) : (s.svcBurst off n tweak req).2.2.mem.cells = s.mem.cells := by
  unfold State.svcBurst
  dsimp only
  split
  · rw [State.orderedRead_cells, State.hubInsert_cells]; rfl
  · split
    · rw [State.orderedRead_cells, State.trackerMiss_cells]
    · rw [State.hubInsert_cells, State.orderedRead_cells, State.trackerMiss_cells]

theorem State.svcRead_canonical (s : State) (off n tweak req : Nat) (h : memoryCanonical s) :
    memoryCanonical (s.svcRead off n tweak req).2.2 := by
  unfold State.svcRead
  refine memoryCanonical_foldl _ (fun a : List Byte × Bool × State => a.2.2) (fun b e hb => ?_) _ _ ?_
  · exact memoryCanonical_of_cells (State.svcBurst_cells _ _ _ _ _) hb
  · exact h

theorem State.svcBurstWrite_canonical (s : State) (off : Nat) (bs : List Byte) (tweak : Nat) (h : memoryCanonical s) :
    memoryCanonical (s.svcBurstWrite off bs tweak).2 := by
  unfold State.svcBurstWrite
  dsimp only
  split
  · split <;> exact memoryCanonical_of_cells (s := s) rfl h
  · exact State.burstWrite_canonical s off bs tweak false h

/-- A service write keeps the canonical form. -/
theorem State.svcWrite_canonical (s : State) (off : Nat) (bs : List Byte) (tweak : Nat) (h : memoryCanonical s) :
    memoryCanonical (s.svcWrite off bs tweak).2 := by
  unfold State.svcWrite
  refine memoryCanonical_foldl _ (fun a : Bool × State => a.2) (fun b e hb => ?_) _ _ ?_
  · exact State.svcBurstWrite_canonical _ _ _ _ hb
  · exact h

/-- A scratchpad write keeps the scratchpad's canonical form. -/
theorem spadWrite_wf (k : Core) (addr : Nat) (bytes : List Byte) (h : Assoc.wf (0 : Byte) k.spad = true) :
    Assoc.wf (0 : Byte) (spadWrite k addr bytes).spad = true := by
  unfold spadWrite
  dsimp only
  split
  · exact Assoc.wf_putRange _ _ _ _ h
  · generalize (List.range bytes.length).zip bytes = l
    generalize k.spad = m at h
    induction l generalizing m with
    | nil => exact h
    | cons e l ih =>
      rw [List.foldl_cons]
      apply ih
      split
      · exact h
      · exact Assoc.wf_put _ _ _ _ h

end Sys2Proof.Machine
end

