-- ==== Sys2Proof/Laws/Shared.lean ====
section
/-! SUPPORT. What the operations that many commands share do, each said once: the check that a unit exists, a
register write, and a host command that none of the shared refusals meets. -/
namespace Sys2Proof.Machine
open Sys2Proof.Safety

/-- A command about a unit that exists has its effect. -/
theorem onUnit_of {ok : Bool} (h : ok = true) (s t : State) : onUnit s ok t = .next t := by
  subst h; rfl

/-- A command about a unit that the device does not have changes nothing. -/
theorem onUnit_none {ok : Bool} (h : ok = false) (s t : State) : onUnit s ok t = .next s := by
  subst h; rfl

/-- Outside Bivouac mode, an agent that may write a register has the write's effect. -/
theorem State.regWrite_takes (s : State) (a : Agent) (off : Nat) (e : State → State) (h1 : s.bivouac = false)
    (h2 : agentWrites a off = true) : s.regWrite a off e = e s := by
  simp [State.regWrite, h1, h2]

@[simp] theorem agentWrites_pf0 (off : Nat) : agentWrites .pf0 off = true := rfl

/-- In Bivouac mode no register takes a write. -/
theorem State.regWrite_bivouac (s : State) (a : Agent) (off : Nat) (e : State → State) (h : s.bivouac = true) :
    s.regWrite a off e = s := by
  simp [State.regWrite, h]

/-- A command that none of the shared refusals meets has its body's effect, and its reply at once. -/
theorem State.runCmd_plain (s : State) (h : HostCmd) (k : CmdSpec) (self : Instr) (body : State → State × CmdEnd)
    (hp : plainCmd s h k) : s.runCmd h k self body =
      (match body s with
       | (t, .later) => t
       | (t, .done status detail r0 r1) => t.reply h k.opcode status detail r0 r1) := by
  obtain ⟨h1, h2, h3, h4, h5, h6, h7, h8⟩ := hp
  have h9 : (usesHost k.opcode h && !s.busMaster 0) = false := by
    rcases h8 with h8 | h8 <;> simp [h8]
  simp [State.runCmd, State.finish, h1, h2, h3, h4, h5, h6, h7, h9] <;> rfl

end Sys2Proof.Machine
end

