-- ==== Sys2Proof/Laws/All.lean ====
section
/-! SUPPORT. Every file of laws. -/
end

