-- ==== Sys2Proof/Tests/Slice0.lean ====
section
/-! SUPPORT. Tests: each statement's hypotheses met by small states, words written out bit by bit from the spec's encodings,
the refusals of the well-formedness check, and single steps with results taken from the spec's own numbers. -/
namespace Sys2Proof.Tests
open Sys2Proof Sys2Proof.Machine Sys2Proof.Safety

set_option maxRecDepth 40000
set_option Elab.async false

/-- The device at D0 and at work, as far as the shared checks see it. -/
def work : State := State.reset

/-- An image with a timing section and a power profile, for a device without cores; its DIGEST is the SHA-256 of its bytes. -/
def goodImage : List Byte := bytesOf 0x10001000100010001000100010001000100010001000100010001000100010001000100010001000100010001000100000000000000000000000000000000000000000000000000000000000000000000000000000000ffffffffffffffffffffffffffffffff0000000000000002000000000000000000000000000000000000000000000030000000000000018000000000ffff00200000000000000018000000000000014000000000ffff00310000000000000000000000000000000000000000000000000000000000000000000000000000000000000000000000000000000000000000000000000000000000000000000000000000000000000000000000000000000000000000000000000000000000000000000000000000000000000000000000000000000000000000e4649282f7aa9c567a8f2f3952319b55438f17e03ea8ab547ec82b346c5a31e300000000000000000000000000000000000000000000000000000000000000000000000000000100000000000000000000021f000000000000000040000010000001000000000000000000000000000700000000000001c0010000014b524843 448

/-- The same for a device whose one core is core 0, with that core's region in the profile. -/
def coreImage : List Byte := bytesOf 0x100010001000100010001000100010001000100010001000100010001000100010001000100010001000100010001000000000001000100000000000000000000000000000000000000000000000000000000000000000000000000000000ffffffffffffffffffffffffffffffff0000000000000002000000000000000000000000000000000000000000000038000000000000018000000000ffff00200000000000000018000000000000014000000000ffff00310000000000000000000000000000000000000000000000000000000000000000000000000000000000000000000000000000000000000000000000000000000000000000000000000000000000000000000000000000000000000000000000000000000000000000000000000000000000000000000000000000000000000000971e3af1b5c2272e5b63f635b7c13dce6c552e6e874750758eb0ecfb08c502eb00000000000000000000000000000000000000000000000000000000000000000000000000000100000000000000000000021f000000000000000040000010000001000000000000000000000000000700000000000001c0010000014b524843 448

/-- A state whose PF0 is a bus master. -/
def mastered (s : State) : State := { s with host := { s.host with bme := [(0, true)] } }

/-- A multi-device image whose verdict tree has parent port 5 and child port 3. -/
def treeImage : List Byte := bytesOf 0x80a000000000000000000000000000000000000000000000000000000000000000000000000000000000000000000000008000000000000014000000000ffff00320000000000000000000000000000000000000000000000000000000000000000000000000000000000000000000000000000000000000000000000000000000000000000000000000000000000000000000000000000000000000000000000000000000000000000000000000000000000000000000000000000000000000000a6f553013961a8c1b54e372b224042d86a1cf9206046599140aea4b46acf7c7900000000000000000000000000000000000000000000000000000000000000000000000000000100000000000000000000011f00000000000000004000001000000100000000000100000000000000070000000000000180010000014b524843 384

/-- A rate change in its stop window, at E16. -/
def rated : State := { State.reset with clk := { State.reset.clk with ratePend := some (1, 200000), stopWindow := true, stopEdges := 16 } }
def kept : State := ({ State.reset with clk := { State.reset.clk with ratePend := some (1, 100000) }, roll := { State.reset.roll with members := 6 } } : State).rset0 CLK_STATUS.KEEPER 1
def owing : State := { State.reset with clk := { State.reset.clk with gst := 70 } }
def ceilWaits : State := State.reset.setRegion 3 { ceilPend := some 1700 }

theorem witness_ReleaseAndIssueMoveTime :
    (State.reset.clk.stopWindow = false ∧ State.reset.clk.ratePend = none ∧ State.reset.frame.tableWrites = [] ∧ State.reset.frame.phase ≠ .decided) ∧
    rated.clk.stopWindow = true ∧
    (owing.rget PWR_REGION.PSTATE 287 = 0 ∧ owing.recalibrating 287 = false) ∧
    (isCoreRegion 136 = false ∧ owing.mayIssue 136 = true) ∧
    (owing.mayIssue 0 = true ∧ owing.coreOfRegion 0 = some 0 ∧ owing.frame.phase ≠ .inFrame) ∧
    (let s := owing.setFrame { owing.frame with phase := .inFrame, start := 0, len := 100 }
     s.mayIssue 0 = true ∧ isCoreRegion 0 = true ∧ s.coreOfRegion 0 = some 0 ∧ s.frame.phase = .inFrame ∧ s.frame.start ≤ (s.region 0).tick) ∧
    State.reset.mayIssue 287 = false := by decide +kernel

theorem witness_ReferenceLossAndReturn :
    (let s : State := { State.reset with clk := { State.reset.clk with substitutions := 4 } }
     4 ≤ s.clk.substitutions ∧ s.rget CLK_STATUS.SOURCE = 0 ∧ s.clk.stopWindow = false ∧ s.clk.ratePend = none ∧ s.frame.tableWrites = [] ∧
       s.frame.phase ≠ .decided) ∧
    ((1000 : Int) < 1001 ∧ (-1001 : Int) < -1000 ∧ State.reset.rget CLK_STATUS.SOURCE = 0) ∧
    State.reset.clk.substitutions < 4 ∧ (State.reset.rset0 CLK_STATUS.SOURCE 1).rget CLK_STATUS.SOURCE = 1 := by decide +kernel

theorem witness_TimeFaultsEnterFailSafe :
    (let s := State.reset.rset CLK_REGION_DEBT.DEBT 287 65; 64 < s.rget CLK_REGION_DEBT.DEBT 287 ∧ s.rget PWR_REGION.PSTATE 287 = 0) ∧
    (State.reset.rset CLK_REGION_DEBT.DEBT 287 64).rget CLK_REGION_DEBT.DEBT 287 ≤ 64 ∧
    (let s : State := { State.reset.rset0 CLK_STATUS.SOURCE 1 with clk := { State.reset.clk with held := [(1152, 156250000)] } }
     s.rget CLK_STATUS.SOURCE = 1 ∧ s.frame.phase = .idle ∧
       ceilDiv (625 * (1000 * s.rget CLK_HOLDOVER.IDLE_MS)) 4 ≤ Assoc.get 0 s.clk.held 1152) ∧
    State.reset.rget CLK_STATUS.SOURCE ≠ 1 := by decide +kernel

theorem witness_RegionEventsAreRaised :
    (let s : State := { ceilWaits with clk := { ceilWaits.clk with wall := 2 ^ 40 } }
     (s.region 3).ceilPend = some 1700 ∧ (s.region 3).ceilSince + ceilDiv (625 * s.rget CLK_PIN_CFG.WINDOW_US) 4 < s.clk.wall ∧
       s.rget CLK_EVENT_REGION.VALID = 0) ∧
    (let s : State := { State.reset with clk := { State.reset.clk with held := [(1148, 2 ^ 40), (1149, 2 ^ 40), (1150, 2 ^ 40), (1152, 2 ^ 40)], gst := 1 } }
     let s := ((s.rset CLK_REGION_DEBT.DEBT 287 64).rset PWR_REGION.TEMP_C 287 100).rset CLK_REGION_DEBT.CLAMP_MHZ 287 1000
     s.rget CLK_EVENT_REGION.VALID = 0 ∧ s.loopPinned 287 .debtHigh = true ∧ s.loopPinned 287 .clampPinned = true) ∧
    (State.reset.rset0 CLK_EVENT_REGION.VALID 1).rget CLK_EVENT_REGION.VALID = 1 ∧ State.reset.loopPinned 287 .debtHigh = false := by decide +kernel

/-- A region whose clamp is at the floor. -/
def atFloor : State :=
  { State.reset.rset CLK_REGION_DEBT.CLAMP_MHZ 287 900 with clk := { State.reset.clk with held := [(1149, 2 ^ 40)], gst := 1 } }

theorem witness_RegionEventsAreRaised_floor : atFloor.loopPinned 287 .oscFloor = true := by
  have h : atFloor.limitNow 287 = 900 := by decide +kernel
  have o : atFloor.oscMhz 287 = 900 := by
    unfold State.oscMhz
    rw [if_neg (by decide +kernel), h]
    exact Nat.max_eq_left (Nat.min_le_left _ _)
  have w : usEdges (atFloor.rget CLK_PIN_CFG.WINDOW_US) < Assoc.get 0 atFloor.clk.held (loopKey 287 .oscFloor) := by decide +kernel
  unfold State.loopPinned State.loopHeld
  simp only [o, w, decide_true, Bool.and_self]

theorem witness_TimeFollowsTheParent :
    (let s := (State.reset.rset KL_PORT_STATUS.STATE 17 7).rset0 CLK_STATUS.KEEPER 1
     s.rget KL_PORT_STATUS.STATE 17 = 7 ∧ s.rget CLK_STATUS.KEEPER = 1 ∧ (s.port 17).stampAt ≤ s.gst) ∧
    State.reset.rget KL_PORT_STATUS.STATE 17 ≠ 7 ∧
    (let s : State := { State.reset with clk := { State.reset.clk with offCount := 1, offOver := false, gst := 4096 } }
     s.rget CLK_STATUS.KEEPER = 0 ∧ s.clk.offCount ≠ 0 ∧ s.clk.offOver = false ∧ s.clk.stopWindow = false ∧
       s.clk.steerAt + 2 ^ s.rget CLK_STEER_CFG.INTERVAL_LOG2 ≤ s.gst ∧ (s.rset0 CLK_STATUS.KEEPER 1).rget CLK_STATUS.KEEPER = 1) ∧
    State.reset.gst < State.reset.clk.steerAt + 2 ^ State.reset.rget CLK_STEER_CFG.INTERVAL_LOG2 := by decide +kernel

theorem witness_RateChangeIsAgreedAndEnds :
    (let s := State.reset.rset0 CLK_STATUS.KEEPER 1
     s.bivouac = false ∧ bitAt (2 ^ 31 + 1) 31 = true ∧ s.clk.ratePend = none ∧ s.rget CLK_STATUS.KEEPER = 1 ∧
       s.rateOk (bitsOf (2 ^ 31 + 1) 0 3) = true ∧
       (let m : RcMsg := { sender := 9, entries := [{ dev := 4 }] }; m.ring = none ∧ rateEntry m % 8 = 4 ∧ s.rateOk 4 = true)) ∧
    State.reset.rateOk 4 = true ∧ State.reset.rateOk 5 = false ∧
    (kept.rget CLK_STATUS.KEEPER = 1 ∧ kept.bivouac = false ∧ kept.clk.ratePend = some (1, 100000) ∧ 100000 ≤ kept.gst + 150000 ∧
      kept.roll.members.testBit 1 = true ∧ kept.clk.rateAcks.contains 1 = false ∧ kept.ownId ≠ 1 ∧
      (let m : RcMsg := { sender := 1, entries := [{ dev := 1 }] }; m.ring = none ∧ bitAt (rateEntry m) 3 = false) ∧
      (let m : RcMsg := { sender := 1, entries := [{ dev := 9 }] }; m.ring = none ∧ bitAt (rateEntry m) 3 = true) ∧
      kept.clk.stopWindow = false ∧ rated.gst + 150000 < 200000) := by decide +kernel

theorem witness_RateChangeIsAgreedAndEnds_deadline : kept.allAcked = false := by
  unfold State.allAcked
  refine Bool.eq_false_iff.2 fun h => ?_
  have e : (!(kept.roll.members.testBit 1) || decide (1 = kept.ownId) || kept.clk.rateAcks.contains 1) = false := by decide +kernel
  rw [List.all_eq_true.1 h 1 (List.mem_range.2 (by decide))] at e
  cases e

theorem witness_RateChangeIsAgreedAndEnds_also :
    (rated.clk.ratePend = some (1, 200000) ∧ rated.clk.stopWindow = true ∧ rated.clk.retuned = false ∧ 16 ≤ rated.clk.stopEdges ∧
      (∀ r, r < 288 → rated.rget PWR_REGION.PSTATE r = 0 → rated.debt r = 0)) ∧
    (let s : State := { rated with clk := { rated.clk with gst := 5 } }
     s.clk.retuned = false ∧ 16 ≤ s.clk.stopEdges ∧ s.rget PWR_REGION.PSTATE 287 = 0 ∧ 0 < s.debt 287 ∧ s.failSafe = false) ∧
    (let s : State := { rated with clk := { rated.clk with retuned := true, stopEdges := 48 } }
     s.clk.ratePend = some (1, 200000) ∧ s.clk.stopWindow = true ∧ s.clk.retuned = true ∧ 48 ≤ s.clk.stopEdges) ∧
    State.reset.clk.stopWindow = false := by decide +kernel

theorem witness_CeilingIsCheckedAndPends :
    (State.reset.bivouac = false ∧ State.reset.clk.retuned = false ∧
      bitsOf 1529 0 11 < ceilDiv (rateMHz (State.reset.rget CLK_STATUS.RATE_IDX) * 102) 100 ∧
      1800 < bitsOf 1801 0 11 ∧ ceilDiv (rateMHz (State.reset.rget CLK_STATUS.RATE_IDX) * 102) 100 ≤ bitsOf 1530 0 11 ∧
      bitsOf 1800 0 11 ≤ 1800) ∧
    (let s : State := { rated with clk := { rated.clk with retuned := true } }; s.bivouac = false ∧ s.clk.retuned = true) ∧
    ((ceilWaits.region 3).ceilPend = some 1700 ∧ ceilWaits.debt 3 ≤ 16 ∧ (ceilWaits.region 3).ceilReady = true) ∧
    (let s : State := { ceilWaits with clk := { ceilWaits.clk with gst := 17 } }
     (s.region 3).ceilPend = some 1700 ∧ 16 < s.debt 3) := by decide +kernel

def noCores : State := ({ State.reset with coreMap := (List.range 256).map fun c => (c, none) } : State).rset0 MEM_STATUS.FULL_RATE 1
/-- A device with core 0 alone, whose region stands at P5. -/
def oneCore : State :=
  (({ State.reset with coreMap := (0, some 0) :: (List.range 255).map fun c => (c + 1, none) } : State).rset0 MEM_STATUS.FULL_RATE 1).rset
    PWR_REGION.PSTATE 0 5
/-- The image stands at the start of device memory. -/
def imageInMemory : State :=
  { noCores with mem := { noCores.mem with cells := ((List.range 448).zip goodImage).filter fun e => e.2 ≠ 0
                                           tweaks := (List.range 7).map fun b => (b, physTweak) } }
def goodCmd : HostCmd := { a0 := 3, a1 := 0, a2 := 448 }
def running : State :=
  let s := State.reset.setVariant 1 { image := treeImage }
  let s := { s with plan := { s.plan with active := some 1 } }
  ((s.setFrame { s.frame with phase := .inFrame, len := 100 }).rset PLAN_VAR_STATE.STATE 1 3).rset PLAN_VAR_STATE.SLOTS 1 4

theorem witness_PlanLoadAndUnload :
    (plainCmd (mastered noCores) goodCmd cmdPlanLoad ∧ (mastered noCores).loadReason 3 (goodImage.take 448) = 0 ∧
      ((mastered noCores).takeImage 3 (goodImage.take 448)).sleepers 3 = []) ∧
    (State.reset.rget PLAN_VAR_STATE.STATE 3 = 0 ∧ plainCmd (mastered State.reset) goodCmd cmdPlanLoad ∧
      (mastered State.reset).loadReason 3 ([].take 448) = 2) := by decide +kernel

theorem witness_PlanLoadAndUnload_sleepers :
    plainCmd (mastered oneCore) goodCmd cmdPlanLoad ∧ (mastered oneCore).loadReason 3 (coreImage.take 448) = 0 ∧
      ((mastered oneCore).takeImage 3 (coreImage.take 448)).sleepers 3 ≠ [] := by decide +kernel

theorem witness_PlanLoadAndUnload_memory :
    let h : HostCmd := { a0 := 256 + 3, a1 := 0, a2 := 448 }
    plainCmd imageInMemory h cmdPlanLoad ∧ h.a1 + h.a2 ≤ installed ∧ inReserved h.a1 h.a2 = false ∧
      (imageInMemory.memRead h.a1 h.a2 physTweak false).2.1 = false ∧
      (imageInMemory.memRead h.a1 h.a2 physTweak false).2.2.loadReason 3 (imageInMemory.memRead h.a1 h.a2 physTweak false).1 = 0 ∧
      ((imageInMemory.memRead h.a1 h.a2 physTweak false).2.2.takeImage 3
        (imageInMemory.memRead h.a1 h.a2 physTweak false).1).sleepers 3 = [] := by decide +kernel

theorem witness_PlanLoadAndUnload_also :
    (plainCmd running { a0 := 1 } cmdPlanUnload ∧ running.commitOwns = false ∧ running.plan.active = some 1 ∧ running.frame.phase ≠ .idle) ∧
    (plainCmd running { a0 := 3 } cmdPlanUnload ∧ running.plan.active ≠ some 3) ∧
    (running.setFrame { running.frame with phase := .decided }).commitOwns = true := by decide +kernel

theorem witness_DigestRecheckFailsABadCopy :
    (State.reset.rget PLAN_VAR_STATE.STATE 3 = 0 ∧ digestOk goodImage = true) ∧
    (let s := State.reset.rset PLAN_VAR_STATE.STATE 3 2
     s.rget PLAN_VAR_STATE.STATE 3 = 2 ∧ digestOk (s.variant 3).image = false ∧
       (∀ w, w < 4 → w ≠ 3 → ¬ (s.rget PLAN_VAR_STATE.STATE w = 2 ∨ s.rget PLAN_VAR_STATE.STATE w = 3))) ∧
    (let s := State.reset.rset PLAN_VAR_STATE.STATE 0 3
     s.rget PLAN_VAR_STATE.STATE 0 = 3 ∧ digestOk (s.variant 0).image = false ∧ s.frame.phase = .idle ∧
       (∀ w, w < 4 → w ≠ 0 → ¬ (s.rget PLAN_VAR_STATE.STATE w = 2 ∨ s.rget PLAN_VAR_STATE.STATE w = 3))) ∧
    (let s := State.reset.rset PLAN_VAR_STATE.STATE 3 5
     plainCmd s { a0 := 3 } cmdPlanActivate ∧ s.rget PLAN_VAR_STATE.STATE 3 = 5) := by decide +kernel

theorem witness_FrameCommandsWaitForTheirTicks :
    (let s := State.reset.rset PLAN_VAR_STATE.STATE 3 2
     plainCmd s { a0 := 3, a1 := 65536 } cmdPlanActivate ∧ s.rget PLAN_VAR_STATE.STATE 3 = 2 ∧ s.namedApply 65536 = some 65536 ∧
       s.frame.activates.any (fun e => decide (e.1 = 65536)) = false) ∧
    (let s := ({ State.reset with plan := { State.reset.plan with active := some 0 } } : State).rset0 HOST_STATUS.FULL 1
     plainCmd s { a0 := 65536, a1 := 2 ^ 32 - 1, a2 := 4160 } cmdFrameRun ∧ s.frame.phase = .idle ∧ s.rget HOST_STATUS.FULL = 1 ∧
       s.gst + 65536 ≤ 65536 ∧ s.gapShort 4160 = false ∧ s.plan.active ≠ none ∧ s.spillBlocks = false) ∧
    (let s := State.reset.rset0 HOST_STATUS.FULL 1
     plainCmd s { a0 := 65535 } cmdFrameRun ∧ s.rget HOST_STATUS.FULL = 1 ∧ 65535 < s.gst + 65536) ∧
    (plainCmd State.reset {} cmdFrameStop ∧ State.reset.frame.phase = .idle) ∧
    (plainCmd running { a0 := running.applyAt } cmdFrameStop ∧ running.frame.phase = .inFrame ∧ running.applyAt ≠ 0 ∧
      running.namedApply running.applyAt = some running.applyAt) ∧
    (plainCmd running {} cmdFrameStop ∧ running.frame.phase = .inFrame ∧ running.frame.fromStart = false ∧
      running.frame.abortTick = none ∧ running.frame.stopAt = none) ∧
    (plainCmd State.reset { a0 := 1 } cmdFrameWait ∧ State.reset.rget PLAN_FRAME_SEQ.SEQ < 1) ∧
    (let s := (State.reset.rset0 PLAN_FRAME_SEQ.SEQ 9).rset0 PLAN_SNAP_FRAME.SEQ 9
     plainCmd s { a0 := 9 } cmdFrameWait ∧ 9 = s.rget PLAN_FRAME_SEQ.SEQ ∧ s.frame.phase = .idle ∧ 9 = s.rget PLAN_SNAP_FRAME.SEQ) := by
  refine ⟨?_, ?_, ?_, ?_, ?_, ?_, ?_, ?_⟩ <;> decide +kernel

theorem witness_PatchCommandsWriteTheShadow :
    (let s := running.setCtx 5 (({} : Ctx).setField .state 1)
     let h : HostCmd := { a0 := 1 + 65536 * 3, a1 := 5 }
     plainCmd s h cmdSlotBind ∧ s.commitOwns = false ∧ s.rget PLAN_VAR_STATE.STATE 1 ≠ 0 ∧ 3 < s.rget PLAN_VAR_STATE.SLOTS 1 ∧
       s.unbindPending 5 = false ∧ (s.ctx 5).field .state = 1 ∧
       (s.slotKeys 1).any (fun m => decide (m ≠ 3) && decide (s.shadowSlot 1 m = 5)) = false) ∧
    plainCmd running { a0 := 1 + 65536 * 3 } cmdSlotUnbind ∧
    (plainCmd running { a0 := 2 ^ 14 - 1, a1 := 7 } cmdParamPatch ∧ running.coreValid (bitsOf (2 ^ 14 - 1) 0 8) = true) := by decide +kernel

theorem witness_FrameStartOpensTheFrame :
    (let s := State.reset.setVariant 1 { image := goodImage }
     let s := { s with plan := { s.plan with active := some 1 } }
     let s := s.setFrame { s.frame with phase := .waiting }
     s.frame.phase = .waiting ∧ s.frame.t0 ≤ s.gst ∧ s.plan.active = some 1 ∧ s.failSafe = false ∧ s.startCause = 0 ∧
       s.frame.tableWrites = []) ∧
    (let s : State := { State.reset with plan := { State.reset.plan with active := some 1 } }
     let s := s.setFrame { s.frame with phase := .applied }
     s.frame.phase = .applied ∧ s.frame.t0 ≤ s.gst ∧ s.failSafe = false ∧ s.startCause = 0x16) := by decide +kernel

theorem witness_FrameEndsAndVerdictsCome :
    (let s := State.reset.setFrame { State.reset.frame with phase := .inFrame, len := 1, now := 1 }
     s.frame.phase = .inFrame ∧ s.endTick ≤ s.gst ∧ s.frame.now = s.frameLen ∧ s.cores = [] ∧ s.mem.serves = []) ∧
    (running.frame.phase = .inFrame ∧ running.gst < running.endTick) ∧
    ((header running.activeImage).multi = true ∧ 3 ≠ (verdictTree running.activeImage).1 ∧
      (verdictTree running.activeImage).2.testBit 3 = true ∧ running.frame.children.any (fun e => decide (e.1 = 3)) = false) ∧
    (let s := running.setFrame { running.frame with phase := .ended, children := [(3, 0, .ok)] }
     s.frame.phase = .ended ∧ 5 = (verdictTree s.activeImage).1 ∧ s.frame.bcast = none ∧ s.frame.sentUp = false ∧
       (∀ q, q < 18 → (verdictTree s.activeImage).2.testBit q = true → s.frame.children.any (fun e => decide (e.1 = q)) = true) ∧
       (∀ e ∈ s.frame.children, e.2.2 = .ok) ∧ s.failSafe = false ∧ s.frame.bad = false) ∧
    (let f : FaultRec := { cause := 0x13, region := 0, detail := 0 }
     let s := running.setFrame { running.frame with phase := .ended, bad := true, first := some f }
     s.failSafe = false ∧ s.frame.bad = true ∧ s.frame.first = some f) := by decide +kernel

theorem witness_DecisionAndRerunLimit :
    (let s : State := { State.reset with clk := { State.reset.clk with gst := 9999 } }
     let s := s.setFrame { s.frame with phase := .ended, len := 100, vt := 64 }
     s.decideTick ≤ s.gst ∧ (header s.activeImage).multi = false ∧ s.failSafe = false ∧ s.frame.bad = false) ∧
    (let s := State.reset.setFrame { State.reset.frame with phase := .ended, bad := true, len := 0 }
     s.decideTick ≤ s.gst + 64 ∧ s.frame.stopped = false ∧ s.rget ROLL_STATUS.AGREEING = 0 ∧ s.roll.switch = none) ∧
    (let s := State.reset.setFrame { State.reset.frame with phase := .decided, aborts := 2 }
     s.rget PLAN_FRAME_CTRL.RERUN_LIMIT + 1 ≤ s.frame.aborts ∧ s.frame.stopAt = none) := by decide +kernel

theorem witness_ApplyTickTakesEffect :
    (let s := (State.reset.rset PLAN_VAR_STATE.STATE 3 2).setFrame { State.reset.frame with activates := [(0, 3, {})], lastApply := 1 }
     s.frame.phase = .idle ∧ s.frame.lastApply ≠ s.gst / 65536 * 65536 ∧ 0 ≤ s.gst / 65536 * 65536 ∧
       s.rget PLAN_VAR_STATE.STATE 3 = 2 ∧ s.roll.switch = none ∧ s.frame.closedSet = none ∧
       s.rgr.retire = none ∧ s.clk.ratePend = none ∧ s.host.unbind = [] ∧ s.roll.unbinds = []) ∧
    (let p : PatchSet := { variant := 3, epoch := 0, params := [(64 * 255 + 63, some 5)] }
     let s : State := { (State.reset.rset0 PLAN_PATCH_STATE.PHASE 1) with plan := { State.reset.plan with active := some 3 } }
     let s := s.setFrame { s.frame with closedSet := some p, lastApply := 1 }
     s.frame.phase = .idle ∧ s.frame.lastApply ≠ s.gst / 65536 * 65536 ∧ s.frame.activates = [] ∧ s.frame.closedSet = some p ∧
       s.plan.active = some p.variant ∧ p.epoch = s.rget ROLL_EPOCH.EPOCH ∧ s.rget PLAN_PATCH_STATE.PHASE = 1 ∧ p.writes = [] ∧ p.binds = [] ∧
       s.roll.switch = none ∧ s.rgr.retire = none ∧ s.clk.ratePend = none ∧ s.host.unbind = [] ∧ s.roll.unbinds = []) ∧
    (let s := State.reset.setFrame { State.reset.frame with lastApply := 65536 }
     s.frame.phase = .idle ∧ s.frame.lastApply ≠ s.gst / 65536 * 65536 ∧ s.frame.activates = [] ∧
       (let s : State := { s with clk := { s.clk with gst := 131071 } }; s.frame.lastApply = s.gst / 65536 * 65536)) ∧
    (running.frame.phase = .inFrame ∧
      (let s := running.setFrame { running.frame with phase := .decided }; s.frame.phase = .decided ∧ s.gst < s.applyAt)) := by
  decide +kernel

theorem witness_FaultLogPowerAndStatistics :
    (State.reset.bivouac = false ∧ bitAt 0x3F00 31 = false ∧ bitAt (2 ^ 31 + 0x3F00) 31 = true ∧
      (State.reset.rset0 PLAN_FAULT_HEAD.OVF 1).rget PLAN_FAULT_HEAD.OVF = 1) ∧
    (let s := State.reset.setFrame { State.reset.frame with phase := .inFrame, len := 100, now := 1 }
     s.frame.phase = .inFrame ∧ s.frame.now < s.frameLen ∧ s.mutedAt s.frame.now = false ∧ s.chargedRegions.contains 136 = true ∧
       chargeOver (s.runningCharge 136) (s.regionLimit 136 0) (s.intervalEnd 0) = true) ∧
    chargeOver (State.reset.runningCharge 0) (State.reset.regionLimit 0 0) 0 = false ∧
    plainCmd (mastered State.reset) { a0 := 0, a1 := 4096, a2 := 2176 } cmdStatsRead ∧
    plainCmd (mastered State.reset) { a0 := 1, a1 := 4096, a2 := 4096 } cmdStatsRead := by
  refine ⟨?_, ?_, ?_, ?_, ?_⟩ <;> decide +kernel

def inFrame : State := State.reset.setFrame { State.reset.frame with phase := .inFrame, len := 4096 }
def onS : Issue := { core := 255, queue := 0, gap := 0 }
def inSvc : Issue := { core := 255, queue := 0, gap := 0, svc := true }
def serving : State := State.reset.setCore 255 { svc := { state := 1, count := 4, index := 511 } }
def joining : State :=
  let q : QueueSt := { branches := [{ joinPc := 0, armEnd := none, tBrb := 0, sigs0 := 0 }] }
  inFrame.setCore 255 { queues := [(0, q)], tokens := [(31, 3), (0, 1)] }

theorem witness_ScalarArithmeticResults :
    (onS.core < 256 ∧ onS.svc = false ∧ inFrame.canIssue onS = true) ∧ (inSvc.svc = true ∧ serving.svcReady inSvc.core = true) := by
  decide +kernel

theorem witness_RegisterWritesTakeEffectAtTheTicksEnd :
    (let k : Core := { agenda := [(9, .sreg 4 31 (2 ^ 64 - 1))] }; k.agenda = [(9, .sreg 4 31 (2 ^ 64 - 1))]) ∧
    (let k : Core := { agenda := [(9, .sreg 4 0 1), (9, .sreg 0 0 2)] }; k.agenda = [(9, .sreg 4 0 1), (9, .sreg 0 0 2)]) ∧
    (let k : Core := { agenda := [(10, .sreg 0 0 1)] }; k.agenda = [(10, .sreg 0 0 1)] ∧ 10 ≠ 9) := by decide +kernel

theorem witness_ImmediatesAndScratchpadWords :
    (inFrame.canIssue onS = true ∧ (((atIssue inFrame onS).core 255).reg 0x20#7 + (0#23).signExtend 64).toNat < 524288 ∧
      (atIssue inFrame onS).mutedAt (inFrame.issueTick onS) = false ∧ spadBad ((atIssue inFrame onS).core 255) 0 8 = false) ∧
    ((atIssue inFrame onS).frame.phase = .inFrame ∧
      524288 ≤ (((atIssue inFrame onS).core 255).reg 0x20#7 + (0x7FFFFF#23).signExtend 64).toNat) ∧
    (serving.svcReady 255 = true ∧ (serving.core 255).inArea ((serving.core 255).reg 0x20#7 + (32#23).signExtend 64).toNat = false ∧
      (serving.core 255).inArea ((serving.core 255).reg 0x20#7 + (31#23).signExtend 64).toNat = true ∧
      spadBad (serving.core 255) (8 * 31) 8 = false) ∧
    (let s := State.reset.setCore 255 { svc := { state := 1, count := 4 }, badWords := [31] }
     s.svcReady 255 = true ∧ (s.core 255).inArea ((s.core 255).reg 0x20#7 + (31#23).signExtend 64).toNat = true ∧
       spadBad (s.core 255) (8 * 31) 8 = true) := by decide +kernel

theorem witness_QueueControlAndTokens :
    inFrame.canIssue onS = true ∧ plainCmd State.reset {} cmdNop ∧ (atIssue inFrame onS).abortedAt (inFrame.issueTick onS) = false ∧
    (joining.canIssue onS = true ∧
      ((atIssue joining onS).queue onS).branches = [{ joinPc := 0, armEnd := none, tBrb := 0, sigs0 := 0 }] ∧
      joining.issueTick onS - 0 = 0 ∧ ((atIssue joining onS).queue onS).sigs - 0 = 0) ∧
    (joining.issueTick onS - 0 ≠ 5 ∧ (atIssue joining onS).abortedAt (joining.issueTick onS) = false ∧
      (atIssue joining onS).frame.phase = .inFrame ∧ (atIssue joining onS).mutedAt (joining.issueTick onS) = false) := by decide +kernel

theorem witness_QueueControlAndTokens_also :
    (atIssue joining onS).mutedAt (joining.issueTick onS) = false ∧ State.reset.canIssue onS = false ∧
    (let s := joining.setFrame { joining.frame with abortTick := some 0, bad := true }
     s.canIssue onS = true ∧ (atIssue s onS).abortedAt (s.issueTick onS) = true) ∧
    (let k : Core := { agenda := [(9, .tokenAdd 0 0 31 255)] }; k.agenda = [(9, .tokenAdd 0 0 31 255)]) ∧
    (let k : Core := { agenda := [(9, .unbalanced 4 8 1 1)] }; k.agenda = [(9, .unbalanced 4 8 1 1)]) ∧
    (let k : Core := { agenda := [(9, .tokenWait 4 8 31 3)], tokens := [(31, 3)] }
     k.agenda = [(9, .tokenWait 4 8 31 3)] ∧ 3 ≤ Assoc.get 0 k.tokens 31 ∧ Assoc.get 0 k.tokens 31 < 4) ∧
    (let k : Core := { agenda := [(9, .tokenBar 4 8 0x80000001)], tokens := [(0, 1), (31, 3)] }
     k.agenda = [(9, .tokenBar 4 8 0x80000001)] ∧ (∀ j, j < 32 → (0x80000001 : Nat).testBit j = true → 0 < Assoc.get 0 k.tokens j) ∧
       (0x40000000 : Nat).testBit 30 = true ∧ Assoc.get 0 k.tokens 30 = 0) ∧
    (let k : Core := { agenda := [(9, .tokenWait 0 8 31 3), (9, .tokenWait 4 8 31 1)], tokens := [(31, 3)] }
     k.agenda = [(9, .tokenWait 0 8 31 3), (9, .tokenWait 4 8 31 1)] ∧ 3 ≤ Assoc.get 0 k.tokens 31 ∧ Assoc.get 0 k.tokens 31 - 3 < 1) := by
  decide +kernel

theorem witness_ServiceCallsRun :
    (plainCmd (mastered State.reset) { a0 := 255, a2 := 512 } cmdSvcRun ∧ (mastered State.reset).coreValid 255 = true ∧
      ((mastered State.reset).core 255).svc.state = 0) ∧
    (serving.svcReady 255 = true ∧ condHolds 0 ((serving.core 255).reg 0x20#7) ((serving.core 255).reg 0x20#7) = true ∧
      ((serving.core 255).svc.index : Int) + (0x7FFFE01#27).toInt = 0) ∧
    condHolds 1 ((serving.core 255).reg 0x20#7) ((serving.core 255).reg 0x20#7) = false ∧
    ((serving.core 255).routineArgsOk 0x10 = true ∧ serving.windowLeft = none) ∧
    ((State.reset.setCore 255 { svc := { state := 1, waitingCall := some 1 } }).core 255).svc.waitingCall = some 0x0001 ∧
    (serving.inWindow = true ∧ serving.rgr.libTrial = false) ∧
    (let s := inFrame.rset0 PLAN_FRAME_CTRL.RUN 1; s.inWindow = false ∧ s.mem.svcDma = []) := by
  refine ⟨?_, ?_, ?_, ?_, ?_, ?_, ?_⟩ <;> decide +kernel

/-- A service window before T0 has an end, and the routine is resident. -/
theorem witness_ServiceCallsRun_windowLeft :
    (let s := serving.setFrame { serving.frame with phase := .waiting, t0 := 2 ^ 20 }
     s.svcReady 255 = true ∧ s.windowLeft = some (2 ^ 20) ∧ (s.core 255).routineArgsOk 0x10 = true) ∧
    (serving.setFrame { serving.frame with phase := .waiting, t0 := 2 ^ 20 }).routineVersion 0x10 ≠ 0 := by
  refine ⟨by decide +kernel, ?_⟩
  unfold State.routineVersion
  rw [if_pos (by decide)]
  exact Nat.ne_of_gt (Nat.lt_of_lt_of_le Nat.one_pos (Nat.le_max_left _ _))

theorem witness_ServiceAreaIsFixedDuringACall :
    agentWrites .pf0 (0x100200 + 0x1000 * 255) = true ∧ (serving.core 255).svc.state = 1 ∧
    ((State.reset.setCore 255 { svc := { state := 2 } }).core 255).svc.state = 2 ∧ 255 < 2 * State.reset.lcoresPerDie ∧
    (State.reset.bivouac = false ∧ (State.reset.core 255).svc.state ≠ 1 ∧ (State.reset.core 255).svc.state ≠ 2) := by decide +kernel

def onM : Issue := { core := 255, queue := 1, gap := 0 }
def onV : Issue := { core := 255, queue := 2, gap := 0 }
def aPass (doneKt : Nat) (bubble : Bool) : Pass :=
  { issue := 0, kt := doneKt, split := false, bank := true, acc := false, fmtA := 10, fmtB := 10, lineA := 0, lineB := 0, mask := 0,
    bubble := bubble, cells := [1] }
def aRun (rmode : Nat) : VRun :=
  { issue := 0, len := 1, word := identityWord, src := 0, inFmt := 13, lineSrc := 0, lineDst := none, lineRed := none, rowLine := 0,
    scaleLine := 0, rmode := rmode, seed := 0, bubble := false, lastVal := 5 }
def busyEngine : State :=
  let x : Engine := { passes := [aPass 4 false], vruns := [aRun 1], vBusyUntil := 7 }
  inFrame.setCore 255 { engines := [(3, x)] }

theorem witness_MatrixPassStartsInOrder :
    inFrame.canIssue onM = true ∧ (atIssue inFrame onM).abortedAt (inFrame.issueTick onM) = false ∧
    mpassFault ((atIssue inFrame onM).core 255) (passPlan ((atIssue inFrame onM).core 255) 0x8#4 true 10 10 0x20#7 0x20#7 16384) true false
      0x20#7 0x20#7 (inFrame.issueTick onM) = none := by decide +kernel

theorem witness_MatrixPassStartsInOrder_also :
    busyEngine.canIssue onM = true ∧ busyEngine.frame.phase = .inFrame ∧ busyEngine.issueTick onM = busyEngine.frame.now ∧
    busyEngine.frame.abortTick = none ∧ busyEngine.frame.fromStart = false ∧ busyEngine.frame.first = none ∧
    ((busyEngine.core 255).reg 0x20#7).toNat = 0 ∧ engineLines 10 true (passK 1 (pairRate4 10 10)) ≤ 65536 ∧
    ((busyEngine.core 255).engine 3).inputUntil ≤ busyEngine.frame.now ∧ aPass 4 false ∈ ((busyEngine.core 255).engine 3).passes ∧
    (aPass 4 false).bank = true ∧ busyEngine.issueTick onM + 32 < (aPass 4 false).doneAt := by decide +kernel

theorem witness_CompletionsLeaveResults :
    ((busyEngine.core 255).engine 3).passes.find? (fun p => decide (p.bank = true)) = some (aPass 4 false) ∧
    ((busyEngine.core 255).engine 3).vruns.head? = some (aRun 1) ∧
    ((aPass 4 false).bubble = false ∧ (aPass 4 false).cells ≠ [] ∧ (aPass 4 false).doneAt = 68) ∧
    ((aRun 1).bubble = false ∧ (aRun 1).rmode ≠ 0 ∧ (aRun 1).doneAt = 11 ∧ (aRun 0).rmode = 0) := by decide +kernel

theorem witness_ChainConfigurationIsChecked :
    (let s := inFrame.setCore 255 (spadWrite {} 64 [0xFD])
     s.canIssue onV = true ∧ (atIssue s onV).mutedAt (s.issueTick onV) = false ∧ spadBad ((atIssue s onV).core 255) 64 64 = false ∧
       cfgFault (spadLine ((atIssue s onV).core 255) 1) = none) ∧
    (let s := inFrame.setCore 255 (spadWrite {} 64 [0xFF])
     s.canIssue onV = true ∧ s.issueTick onV = s.frame.now ∧ s.frame.first = none ∧ cfgFault (spadLine (s.core 255) 1) = some 0) := by
  decide +kernel

theorem witness_VectorRunsStart :
    (let k := (atIssue inFrame onV).core 255
     let p : RunPlan := { engs := [3], word := Assoc.get identityWord k.cslots 0, src := 0, rSrc := k.reg 0x20#7, rDst := k.outReg 0x20#7,
                          rRed := k.outReg 0x20#7, len := 2048, lenField := 0, rmode := 0 }
     inFrame.canIssue onV = true ∧ (atIssue inFrame onV).mutedAt (inFrame.issueTick onV) = false ∧ p.fault k (inFrame.issueTick onV) = none ∧
       (k.engine 3).vBusyUntil ≤ inFrame.issueTick onV) ∧
    (busyEngine.canIssue onV = true ∧ busyEngine.issueTick onV = busyEngine.frame.now ∧
      busyEngine.frame.now < ((busyEngine.core 255).engine 3).vBusyUntil) := by decide +kernel

theorem witness_IntegerCellsSaturate :
    (let p : Pass := { aPass 4 false with bank := false }; p.fmtA = 10 ∧ p.fmtB = 10 ∧ p.split = false) ∧
    bankAddInt (2 ^ 31 - 1) 0 = (2 ^ 31 - 1, 0) ∧ bankAddInt (2 ^ 31 - 1) 1 = (2 ^ 31 - 1, fSAT) ∧
    bankAddInt (2 ^ 31) 0 = (2 ^ 31, 0) ∧ bankAddInt (2 ^ 31) (-1) = (2 ^ 31, fSAT) := by decide +kernel

theorem witness_FP32RoundsItsOwnValuesToThemselves :
    fp32 0x80000000 ≠ .nan ∧ fp32 0x7F800000 ≠ .nan ∧ fp32 0x007FFFFF ≠ .nan ∧ fp32 0x7F7FFFFF ≠ .nan := by decide +kernel

def onD : Issue := { core := 255, queue := 3, gap := 0 }
def onX : Issue := { core := 255, queue := 4, gap := 0 }
/-- A descriptor of one line from device memory at 2^30 into the core's own scratchpad at line 1. -/
def loadDesc (count : Nat) : List Byte :=
  bytesOf (2 ^ 30 + 0x20 * 2 ^ 50) 8 ++ bytesOf (64 + 2 ^ 16) 8 ++
  bytesOf (255 * 2 ^ 22 + 64 + 2 ^ 48 + 0x20 * 2 ^ 50) 8 ++ bytesOf (64 + count * 2 ^ 16) 8
def withDesc (count : Nat) : State := inFrame.setCore 255 (spadWrite {} 0 (loadDesc count))
def memSide : DmaSide := { base := 2 ^ 30, len := 64, count := 1 }
def spadSide (count : Nat) : DmaSide := { base := 255 * 2 ^ 22 + 64, space := 1, len := 64, count := count }
def moving (src dst : DmaSide) : State :=
  inFrame.setCore 255 { dma := [(9, { src := src, dst := dst, issued := 4, total := 1, size := 64 })] }
def aPiece : Piece := { ch := 9, index := 0, issue := 4, len := 64, pc := 0, dstCore := some 255, dstAddr := 64 }
def pieceIn (p : Piece) (kept : Option (Nat × Nat × Nat)) : State :=
  inFrame.setCore 255 { dma := [(9, { total := 1, next := 1, kept := kept })], pieces := [p] }

theorem witness_DmaChecksItsDescriptorAndTicks :
    (let s := withDesc 1
     s.canIssue onD = true ∧ (atIssue s onD).mutedAt (s.issueTick onD) = false ∧ spadBad ((atIssue s onD).core 255) 0 32 = false ∧
       ((atIssue s onD).core 255).sideOf (leAt (spadBytes ((atIssue s onD).core 255) 0 32) 0 8)
         (leAt (spadBytes ((atIssue s onD).core 255) 0 32) 8 8) = memSide ∧
       ((atIssue s onD).core 255).sideOf (leAt (spadBytes ((atIssue s onD).core 255) 0 32) 16 8)
         (leAt (spadBytes ((atIssue s onD).core 255) 0 32) 24 8) = spadSide 1 ∧
       (atIssue s onD).dmaFault 255 15 memSide (spadSide 1) = none ∧ ((atIssue s onD).core 255).channelBusy 15 (s.issueTick onD) = false ∧
       ((atIssue s onD).core 255).keyBusy 15 (s.issueTick onD) = false ∧ memSide.remote = false) ∧
    (let s := withDesc 2
     s.issueTick onD = s.frame.now ∧ s.frame.first = none ∧
       (s.core 255).sideOf (leAt (spadBytes (s.core 255) 0 32) 16 8) (leAt (spadBytes (s.core 255) 0 32) 24 8) = spadSide 2 ∧
       memSide.len * memSide.count ≠ (spadSide 2).len * (spadSide 2).count) := by refine ⟨?_, ?_⟩ <;> decide +kernel

theorem witness_DmaChecksItsDescriptorAndTicks_also :
    (let s := moving memSide (spadSide 1)
     s.frame.phase = .inFrame ∧ (s.core 255).pieceTick = some 5 ∧ ((s.advance 5).core 255).pickChannel 5 = some 9 ∧
       (((s.advance 5).core 255).channel 9).src.space = 0 ∧ (((s.advance 5).core 255).channel 9).dst.space = 1 ∧
       inMemory ((((s.advance 5).core 255).channel 9).src.byteAt 0) 64 = true) ∧
    (let s := moving (spadSide 1) memSide
     (s.core 255).pieceTick = some 5 ∧ ((s.advance 5).core 255).pickChannel 5 = some 9 ∧
       (((s.advance 5).core 255).channel 9).src.space = 1 ∧ (((s.advance 5).core 255).channel 9).dst.space = 0 ∧
       (((s.advance 5).core 255).channel 9).dst.xlate = false ∧
       inMemory ((((s.advance 5).core 255).channel 9).dst.byteAt 0) 64 = true) := by
  refine ⟨?_, ?_⟩ <;> decide +kernel

/-- The front of an image whose route section binds route 1 to channel 15 of core 255. -/
def routeHead : List Byte := bytesOf 0xa000000000000000014000000000ffff00300000000000000000000000000000000000000000000000000000000000000000000000000000000000000000000000000000000000000000000000000000000000000000000000000000000000000000000000000000000000000000000000000000000000000000000000000000000000000000000000000000000000000000000000000000000000000000000000000000000000000000000000000000000000000000000000000000000000000000000000000000000000000000000000000000000000000100000000000000000000011f00000000000000004000001000000100000000000100000000000000070000000000000180010000014b524843 320
def routeTable (n : Nat) : List Byte := List.replicate n 0 ++ [1, 0]
def routeBody : List Byte := routeTable 40958
/-- The channel's descriptor: one line from another device's memory into the core's own scratchpad. -/
def askDesc : List Byte :=
  bytesOf (2 ^ 30 + 0x20 * 2 ^ 50 + 2 ^ 57) 8 ++ bytesOf (64 + 2 ^ 16) 8 ++
  bytesOf (255 * 2 ^ 22 + 64 + 2 ^ 48 + 0x20 * 2 ^ 50) 8 ++ bytesOf (64 + 2 ^ 16) 8
def asking (im : List Byte) : State :=
  let s := inFrame.setVariant 1 { image := im }
  ({ s with plan := { s.plan with active := some 1 } } : State).setCore 255 (spadWrite {} 0 askDesc)
def remoteSide : DmaSide := { base := 2 ^ 30, len := 64, count := 1, remote := true }

theorem routeTable_length (n : Nat) : (routeTable n).length = n + 2 := by simp [routeTable]

theorem routeTable_drop (n : Nat) : (routeTable n).drop n = [1, 0] := by
  unfold routeTable
  exact List.drop_left' (by simp)

theorem witness_channelRoute : channelRoute (routeHead ++ routeBody) 255 15 = some 1 := by
  have hd : deviceData (routeHead ++ routeBody) 0x30 = routeBody := by
    have hs : (sections (routeHead ++ routeBody)).find? (fun x => x.type = 0x30 ∧ x.core = 0xFFFF) =
        some { type := 0x30, core := 0xFFFF, flags := 0, off := 320, len := 40960 } := by decide +kernel
    have hl : routeHead.length = 320 := by decide +kernel
    have hb : routeBody.length = 40960 := routeTable_length 40958
    unfold deviceData sectionData
    rw [hs]
    show ((routeHead ++ routeBody).drop 320).take 40960 = routeBody
    rw [← hl, List.drop_left, ← hb, List.take_length]
  have hb : routeBody.length = 40960 := routeTable_length 40958
  have hv : leAt routeBody 40958 2 = 1 := by
    have : routeBody.drop 40958 = [1, 0] := routeTable_drop 40958
    unfold leAt
    rw [this]
    decide
  unfold channelRoute
  simp only [hd, hb, hv]
  decide

theorem asking_atIssue (im : List Byte) :
    (atIssue (asking im) onD).plan.active = some 1 ∧ (atIssue (asking im) onD).activeImage = im := by
  have hr : (asking im).advance ((asking im).issueTick onD) = asking im := by
    show (asking im).runTicks 0 = asking im
    rfl
  unfold atIssue
  rw [hr]
  have h : (asking im).activeImage = im := by
    show ((inFrame.setVariant 1 { image := im }).variant 1).image = im
    rw [State.variant_setVariant_same]
  unfold State.tel
  split
  · exact ⟨rfl, h⟩
  · exact ⟨rfl, h⟩

theorem witness_DmaChecksItsDescriptorAndTicks_remote :
    let s := asking (routeHead ++ routeBody)
    (s.canIssue onD = true ∧ (atIssue s onD).mutedAt (s.issueTick onD) = false ∧ spadBad ((atIssue s onD).core 255) 0 32 = false ∧
      ((atIssue s onD).core 255).sideOf (leAt (spadBytes ((atIssue s onD).core 255) 0 32) 0 8)
        (leAt (spadBytes ((atIssue s onD).core 255) 0 32) 8 8) = remoteSide ∧
      ((atIssue s onD).core 255).sideOf (leAt (spadBytes ((atIssue s onD).core 255) 0 32) 16 8)
        (leAt (spadBytes ((atIssue s onD).core 255) 0 32) 24 8) = spadSide 1 ∧
      ((atIssue s onD).core 255).channelBusy 15 (s.issueTick onD) = false ∧ ((atIssue s onD).core 255).keyBusy 15 (s.issueTick onD) = false ∧
      remoteSide.remote = true) ∧
    (atIssue s onD).dmaFault 255 15 remoteSide (spadSide 1) = none ∧ channelRoute (atIssue s onD).activeImage 255 15 = some 1 := by
  refine ⟨by decide +kernel, ?_, by rw [(asking_atIssue _).2]; exact witness_channelRoute⟩
  unfold State.dmaFault State.planSides
  rw [(asking_atIssue _).2, witness_channelRoute]
  decide +kernel

theorem witness_WalksAndArrivals :
    (let pt := reservedAt 0 + 0x80000000 + 2 ^ 47 + 2 ^ 48
     let p : Piece := { aPiece with mem := true, virt := some (pt, 5), walkAt := some 6 }
     let e := 1 + 2 ^ 30 + 1 * 2 ^ 48
     let s := pieceIn p (some (pt, 0, e))
     leastSome ((s.core 255).pieces.map (·.walkAt)) = some 6 ∧ ((s.advance 6).core 255).pieceAt (·.walkAt) 6 = some p ∧
       (s.advance 6).mutedAt 6 = false ∧ ptIndexOk pt 5 = true ∧
       (((s.advance 6).core 255).channel 9).kept = some (pt, 5 / 2 ^ 14, e) ∧ ptCheck pt 5 e false = .inl (2 ^ 30 + 5) ∧
       ptCheck pt 5 (e - 1) false = .inr 0x0F ∧ (s.advance 6).frame.phase = .inFrame ∧ (s.advance 6).frame.first = none) ∧
    (let p : Piece := { aPiece with dead := true, arriveAt := some 6 }
     let s := pieceIn p none
     leastSome ((s.core 255).pieces.map (·.arriveAt)) = some 6 ∧ ((s.advance 6).core 255).pieceAt (·.arriveAt) 6 = some p) ∧
    (let p : Piece := { aPiece with toMem := true, phys := some (2 ^ 30), arriveAt := some 6, dstCore := none }
     let s := pieceIn p none
     ((s.advance 6).core 255).pieceAt (·.arriveAt) 6 = some p ∧ (s.advance 6).mem.arrivals = [] ∧ (s.advance 6).mutedAt 6 = false ∧
       2 ^ 30 / dieBytes = (s.advance 6).dieOfCore 0 ∧ 1 ≤ (s.advance 6).rget MEM_BUDGET.STACK16 ∧ 1 ≤ (s.advance 6).rget MEM_BUDGET.PC64) := by
  refine ⟨?_, ?_, ?_⟩ <;> decide +kernel

theorem witness_DmaPieceLands :
    (let p : Piece := { aPiece with landAt := 8, performed := true, data := [1, 2] }
     let s := pieceIn p none
     leastSome ((s.core 255).pieces.map Piece.landing) = some 8 ∧ ((s.advance 8).core 255).pieceAt Piece.landing 8 = some p ∧
       (((s.advance 8).core 255).channel 9).bubble = false ∧
       (((s.advance 8).core 255).channel 9).landed + 1 = (((s.advance 8).core 255).channel 9).total) := by decide +kernel

theorem witness_TransportInstructions :
    (let s := inFrame.setCore 255 { credits := [(14, 1)], pendCredits := [(16 * 7 + 15, 250)] }
     (atIssue s onX).mutedAt (s.issueTick onX) = false ∧
       (atIssue s onX).sendFault ((atIssue s onX).core 255) 7 (((atIssue s onX).core 255).reg 0x20#7) 4 (s.issueTick onX) = none ∧
       ((atIssue s onX).core 255).sendBusy 7 ((atIssue s onX).frame.start + s.issueTick onX) = false ∧
       ((atIssue s onX).route 7).twin = false ∧
       streamFault (((atIssue s onX).core 255).reg 0x20#7) ((atIssue s onX).flitCap ((atIssue s onX).route 7).inPort) 4 = none ∧
       ((atIssue s onX).core 255).recvBusy 7 (s.issueTick onX) = false ∧
       Assoc.get 0 ((atIssue s onX).core 255).pendCredits (16 * 7 + 15) + 5 ≤ 255 ∧
       255 < Assoc.get 0 (s.core 255).pendCredits (16 * 7 + 15) + 6 ∧ s.issueTick onX = s.frame.now ∧ s.canIssue onX = true) ∧
    (let k : Core := { agenda := [(9, .creditTake 4 8 14)], credits := [(14, 1)] }
     k.agenda = [(9, .creditTake 4 8 14)] ∧ 0 < Assoc.get 0 k.credits 14 ∧ Assoc.get 0 k.credits 13 = 0) := by
  decide +kernel

/-- A SEND may issue in the tick of the last slot of the SEND before it (R81, R90). -/
theorem witness_TransportInstructions_lastSlot :
    (let last : SendSt := { issue := 0, line := 0, count := 1, sent := 0, done := 0, hold := false, slot := 0, last := 0 }
     let s := inFrame.setCore 255 { credits := [(14, 1)], sends := [(7, some last)] }
     s.canIssue onX = true ∧ ((atIssue s onX).core 255).sending 7 = some last ∧
       ((atIssue s onX).core 255).sendBusy 7 ((atIssue s onX).frame.start + s.issueTick onX) = false ∧
       (atIssue s onX).sendFault ((atIssue s onX).core 255) 7 (((atIssue s onX).core 255).reg 0x20#7) 4 (s.issueTick onX) = none) := by
  decide +kernel

def onePage : State :=
  let pt := reservedAt 0 + 0x80000000 + 2 ^ 47 + 7 * 2 ^ 48 + 4
  State.reset.setCtx 7 ((({} : Ctx).setField .state 1).setField .pt pt)
def hostCopy : HostCmd := { a0 := 2 ^ 40, a1 := 64 + 2 ^ 16, a2 := 2 ^ 30, a3 := 64 + 2 ^ 16, a4 := 1 }

theorem witness_MemoryControllerWorkAndTrackers :
    stackOf (64 * 64) = 1 ∧ 64 * 64 < installed ∧ State.reset.mem.scrubbed + 1 < installed / 64 ∧
    (let s : State := { State.reset with mem := { State.reset.mem with corrected := [(0, 15)] } }
     Assoc.get 0 s.mem.corrected (64 / 256) = 15) ∧
    (let s : State := { State.reset with mem := { State.reset.mem with badBursts := [2 ^ 20 + 1] } }
     s.mem.badBursts.contains (2 ^ 20 + 1) = true) := by decide +kernel

theorem witness_MemoryControllerWorkAndTrackers_also :
    (let s := State.reset.setTracker 136 63 { busy := true, depth := 4, last := 2 ^ 20, stride := 1 }
     nextAhead (s.tracker 136 63) = some (2 ^ 20 + 1) ∧ (s.rset0 MEM_PF_CFG.ENABLE 1).rget MEM_PF_CFG.ENABLE = 1 ∧
       (s.rset0 MEM_PF_CFG.ENABLE 0).rget MEM_PF_CFG.ENABLE = 0) ∧
    (let s : State := { State.reset with clk := { State.reset.clk with gst := 2 ^ 40 } }
     let s := s.setTracker 136 63 { busy := true }
     (s.tracker 136 63).busy = true ∧ (s.tracker 136 63).lastHit + 2 ^ s.rget MEM_PF_CFG.IDLE_LOG2 ≤ s.gst) ∧
    State.reset.gst < (State.reset.tracker 0 0).lastHit + 2 ^ State.reset.rget MEM_PF_CFG.IDLE_LOG2 := by decide +kernel

theorem witness_PageCommands :
    (plainCmd onePage { a0 := 7, a1 := 15 + 2 ^ 24 + 2 ^ 32, a2 := 2 ^ 20 } cmdPageMap ∧ onePage.commitOwns = false ∧
      (onePage.ctx 7).field .state = 1 ∧ onePage.unbindPending 7 = false ∧
      ptIndexOk ((onePage.ctx 7).field .pt) (15 * 2 ^ 14) = true ∧ (2 ^ 20 + 1) * 16384 ≤ installed ∧
      inReserved (2 ^ 20 * 16384) 16384 = false ∧ onePage.mem.badBursts = [] ∧ onePage.mem.sched = []) ∧
    plainCmd onePage { a0 := 7, a1 := 15 + 2 ^ 32 } cmdPageUnmap ∧
    (let s : State := { onePage with mem := { onePage.mem with cells := [(reservedAt 0 + 0x80000000, 3), (reservedAt 0 + 0x80000003, 64)],
                                                               tweaks := (List.range 256).map fun b => (65536 * 256 + b, ctxTweak 7) } }
     plainCmd s { a0 := 7, a1 := 0, a2 := 2 ^ 20 } cmdPageMove ∧ (s.ctx 7).field .state = 1 ∧ s.unbindPending 7 = false ∧
       ptIndexOk ((s.ctx 7).field .pt) 0 = true ∧ s.mem.badBursts = [] ∧ s.mem.sched = [] ∧
       s.tweakOf ((ptBase ((s.ctx 7).field .pt) + 8 * 0) / 64) = physTweak ∧
       bitAt (s.memNat (ptBase ((s.ctx 7).field .pt) + 8 * 0) 8) 0 = true ∧
       bitsOf (s.memNat (ptBase ((s.ctx 7).field .pt) + 8 * 0) 8) 14 34 = 65536 ∧
       (∀ b, b < 256 → s.tweakOf (256 * 65536 + b) = ctxTweak 7)) := by refine ⟨?_, ?_, ?_⟩ <;> decide +kernel

theorem witness_PageCommands_also :
    (let s := onePage.setCtx 7 ((onePage.ctx 7).setField .state 2)
     plainCmd s { a0 := 7, a1 := 15 + 2 ^ 32 } cmdPageUnmap ∧ s.commitOwns = false ∧ (s.ctx 7).field .state = 2 ∧
       s.unbindPending 7 = false ∧ 15 < 2 ^ ptLog2 ((s.ctx 7).field .pt)) := by decide +kernel

/-- A descriptor image that passes R180 for ID 7: repetition penalty 1.0 and a table in the first table pool. -/
def goodDesc : List Byte :=
  (List.range 16).flatMap fun k =>
    bytesOf (match k with
      | 1 => reservedAt 0 + 0x80000000 + 2 ^ 47 + 7 * 2 ^ 48 + 4
      | 2 => 5
      | 7 => 0x3F800000
      | _ => 0) 8
/-- A live context 7 of PF0. -/
def oneCtx : State := State.reset.setCtx 7 (newCtx 7 0 goodDesc [])
/-- Context 7 as a slot binds it. -/
def boundCtx : State := State.reset.setCtx 7 ((newCtx 7 0 goodDesc []).setField .state 2)
def oneJob : State := (State.reset.setFrame { State.reset.frame with phase := .inFrame }).setSel 15 { table := [100] }

theorem witness_ContextCommands :
    (plainCmd (mastered State.reset) { a0 := 7 + 255 * 2 ^ 16 } cmdCtxCreate ∧ State.reset.commitOwns = false ∧ (State.reset.ctx 7).field .state = 0 ∧
      (newCtx 7 255 goodDesc []).ok 7 = true ∧ badTopk goodDesc 0x40 = false) ∧
    (plainCmd (mastered oneCtx) { a0 := 7 } cmdCtxCreate ∧ (oneCtx.ctx (7 % 2 ^ 16)).field .state ≠ 0) ∧
    (plainCmd (mastered oneCtx) { a0 := 7 + 0x7FFE * 2 ^ 16 } cmdCtxSet ∧ oneCtx.trailBusy 7 = false ∧ oneCtx.unbindPending 7 = false ∧
      (oneCtx.ctx 7).field .state = 1 ∧ ((oneCtx.ctx 7).set 0x7FFE goodDesc false true).ok 7 = true ∧ badTopk goodDesc 0x7FFE = false) ∧
    (plainCmd (mastered boundCtx) { a0 := 7 + 0x0080 * 2 ^ 16 } { cmdCtxSet with inSet := true } ∧ (boundCtx.ctx 7).field .state = 2 ∧
      boundCtx.unbindPending 7 = false ∧ 0x0080 &&& 0x060C = 0 ∧ ((boundCtx.ctx 7).set 0x0080 goodDesc true true).ok 7 = true) ∧
    (plainCmd (mastered oneCtx) { a0 := 7 } cmdCtxDestroy ∧ plainCmd (mastered boundCtx) { a0 := 7 } cmdCtxDestroy) ∧
    (oneCtx.bivouac = false ∧ agentWrites .pf0 0x401000 = true ∧ (∀ k, k < 16 → (oneCtx.ctx 7).word k < 2 ^ 64)) ∧
    (∀ s : State, s = State.reset ∨ s = oneCtx ∨ s = boundCtx → (mastered s).srv = s.srv ∧ (mastered s).plan = s.plan) ∧
    (oneCtx.setFrame { oneCtx.frame with phase := .decided }).commitOwns = true := by
  refine ⟨?_, ?_, ?_, ?_, ?_, ?_, fun s _ => ⟨rfl, rfl⟩, ?_⟩ <;> decide +kernel

theorem witness_ServiceDmaCopies :
    (let h : HostCmd := { hostCopy with a3 := 64 + 2 * 2 ^ 16 }
     plainCmd State.reset h cmdDmaCopy ∧ copyBadArg h = false ∧ (State.reset.copyOf h).src.size ≠ (State.reset.copyOf h).dst.size) ∧
    (let h := hostCopy
     plainCmd State.reset h cmdDmaCopy ∧ State.reset.copyStatus h (State.reset.copyOf h) = (0, 0) ∧
       State.reset.gateShut (State.reset.sideRegions (State.reset.copyOf h).srcHost (State.reset.copyOf h).src ++
         State.reset.sideRegions (State.reset.copyOf h).dstHost (State.reset.copyOf h).dst) = false ∧
       State.reset.freeChannel = some 0 ∧ (State.reset.copyOf h).srcHost = true) ∧
    (let d : SvcDma := { busy := true, srcHost := true, src := { len := 64, count := 1 }, dst := { base := 2 ^ 30, len := 64, count := 1 },
                         data := List.replicate 64 7 }
     let s := State.reset.setSvcDma 31 d
     d = Assoc.get ({} : SvcDma) s.mem.svcDma 31 ∧ d.data.length = 64 ∧ 2 ^ 30 % 64 = 0 ∧ d.waiting = [] ∧ d.pkt = none ∧
       d.writing = false ∧ d.status = 0 ∧ d.moved = [] ∧ s.mem.sched = [] ∧ s.busMaster 0 = false ∧ (mastered s).busMaster 0 = true ∧
       (∀ r, r < 288 → s.rget FAB_GATE.STATE r = 0)) ∧
    (copyReadsCtx { a0 := 2 ^ 58 } = true ∧ (oneCtx.setFrame { oneCtx.frame with phase := .decided }).commitOwns = true) := by
  refine ⟨?_, ?_, ?_⟩ <;> decide +kernel

theorem witness_SelectionJobsAndCairnRecords :
    ((oneJob.selUnit 15).run = none ∧ (oneJob.selUnit 15).table[(oneJob.selUnit 15).next]? = some 100 ∧ oneJob.frame.phase = .inFrame) ∧
    (let s := oneJob.setSel 15 { table := [100], run := some { entry := 0, params := [1], bubble := false } }
     let j := jobOf 100
     (s.selUnit 15).job = some j ∧ ((s.advance (j.tick + j.ticks - 1)).selUnit 15).run = some { entry := 0, params := [1], bubble := false } ∧
       (s.advance (j.tick + j.ticks - 1)).mutedAt (j.tick + j.ticks - 1) = false) ∧
    (let k : CairnTok := { lane := 15, order := 0, ctx := 7, token := 1, pos := 0, steps := 1, seed := 0, frame := 0, config := 0, variant := 0,
                           digest := 0, weights := 0, decided := 1000 }
     let s : State := { State.reset with srv := { State.reset.srv with cairn := [k] }, clk := { State.reset.clk with gst := 1399 } }
     (s.srv.cairn.find? fun t => t.lane = 15) = some k ∧ k.decided + 400 * (k.order + 1) - 1 ≤ s.gst ∧ s.frame.deferred = [] ∧
       s.srv.trailSelWait = false ∧ s.trailBusy 7 = true ∧ s.trailBusy 8 = false ∧
       (∀ k ∈ s.srv.cairn, k.lane = 14 → s.gst < k.decided + 400 * (k.order + 1) - 1)) ∧
    (plainCmd (mastered State.reset) { a0 := 2 ^ 16, a1 := 65535, a2 := 65536 } cmdCairnRead ∧ State.reset.bivouac = false ∧
      agentWrites (.vf 1) 0x800100 = true ∧ (State.reset.ctx 7).trail < 2 ^ 256) := by
  refine ⟨?_, ?_, ?_, ?_⟩ <;> decide +kernel

def portAt (state : Nat) (x : Port) : State := (State.reset.setPort 17 x).rset KL_PORT_STATUS.STATE 17 state
def nullFlit (hdr : Nat) : List Byte :=
  let body := bytesOf hdr 12 ++ List.replicate 240 0
  body ++ bytesOf (crc32c body) 4

/-- An image with a flag word and the route entries of a table, as the fields that the machine reads of it. -/
def routeImage (flags : Nat) (entries : List Nat) : List Byte :=
  bytesOf (flags * 2 ^ 192 + 2 ^ 368 + 64 * 2 ^ 448) 64 ++
    bytesOf (0x30 + 0xFFFF * 2 ^ 16 + 88 * 2 ^ 64 + 8 * entries.length * 2 ^ 128) 24 ++ entries.flatMap (bytesOf · 8)
/-- A route word: kind, input port, output port, next entry, positions. -/
def routeWord (kind inPort outPort next mask : Nat) : Nat := kind + inPort * 2 ^ 3 + outPort * 2 ^ 8 + next * 2 ^ 21 + mask * 2 ^ 33
/-- Port 17 in a state, under an active plan with a route table. -/
def routed (flags : Nat) (entries : List Nat) (state : Nat) (x : Port) : State :=
  let s := (portAt state x).setVariant 1 { image := routeImage flags entries }
  ({ s with plan := { s.plan with active := some 1 } } : State).rset KL_PORT_STATUS.SCHED 17 1
/-- Sixteen codewords' markers of logical lane 3 at offset 0 of a lane's bits. -/
def lane3Bits : Nat := ((List.range 16).map fun i => 0x2B4 * 2 ^ (1360 * i)).sum
/-- A port whose lanes 0 to 2 hold lock. -/
def threeLocked : Port := { locked := 7, logical := [(1, 1), (2, 2)] }

theorem witness_PortsComeUpAndGoDown :
    (markerSpan (Nat.max 1 (laneCount ((portAt 1 {}).port 17).lanes)) = 1360 ∧ markerLock lane3Bits 20409 1360 = none ∧
      markerLock lane3Bits 20410 1360 = some (3, false) ∧
      (portAt 1 threeLocked).rget KL_PORT_STATUS.STATE 17 = 1 ∧ (threeLocked.lockLane 3 3 false 64000).allLocked 15 = true ∧
      (portAt 2 threeLocked).rget KL_PORT_STATUS.STATE 17 = 2 ∧ (threeLocked.lockLane 3 3 false 64000).skew ≤ 64000 ∧
      64000 < (threeLocked.lockLane 3 3 false 64001).skew ∧ (threeLocked.lockLane 3 3 false 64001).linkCmd = none) ∧
    (let x : Port := { locked := 15, logical := [(1, 1), (2, 2), (3, 3)], lanes := 15, block := true }
     (portAt 7 x).rget KL_PORT_STATUS.STATE 17 = 7 ∧ (portAt 7 x).frame.phase ≠ .inFrame ∧ ((portAt 7 x).port 17).locked.testBit 3 = true ∧
       ((portAt 7 x).port 17).block = true ∧ failsIn (List.replicate 48 true ++ List.replicate 16 false) 64 16 = true ∧
       failsIn (List.replicate 48 true ++ List.replicate 15 false) 64 16 = false ∧
       mismatchRun (((portAt 7 x).port 17).markerOn 3) 4 [0, 0, 0, 0] = true ∧
       mismatchRun (((portAt 7 x).port 17).markerOn 3) 4 [0, 0, 0, 0x2B4] = false ∧
       ((portAt 7 x).port 17).lanes.testBit (Assoc.get 0 ((portAt 7 x).port 17).logical 3) = true ∧
       widestIn ((portAt 1 x).port 17).allowed (((portAt 1 x).port 17).lockedSet &&& (15 - ((portAt 1 x).port 17).dropped)) ≠ 0 ∧
       (portAt 1 x).rget KL_PORT_STATUS.STATE 17 = 1) ∧
    ((portAt 3 {}).rget KL_PORT_STATUS.STATE 17 = 3 ∧ blockLock ((List.range 64).map fun i => 2 ^ (66 * i)).sum 4160 = true ∧
      blockLock ((List.range 63).map fun i => 2 ^ (66 * i)).sum 4160 = false ∧ (portAt 4 {}).rget KL_PORT_STATUS.STATE 17 = 4) ∧
    (let t2 : Ts2 := { dev := 16383, devValid := true, port := 17, lanes := 15, rate := 0, enc := false, rxNext := 0, ack := 0 }
     let x : Port := { ts2 := some t2, ts2Count := 7 }
     (portAt 5 x).rget KL_PORT_STATUS.STATE 17 = 5 ∧ ((portAt 5 x).port 17).ts2 = some t2 ∧ ((portAt 5 x).port 17).ts2Count = 7 ∧
       widestIn ((portAt 5 x).port 17).allowed (((portAt 5 x).port 17).lanes &&& t2.lanes) = 15 ∧ bitsOf ((portAt 5 x).port 17).ctrl 2 1 = 0 ∧
       bitsOf ((portAt 5 x).port 17).ctrl 5 1 = t2.rate ∧ ((portAt 5 {}).port 17).ts2 ≠ some t2) ∧
    ((portAt 6 { echoes := 255, rttMax := 1023 }).rget KL_PORT_STATUS.STATE 17 = 6 ∧ ((portAt 6 { echoes := 255 }).port 17).echoes = 255 ∧
      ((portAt 6 { echoes := 255 }).port 17).linkCmd = none) ∧
    ((portAt 0 {}).rget KL_PORT_STATUS.STATE 17 = 0 ∧ (portAt 0 {}).rget KL_PORT_CTRL.ENABLE 17 = 1 ∧ ((portAt 0 {}).port 17).linkCmd = none ∧
      (portAt 8 {}).clk.wall < ((portAt 8 {}).port 17).downAt + (portAt 8 {}).graceEdges 17 ∧
      (let s : State := { portAt 8 {} with clk := { (portAt 8 {}).clk with wall := 2 ^ 40 } }
       s.rget KL_PORT_STATUS.STATE 17 = 8 ∧ (s.port 17).downAt + s.graceEdges 17 ≤ s.clk.wall ∧ s.planUses 17 = false ∧
         (s.port 17).unacked = [] ∧ (s.port 17).sending = none ∧ (s.port 17).queue = [])) ∧
    (plainCmd (portAt 7 {}) { a0 := 18 } cmdLinkReset ∧ plainCmd (portAt 7 {}) { a0 := 17 } cmdLinkReset ∧ (portAt 7 {}).running = false ∧
      ((portAt 7 {}).port 17).linkCmd = none ∧ (portAt 7 {}).rget KL_PORT_CTRL.ENABLE 17 = 1 ∧
      (let s := (routed 0 [routeWord 1 31 17 0 1] 7 {}).rset0 PLAN_FRAME_CTRL.RUN 1
       plainCmd s { a0 := 17 } cmdLinkReset ∧ s.running = true ∧ s.planUses 17 = true)) ∧
    ((portAt 9 {}).bivouac = false ∧ agentWrites .pf0 (0x300008 + 0x1000 * 17) = true ∧ (portAt 9 {}).rget KL_PORT_STATUS.STATE 17 = 9 ∧
      (portAt 7 {}).rget KL_PORT_STATUS.STATE 17 ≠ 9) := by
  refine ⟨?_, ?_, ?_, ?_, ?_, ?_, ?_, ?_⟩ <;> decide +kernel

def twoFlits : Packet := { src := 0, dest := 1, kind := 2, vc := 2, status := 0, tag := 0, len := 256, addr := 0, data := List.replicate 256 0 }

theorem witness_FlitsAreSentReceivedAndReplayed :
    (let s := routed 0 [routeWord 1 31 17 1 1] 7 {}
     s.portUp 17 = true ∧ (s.port 17).slotTick = 0 ∧ 0 ≤ s.gst ∧ s.slotInFrame 0 = false ∧ s.ringMode = false ∧
       s.rget KL_PORT_STATUS.SPILLING 17 = 0 ∧ s.frame.verdicts = [] ∧ s.slotOwner 17 (0 / 4 % 16) = some (0, routeOf (routeWord 1 31 17 1 1)) ∧
       s.failSafe = false ∧ s.frame.holdAfterStop = false ∧ (s.rset0 RGR_STATUS.MODE 1).failSafe = true ∧
       (s.rset0 RGR_STATUS.MODE 1).slotOwner 17 0 = some (0, routeOf (routeWord 1 31 17 1 1)) ∧ (s.ownedMask 17).testBit (0 / 4 % 16) = true) ∧
    (let s := portAt 7 { sending := some (twoFlits, packetFlits twoFlits 240 - 1) }
     s.portUp 17 = true ∧ (s.port 17).slotTick ≤ s.gst ∧ s.slotInFrame 0 = false ∧ s.slotOwner 17 0 = none ∧ (s.port 17).resend = [] ∧
       s.flitCap 17 = 240 ∧ 1 < packetFlits twoFlits (s.flitCap 17) ∧ s.replayFull 17 = false ∧ s.ownedMask 17 = 0 ∧
       ((portAt 7 {}).port 17).sending = none ∧ ((portAt 7 {}).port 17).queue = []) ∧
    (let s := (routed 2 [routeWord 1 31 17 0 1] 7 { slotTick := 4 })
     let s := s.setFrame { s.frame with phase := .inFrame, len := 100 }
     s.ringMode = true ∧ s.slotInFrame (s.port 17).ringTick = true ∧ (s.port 17).ringTick ≤ s.gst ∧ s.gst < (s.port 17).slotTick ∧
       s.frame.now = (s.port 17).ringTick - s.frame.start ∧ 4 * ceilDiv s.frame.start 4 ≤ (s.port 17).ringTick ∧
       ((((List.range (routeCount s.activeImage)).map fun r => (r, routeEntry s.activeImage r)).find? fun e =>
          decide (e.2.kind = 1) && decide (e.2.outPort = 17) && e.2.posMask.testBit ((s.port 17).ringTick / 4 % 16)) =
            some (0, routeOf (routeWord 1 31 17 0 1))) ∧
       s.failSafe = false ∧ s.frame.holdAfterStop = false ∧ (s.core 0).sends = []) := by
  refine ⟨?_, ?_, ?_⟩ <;> decide +kernel

theorem witness_FlitsAreSentReceivedAndReplayed_received :
    (let raw := nullFlit (3 + 2 ^ 77)
     let s := portAt 7 {}
     raw.length = 256 ∧ bitsOf (leAt raw 0 12) 0 8 = 3 ∧ bitsOf (leAt raw 0 12) 77 1 = 1 ∧ bitsOf (leAt raw 0 12) 78 1 = 0 ∧
       bitsOf (leAt raw 0 12) 56 4 = 0 ∧ bitsOf (leAt raw 0 12) 8 16 = s.rget KL_SEQ.RX_NEXT 17 ∧ s.portUp 17 = true ∧ s.frame.phase ≠ .inFrame ∧
       s.rget KL_PORT_STATUS.ENC 17 = 0 ∧ (s.port 17).seen = [] ∧ (s.port 17).svcHeld = [] ∧
       ((portAt 7 { seen := [0] }).port 17).seen = [bitsOf (leAt raw 0 12) 8 16]) ∧
    (let raw := nullFlit (3 + 2 ^ 77)
     crc32c (raw.take 252) = leAt raw 252 4 ∧ crc32c ((0 :: raw).take 252) ≠ leAt (0 :: raw) 252 4) ∧
    (let n : NakSt := { seq := 65535, due := none, last := 0, count := 15 }
     let s := portAt 7 { naks := [n] }
     ((s.port 17).naks.find? fun n => decide (n.seq = 65535) && n.due.isNone) = some n ∧ s.gst < n.last + s.rget KL_PORT_DELAY.RTT 17 + 272 ∧
       (let s : State := { s with clk := { s.clk with gst := 272 } }
        n.last + s.rget KL_PORT_DELAY.RTT 17 + 272 ≤ s.gst ∧ s.rget KL_PORT_STATUS.STATE 17 = 7)) := by
  refine ⟨?_, ?_, ?_⟩ <;> decide +kernel

theorem witness_FlitsAreSentReceivedAndReplayed_released :
    (let f : HeldFlit := { route := 0, hold := true, sendTick := 0, due := 0, cpool := 0, cn := 0, payload := [] }
     let g : HeldFlit := { f with hold := false, due := 8 }
     ((portAt 7 { held := [f] }).port 17).nextRelease = some f ∧ (portAt 7 {}).frame.phase ≠ .inFrame ∧
       ((portAt 7 { held := [g] }).port 17).nextRelease = some g ∧ (portAt 7 { held := [g] }).gst < g.due ∧
       (let s := routed 0 [routeWord 2 17 5 1 1] 7 { held := [g] }
        let s : State := { s with clk := { s.clk with gst := 8 } }
        let s := s.setFrame { s.frame with phase := .inFrame, len := 100, now := 8 }
        (s.port 17).nextRelease = some g ∧ g.due ≤ s.gst ∧ s.slotInFrame g.due = true ∧ s.frame.now = g.due - s.frame.start ∧
          (s.route g.route).kind = 2 ∧ (s.route g.route).sinks = false ∧ s.ringMode = false ∧ g.due ≤ g.sendTick + s.hopBudget 17 + 8 ∧
          (s.route g.route).outPort = 5 ∧ (s.port 5).forwards = [] ∧ (s.route 0).inPort = 17 ∧ (s.route 0).twin = false ∧
          Nat.min s.frameLen s.ftick = s.frame.now ∧ s.frame.now = s.gst - s.frame.start ∧ s.frame.abortTick = none ∧
          s.frame.fromStart = false ∧ s.frame.first = none)) ∧
    ((let s := (portAt 9 { replay := [(5, [3])] }).rset KL_PORT_CTRL.SPILL 17 1
      s.maySpill 17 = true ∧ (s.port 17).replay = [(5, [3])] ∧ (s.port 17).spilled = [] ∧ s.mem.badBursts = []) ∧
     (let s := (portAt 9 {}).rset KL_PORT_CTRL.SPILL 17 1; s.maySpill 17 = true ∧ (s.port 17).replay = []) ∧
     (let s := (portAt 7 { txCount := 2 ^ 39 }).rset KL_PORT_STATUS.ENC 17 1
      s.rget KL_PORT_STATUS.ENC 17 = 1 ∧ 2 ^ 39 ≤ (s.port 17).txCount ∧ ((portAt 7 { txCount := 2 ^ 39 - 1 }).port 17).txCount < 2 ^ 39)) := by
  refine ⟨?_, ?_⟩ <;> decide +kernel

theorem witness_GuylineRingMessages :
    (State.reset.rget GL_STATUS.LOCK = 0 ∧ ringLock (0x17C * (1 + 2 ^ 10 + 2 ^ 20 + 2 ^ 30)) 37 = true ∧
      ringLock (0x17C * (1 + 2 ^ 10 + 2 ^ 20 + 2 ^ 30)) 36 = false ∧ (State.reset.rset0 GL_STATUS.LOCK 1).rget GL_STATUS.LOCK = 1 ∧
      failsIn (([.good, .invalid, .disparity, .invalid, .invalid] : List GlChar).map fun c => decide (c = .good)) 16 4 = true ∧
      failsIn (([.good, .invalid, .disparity, .invalid] : List GlChar).map fun c => decide (c = .good)) 16 4 = false ∧
      State.reset.rget GL_STATUS.BYPASS = 1 ∧ State.reset.bypassHeld = true ∧
      (let s : State := { State.reset with rgr := { State.reset.rgr with sysRst := false } }; (s.rset0 GL_STATUS.LOCK 1).bypassHeld = false)) ∧
    (let s := State.reset.rset0 GL_STATUS.BYPASS 0
     let s : State := { s with clk := { s.clk with gst := 1000 } }
     let m : GlMsg := { hops := 63, src := 9, stamp := 980, acc := 48 }
     s.rget GL_STATUS.BYPASS = 0 ∧ s.onRing = true ∧ s.gst = 1000 ∧ m.src ≠ s.ownId ∧ m.crcOk = true ∧ m.known = true ∧ m.stamp + 17 < s.gst ∧
       16 * m.stamp + m.acc + s.rget GL_STATUS.SEG_DELAY + 272 = 16 * s.gst ∧ 256 < 272 ∧
       s.rget PWR_WAKE_CFG.REMOTE_EN = 1 ∧ s.rget PWR_STATE.DSTATE = 0 ∧ s.rget PWR_STATE.MOVING = 0 ∧
       ({ hops := 63, src := 9, val := s.ownId } : GlMsg).val = s.ownId ∧ s.gl.sent = false ∧ s.gl.corrSeen = false ∧ s.gl.corrAt ≤ s.clk.wall ∧
       s.rget GL_STATUS.POSITION = 0 ∧ s.bivouac = false ∧ (2 ^ 31 + 5).testBit 31 = true ∧
       ((s.rset KL_PORT_STATUS.STATE 17 7).portUp 17 = true ∧ 9 > s.ownId) ∧
       ({ hops := 63, src := s.ownId, stamp := 1000 } : GlMsg).src = s.ownId ∧ ({ hops := 0, src := 9, crcOk := false } : GlMsg).crcOk = false ∧
       ({ hops := 0, src := 9, known := false } : GlMsg).known = false) ∧
    (let s := (State.reset.rset0 GL_STATUS.BYPASS 0).rset0 IDENT_DOMAIN.DEVICE_ID 10
     s.rget GL_STATUS.BYPASS = 0 ∧ 9 < s.ownId ∧ s.gl.ring = [] ∧ s.gl.ringNow = []) ∧
    (let s := State.reset.rset0 GL_STATUS.BYPASS 0
     s.onRing = true ∧ s.gl.own = [] ∧ s.gl.insertion = [] ∧ s.gl.freeAt ≤ s.gst ∧
       (let s : State := { s with gl := { s.gl with freeAt := 9, insertion := [(8, 100)] } }
        s.gst < s.gl.freeAt ∧ (∀ e ∈ s.gl.insertion, s.gst < e.1) ∧ (s.gl.insertion.map (·.2)).sum + 28 ≤ 128 ∧
          128 < (s.gl.insertion.map (·.2)).sum + 29) ∧
       (let s : State := { s with gl := { s.gl with corrAt := 1 } }; s.clk.wall < s.gl.corrAt) ∧
       (let s : State := { s.rset0 GL_STATUS.RING_OK 1 with gl := { s.gl with sent := true } }; s.gl.sent = true ∧ s.rget GL_STATUS.RING_OK = 1)) ∧
    (State.reset.rset0 CLK_STATUS.LOCKED 1).rget CLK_STATUS.LOCKED = 1 := by
  refine ⟨?_, ?_, ?_, ?_, ?_⟩ <;> decide +kernel

def aRead : Packet := { src := 1, dest := 0, kind := 1, vc := 3, status := 0, tag := 5, len := 64, addr := 2 ^ 30, data := List.replicate 64 7 }

/-- Responses of 32 flits wait to leave this device. -/
def responsesWait : State :=
  let k : Packet := { src := 0, dest := 1, kind := 3, vc := 2, status := 0, tag := 0, len := 0, addr := 0, data := [] }
  { State.reset with fab := { State.reset.fab with staging := List.replicate 32 { pkt := k, escape := false, inPort := 31, since := 0 } } }

theorem witness_ServicePacketsAreServed :
    (inPortOk 17 = true ∧ inPortOk 31 = true ∧ aRead.vc = 3 ∧ aRead.dest = State.reset.ownId ∧ aRead.sampled = false ∧ aRead.addr % 64 = 0 ∧
      aRead.addr + 64 ≤ installed ∧ inReserved aRead.addr 64 = false ∧ (∀ r, r < 288 → State.reset.rget FAB_GATE.STATE r = 0) ∧
      ({ State.reset with mem := { State.reset.mem with tweaks := [(aRead.addr / 64, physTweak)] } } : State).tweakOf (aRead.addr / 64) = physTweak ∧
      State.reset.mem.badBursts = [] ∧ State.reset.mem.sched = [] ∧ State.reset.responseSpace ≤ 31 ∧ aRead.data.length = 64) ∧
    (installed < 2 ^ 47 + 64 ∧ inReserved (reservedAt 0) 64 = true ∧
      State.reset.responseSpace + responseFlits { aRead with kind := 1 } ≤ 32 ∧ 32 < responsesWait.responseSpace + responseFlits { aRead with kind := 1 } ∧
      32 < responsesWait.responseSpace + responseFlits { aRead with kind := 2 }) ∧
    (let k : Packet := { aRead with addr := 2 * 2 ^ 48 + 0x20, len := 4, data := [1, 2, 3, 4] }
     k.len = 4 ∧ k.data.length = 4 ∧ State.reset.rget FAB_GATE.STATE 143 = 0) ∧
    (let s := State.reset.rset FAB_GATE.STATE 143 2
     s.rget FAB_GATE.STATE 143 = 2 ∧ s.responseSpace ≤ 31 ∧ (s.rset FAB_GATE.WAKE 143 1).gateWakes 143 = true ∧
       (s.rset FAB_GATE.WAKE 143 0).gateWakes 143 = false ∧ (s.region 143).porch = []) ∧
    (let s : State := { State.reset with fab := { State.reset.fab with requests := [(5, 1)] } }
     Assoc.get 0 s.fab.requests aRead.tag = 1 ∧ s.rget TEL_STATUS.PUSH_FAIL < 255 ∧ s.fab.hostStage = [] ∧ s.busMaster 0 = false ∧
       (mastered s).busMaster 0 = true) ∧
    (State.reset.bivouac = false ∧ agentWrites .pf0 0x380000 = true ∧ agentWrites .pf0 0x900010 = true ∧ (2 ^ 31 + 16383).testBit 31 = true ∧
      State.reset.running = false ∧ (∀ p, p < 18 → State.reset.rget KL_PORT_STATUS.STATE p ≠ 7) ∧
      (State.reset.rset0 PLAN_FRAME_CTRL.RUN 1).running = true) := by
  refine ⟨?_, ?_, ?_, ?_, ?_, ?_⟩ <;> decide +kernel

theorem witness_ServicePacketsAreServed_stagingFull :
    2 ^ 22 < (State.reset.fab.hostStage.map fun e => e.2.length).sum + (List.replicate (2 ^ 22 + 1) (0 : Byte)).length := by
  rw [List.length_replicate]
  decide +kernel

/-- A packet for device 1 that waits at port 5 of a device of a row of four. -/
def hopping (x : QPkt) : State :=
  (({ State.reset with fab := { State.reset.fab with dims := (4, 1, 1) } } : State).setPort 5 { inbuf := [x] })
def aHop : QPkt := { pkt := { aRead with dest := 1 }, escape := false, inPort := 5, since := 0 }
def aCopy : Packet := { aRead with kind := 6, bcast := true, tree := 15, addr := 2 ^ 47 }
/-- Tree 15 has parent port 5 and child port 17. -/
def inTree : State :=
  (((State.reset.rset FAB_TREE.ENABLE 15 1).rset FAB_TREE.PARENT 15 5).rset FAB_TREE.CHILDREN 15 (2 ^ 17)).rset KL_PORT_STATUS.STATE 17 7
def copying : State :=
  let s := inTree.setPort 5 { inbuf := [{ pkt := aCopy, escape := false, inPort := 5, since := 0 }] }
  { s with fab := { s.fab with trees := [{ tag := 5, tree := 15, parent := 5, waiting := [17], status := 0 }] } }

theorem witness_TreesHopsAndGates :
    (inTree.treeAccepts 5 aCopy = true ∧ inTree.treeAccepts 4 aCopy = false ∧ inTree.childrenOf 15 = [17] ∧ inTree.childAlive 17 = true ∧
      inTree.fab.trees = [] ∧ aCopy.vc = 3 ∧ aCopy.sampled = false ∧ aCopy.addr < 2 ^ 48 ∧ installed < aCopy.addr + aCopy.len ∧
      inTree.bufferFlits 5 3 false + inTree.flitsOn 5 { aCopy with kind := 6 } ≤ 32) ∧
    (let q : QPkt := { pkt := aCopy, escape := false, inPort := 5, since := 0 }
     copying.headsOf 5 3 = [q] ∧ q.pkt.bcast = true ∧ copying.copyPorts q.pkt = [17] ∧ copying.portUp 17 = true ∧
       fitsBeyond [(17, 32, 32)] 17 (copying.flitsOn 17 q.pkt) false = true ∧ fitsBeyond [] 17 (copying.flitsOn 17 q.pkt) false = false) ∧
    (let k : Packet := { aCopy with kind := 7, vc := 2, dest := copying.ownId }
     k.vc = 2 ∧ k.dest = copying.ownId ∧ k.sampled = false ∧
       copying.fab.trees = [{ tag := k.tag, tree := k.tree, parent := 5, waiting := [17], status := 0 }]) ∧
    (let s := hopping aHop
     s.headsOf 5 3 = [aHop] ∧ aHop.pkt.dest ≠ s.ownId ∧ aHop.pkt.bcast = false ∧ s.hopOf aHop [(2, 32, 32)] = none ∧
       (s.rset KL_PORT_STATUS.STATE 2 7).hopOf aHop [(2, 32, 32)] = some (2, false) ∧
       (s.rset KL_PORT_STATUS.STATE 2 7).hopOf aHop [(2, 0, 32)] = some (2, true) ∧
       (s.rset KL_PORT_STATUS.STATE 2 7).leastQueued aHop.pkt.vc ((s.rset KL_PORT_STATUS.STATE 2 7).adaptivePorts aHop) = some 2 ∧
       fitsBeyond [(2, 32, 32)] 2 ((s.rset KL_PORT_STATUS.STATE 2 7).flitsOn 2 aHop.pkt) false = true ∧
       fitsBeyond [(2, 0, 32)] 2 ((s.rset KL_PORT_STATUS.STATE 2 7).flitsOn 2 aHop.pkt) false = false ∧
       (s.rset KL_PORT_STATUS.STATE 2 7).leastQueued aHop.pkt.vc ((s.rset KL_PORT_STATUS.STATE 2 7).escapePorts aHop) = some 2) ∧
    (let s := hopping aHop
     (s.allPorts aHop).filter s.portUp = [] ∧ s.clk.wall < s.stuckSince aHop + s.packetGrace 5 aHop.pkt ∧
       (let s : State := { s with clk := { s.clk with wall := 2 ^ 40 } }; s.stuckSince aHop + s.packetGrace 5 aHop.pkt ≤ s.clk.wall)) ∧
    ((State.reset.rset FAB_GATE.STATE 287 1).rget FAB_GATE.STATE 287 = 1 ∧ (State.reset.rset FAB_GATE.STATE 287 1).openAccesses 287 = 0 ∧
      (State.reset.region 287).porch = [] ∧
      (State.reset.rset FAB_GATE.STATE 287 3).rget FAB_GATE.STATE 287 = 3 ∧ (State.reset.region 287).target < 8) := by
  refine ⟨?_, ?_, ?_, ?_, ?_, ?_⟩ <;> decide +kernel

/-- A member device 0 of a domain of devices 0 and 1. -/
def member : State :=
  let s := State.reset.rset0 ROLL_STATUS.STATE 0
  { s with roll := { s.roll with members := 3 } }
def aChange : RcEntry := { dev := 1, cause := 1 }

theorem witness_SuspicionsReachTheCoordinator :
    (member.isMember = true ∧ member.roll.members.testBit 1 = true ∧ 1 ≠ member.ownId ∧ member.roll.accepted = none ∧
      member.rget ROLL_EPOCH.EPOCH = 0 ∧ member.portUp 17 = false ∧ member.coordinator = member.ownId ∧ member.silent 1 = false ∧
      member.roll.heartAt ≤ member.clk.wall) ∧
    (let s : State := { member with clk := { member.clk with wall := 2 ^ 40 }, fab := { member.fab with dims := (2, 1, 1) } }; s.silent 1 = true) ∧
    (let s : State := { member with roll := { member.roll with heartAt := 1 } }; s.clk.wall < s.roll.heartAt) ∧
    (let m : RcMsg := { sender := 1, epoch := 0, entries := [aChange] }
     m.ring = none ∧ m.epoch = member.rget ROLL_EPOCH.EPOCH ∧ member.roll.members.testBit m.sender = true ∧ member.roll.members.testBit 2 = false) ∧
    (let s := member.rset0 IDENT_DOMAIN.DEVICE_ID 1
     s.isMember = true ∧ s.coordinator ≠ s.ownId ∧ (s.rset0 ROLL_STATUS.STATE 3).isMember = false ∧ (s.rset0 ROLL_STATUS.STATE 3).roll.members ≠ 0) ∧
    ((let s : State := { member with roll := { member.roll with collecting := true }, clk := { member.clk with wall := 2 ^ 40 } }
      s.changeOf = [] ∧ s.roll.collectAt + usEdges (s.rget ROLL_CFG.COLLECT_US) ≤ s.clk.wall ∧ s.roll.proposal = none) ∧
     (let s : State := { member with roll := { member.roll with collecting := true, suspects := [(0, { dev := 1, cause := 2 })] } }; s.changeOf ≠ []) ∧
     member.clk.wall < member.roll.collectAt + usEdges (member.rget ROLL_CFG.COLLECT_US) ∧ member.roll.collecting = false) ∧
    (State.reset.bivouac = false ∧ agentWrites (.remote 1) 0x600020 = true ∧ State.reset.coordinator = State.reset.ownId ∧ State.reset.rget ROLL_STATUS.STATE = 3 ∧
      (State.reset.rset KL_PORT_STATUS.STATE 17 7).portUp 17 = true ∧ State.reset.portUp 17 = false ∧
      (let s : State := { State.reset with fab := { State.reset.fab with dims := (1, 1, 1) } }
       s.inDims s.ownId = true ∧ (s.rset0 IDENT_DOMAIN.DEVICE_ID 1).inDims 1 = false)) := by
  refine ⟨?_, ?_, ?_, ?_, ?_, ⟨?_, ?_, ?_, ?_⟩, ?_⟩ <;> decide +kernel

theorem witness_RollCallAgrees :
    (let m : RcMsg := { sender := 1, coord := 1, epoch := 1, round := 255, reason := 256, entries := [], digest := memberDigest (applyMembers 3 []) }
     m.ring = none ∧ member.rget ROLL_STATUS.STATE ≠ 3 ∧ member.roll.flooded.contains (m.epoch, m.round, 2, 0) = false ∧ member.roll.parts = [] ∧
       m.reason = 256 ∧ member.roll.accepted = none ∧ m.coord ≠ member.ownId ∧ m.epoch = member.rget ROLL_EPOCH.EPOCH + 1 ∧
       m.digest = memberDigest (applyMembers member.roll.members m.entries) ∧
       (let s : State := { member with roll := { member.roll with flooded := [(1, 255, 2, 0)] } }
        s.roll.flooded.contains (m.epoch, m.round, 2, m.reason % 256) = true) ∧ 1 ≤ (member.rset0 ROLL_EPOCH.EPOCH 1).rget ROLL_EPOCH.EPOCH) ∧
    (let p : Proposal := { round := 1, epoch := 1, entries := [], members := 3, digest := 5, accepts := [(0, 0)] }
     let s : State := { member with roll := { member.roll with proposal := some p } }
     s.roll.proposal = some p ∧ p.members.testBit 1 = true ∧ (p.accepts.any fun e => decide (e.1 = 1)) = false ∧
       ({ p with accepts := p.accepts ++ [(1, 7)] } : Proposal).complete = true ∧ member.rget ROLL_EPOCH.EPOCH < p.epoch ∧
       p.members.testBit member.ownId = true ∧ ({ p with members := 7, accepts := [(0, 0), (1, 7)] } : Proposal).complete = false ∧
       p.refused.contains 1 = false ∧ ({ p with refused := [1] } : Proposal).refused.contains 1 = true) ∧
    (let p : Proposal := { round := 1, epoch := 1, entries := [aChange], members := 1, digest := 5 }
     let m : RcMsg := { sender := 1, epoch := 1, digest := 5 }
     let s : State := { member with roll := { member.roll with accepted := some p } }
     m.ring = none ∧ s.roll.flooded.contains (m.epoch, m.round, 5, 0) = false ∧ s.rget ROLL_EPOCH.EPOCH < m.epoch ∧ s.roll.accepted = some p ∧
       p.epoch = m.epoch ∧ p.digest = m.digest ∧ p.members.testBit s.ownId = true ∧ (2 : Nat).testBit s.ownId = false ∧ s.isMember = true ∧
       s.roll.proposal = none ∧ (member.rset0 ROLL_EPOCH.EPOCH 2).rget ROLL_EPOCH.EPOCH = 2 ∧ (3 : Nat).testBit member.ownId = true) ∧
    (let p : Proposal := { round := 1, epoch := 1, entries := [], members := 3, digest := 5 }
     let s : State := { member with roll := { member.roll with proposal := some p } }
     s.clk.wall < s.roll.proposedAt + usEdges (s.rget ROLL_CFG.ACK_US) ∧ s.roll.proposal.isSome = true ∧
       (let s : State := { s with clk := { s.clk with wall := 2 ^ 40 } }; s.roll.proposedAt + usEdges (s.rget ROLL_CFG.ACK_US) ≤ s.clk.wall)) ∧
    ((member.rset0 ROLL_STATUS.AGREEING 1).rget ROLL_STATUS.AGREEING = 1 ∧ (Assoc.get ({} : SvcDma) State.reset.mem.svcDma 31).requester = none ∧
      (let s := State.reset.setSvcDma 31 { busy := true, requester := some 1 }; (Assoc.get ({} : SvcDma) s.mem.svcDma 31).requester.isSome = true) ∧
      State.reset.rgr.running = true ∧ 7 ∉ State.reset.host.cpExpired ∧
      (let s : State := { State.reset with rgr := { State.reset.rgr with running := false } }; s.rgr.running = false)) := by
  refine ⟨?_, ?_, ?_, ?_, ?_⟩ <;> decide +kernel

/-- Queue 65535 enabled with 16 entries, one command in flight, one reply held, and bus mastering on. -/
def hostWork : State :=
  let s := (State.reset.rset HOST_Q.ENABLE 65535 1).rset HOST_Q.LOG2 65535 4
  let s := s.setHq 65535 { state := 1, tail := 1, modTime := 1, modCount := 0, unsignalled := 1,
                           inflight := [{ opcode := 0x55, cmd := { queue := 65535 }, started := false }],
                           replies := [{ cmdId := 1, status := 0, opcode := 0, detail := 0, r0 := 0, r1 := 0, irqNow := false }] }
  { s with host := { s.host with bme := [(0, true)] } }

theorem witness_QueuesFetchAndReply :
    ((State.reset.bivouac = false ∧ State.reset.vfOf 65535 = none ∧ State.reset.rget HOST_Q.ENABLE 65535 = 0 ∧ (1 + 4 * 2 ^ 3).testBit 0 = true ∧
       4 ≤ bitsOf (1 + 4 * 2 ^ 3) 3 5 ∧ bitsOf (1 + 16 * 2 ^ 3) 3 5 ≤ 16 ∧ bitsOf (1 + 3 * 2 ^ 3) 3 5 < 4) ∧
     (hostWork.vfOf 65535 = none ∧ hostWork.rget HOST_Q.ENABLE 65535 = 1 ∧ hostWork.reachQueue .pf0 65535 = some 65535 ∧ (hostWork.hq 65535).state = 1 ∧
       15 < 2 ^ hostWork.rget HOST_Q.LOG2 65535 ∧ 2 ^ hostWork.rget HOST_Q.LOG2 65535 ≤ 16 ∧ (State.reset.hq 0).state ≠ 1 ∧
       State.reset.reachQueue (.vf 3) 0 = none ∧ State.reset.reachQueue .jtag 0 = some 0) ∧
     (let s := State.reset.setHq 65535 { state := 3 }
      (s.hq 65535).state = 3 ∧ (s.hq 65535).inflight = [] ∧ (hostWork.hq 65535).inflight ≠ [])) ∧
    (hostWork.pickQueue = some 65535 ∧ State.reset.pickQueue = none ∧ (hostWork.nextStart 65535).map (·.opcode) = some 0x55 ∧ State.reset.nextStart 0 = none ∧
      (let s := State.reset.setHq 0 { state := 1, inflight := [{ opcode := 0x59, cmd := {}, started := false }] }
       (s.nextStart 0).map (·.opcode) = some 0x59 ∧ knownOpcodes.contains 0x59 = true ∧ knownOpcodes.contains 0x55 = false)) ∧
    ((hostWork.hq 65535).replies = [{ cmdId := 1, status := 0, opcode := 0, detail := 0, r0 := 0, r1 := 0, irqNow := false }] ∧
      hostWork.slotFree 65535 = true ∧ hostWork.busMaster (hostWork.ownerOf 65535) = true ∧ (hostWork.hq 65535).modCount = 0 ∧
      State.reset.busMaster 0 = false ∧ (hostWork.setHq 65535 { cqTail := 15 }).slotFree 65535 = false) ∧
    (1 ≤ (hostWork.hq 65535).modTime ∧ 1 ≤ (hostWork.hq 65535).unsignalled ∧
      hostWork.clk.wall < (hostWork.hq 65535).pendAt + usEdges (hostWork.hq 65535).modTime ∧
      (let s : State := { hostWork with clk := { hostWork.clk with wall := 157 } }
       (s.hq 65535).pendAt + usEdges (s.hq 65535).modTime ≤ s.clk.wall)) := by
  refine ⟨⟨?_, ?_, ?_⟩, ?_, ?_, ?_⟩ <;> decide +kernel

theorem witness_FunctionsAndTheHostLink :
    (State.reset.qmapRefused 255 64512 1024 = false ∧ State.reset.qmapRefused 255 64513 1024 = true ∧ agentWrites .pf0 (0x580100 + 8 * 255) = true ∧
      State.reset.bivouac = false) ∧
    (State.reset.rget PWR_STATE.DSTATE = 0 ∧ State.reset.failSafe = false ∧ State.reset.pwr.exiting = false ∧ State.reset.pwr.waking = false ∧
      State.reset.entering = false) ∧
    (let s : State := { State.reset.rset0 HOST_STATUS.VFS 255 with host := { State.reset.host with vfOn := true } }
     s.vfEnabled 255 = true ∧ s.host.vfOn = true) ∧
    (State.reset.host.paused = [] ∧ State.reset.fab.hostStage = [] ∧ State.reset.commitOwns = false ∧ State.reset.rget PWR_STATE.MOVING = 0 ∧
      cmdBadForm { a0 := 7, a1 := 1, a2 := 2 } cmdCtxCreate = false ∧ State.reset.busMaster 0 = false) := by
  refine ⟨?_, ?_, ?_, ?_⟩ <;> decide +kernel

theorem witness_FunctionsAndTheHostLink_paused :
    let h : HostCmd := { a0 := 7, a1 := 1, a2 := 2 }
    let s : State := { State.reset with host := { State.reset.host with paused := [.ctxCreate h [] []] } }
    let u : State := { s with host := { s.host with paused := [], bme := Assoc.put false s.host.bme 0 true } }
    s.host.paused = [.ctxCreate h [] []] ∧ h.func = 0 ∧ ∃ t, exec (.ctxCreate h [] []) u = .next t := ⟨rfl, rfl, _, rfl⟩

def inMove (step target : Nat) : State :=
  let s := (State.reset.rset0 PWR_STATE.MOVING 1).rset0 PWR_STATE.TARGET target
  { s with pwr := { s.pwr with step := step } }
def asleep : State := State.reset.rset0 PWR_STATE.DSTATE 3

/-- Probes of every crossing let an exit from any state go on. -/
theorem witness_DeviceStatesAndWakes_probed (s : State) :
    s.exitProbed ((List.range (s.rget CLK_XING_COUNT.COUNT)).map fun i => (i, 3, 4)) = true := by simp [State.exitProbed]

theorem witness_DeviceStatesAndWakes :
    ((plainCmd State.reset { a0 := 5 } cmdPowerSet ∧ plainCmd State.reset { a0 := 4 } cmdPowerSet ∧ plainCmd State.reset { a0 := 0 } cmdPowerSet ∧
       State.reset.running = false ∧ State.reset.rget ROLL_STATUS.STATE = 3 ∧ State.reset.rget PWR_WAKE.PEND ≠ 1) ∧
     (member.rget ROLL_STATUS.STATE ≠ 3 ∧ plainCmd member { a0 := 2 } cmdPowerSet ∧ member.running = false) ∧
     (let s := State.reset.rset0 PWR_WAKE.PEND 1
      plainCmd s { a0 := 1 } cmdPowerSet ∧ s.running = false ∧ s.rget ROLL_STATUS.STATE = 3 ∧ s.rget PWR_WAKE.PEND = 1) ∧
     (plainCmd (State.reset.rset0 PLAN_FRAME_CTRL.RUN 1) { a0 := 1 } cmdPowerSet ∧ (State.reset.rset0 PLAN_FRAME_CTRL.RUN 1).running = true)) ∧
    (((inMove 3 4).entering = true ∧ (inMove 3 4).pwr.step = 3 ∧ (inMove 3 4).failSafe = false ∧ (inMove 3 4).host.held = [] ∧ (inMove 3 4).frame.phase = .idle ∧
       (inMove 3 4).rget PWR_STATE.TARGET = 4 ∧ (let s : State := { inMove 3 4 with pwr := { (inMove 3 4).pwr with clk32k := false } }; s.entering = true ∧ s.pwr.clk32k = false)) ∧
     ((inMove 3 3).entering = true ∧ (inMove 3 3).rget PWR_STATE.TARGET = 3) ∧
     ((inMove 1 2).entering = true ∧ (inMove 1 2).pwr.step = 1 ∧ 1 < (inMove 1 2).rget PWR_STATE.TARGET) ∧
     ((inMove 2 2).entering = true ∧ (inMove 2 2).rget PWR_STATE.TARGET = 2 ∧ (inMove 2 2).failSafe = false ∧ (inMove 2 2).pwr.waking = false ∧
       (inMove 2 2).host.held = [] ∧ (inMove 2 2).frame.phase = .idle ∧ State.reset.entering = false)) ∧
    (asleep.failSafe = false ∧ asleep.pwr.exiting = false ∧ asleep.pwr.waking = false ∧ asleep.rget PWR_STATE.MOVING = 0 ∧ asleep.rget PWR_STATE.DSTATE = 3 ∧
      (asleep.rset0 PWR_WAKE_CFG.TIMER_S 1).rget PWR_WAKE_CFG.TIMER_S ≠ 0 ∧ (asleep.rset0 PWR_WAKE_CFG.TIMER_S 1).rget PWR_STATE.DSTATE = 3 ∧
      State.reset.rget PWR_STATE.DSTATE = 0 ∧ State.reset.rget PWR_WAKE_CFG.TIMER_S = 0) ∧
    ((let s : State := { asleep.rset0 PWR_WAKE.FROM 3 with pwr := { asleep.pwr with exiting := true } }
      s.pwr.exiting = true ∧ s.failSafe = false ∧ s.host.held = [] ∧ 3 ≤ s.rget PWR_WAKE.FROM ∧
        s.exitProbed [] = false) ∧
     (let s : State := { asleep.rset0 PWR_WAKE.FROM 2 with pwr := { asleep.pwr with exiting := true } }
      s.pwr.exiting = true ∧ s.failSafe = false ∧ s.host.held = [] ∧ s.rget PWR_WAKE.FROM < 3 ∧ s.exitProbed [] = true) ∧
     State.reset.pwr.exiting = false) := by
  refine ⟨⟨?_, ?_, ?_, ?_⟩, ⟨?_, ?_, ?_, ?_⟩, ?_, ?_, ?_, ?_⟩ <;> decide +kernel

/-- In a frame of 64 ticks of variant 1, whose profile has a sleep of core 0's region over the frame in region state `st`. -/
def napping (st : Nat) : State :=
  let im := coreImage.take 0x128 ++ [0x40] ++ (coreImage.drop 0x129).take (0x180 - 0x129) ++ [1, 0, 1, 0, 1, 0, 0, 0] ++
    bytesOf (64 * 2 ^ 27 + st * 2 ^ 54) 8 ++ (coreImage.drop 0x188).take 48
  let s := oneCore.rset PWR_REGION.PSTATE 0 0
  let s := (s.setVariant 1 { image := im, cores := s.corePlaces }).rset PLAN_VAR_STATE.FRAME_LEN 1 64
  let s := { s with plan := { s.plan with active := some 1 } }
  s.setFrame { s.frame with phase := .inFrame, len := 64 }

theorem witness_PowerHeatAndRails_sleeps :
    (isCoreRegion 0 = true ∧ (napping 3).frame.phase = .inFrame ∧
      (((napping 3).sleepsOf 0).find? fun e => decide (e.start ≤ (napping 3).ftick) && decide ((napping 3).ftick < e.stop)) =
        some { start := 0, stop := 64, state := 3, rsv := 0 } ∧
      ((napping 3).region 0).sleep = none ∧ (napping 3).sleepState 0 3 = 3 ∧ (napping 3).openAccesses 0 = 0 ∧ (napping 3).rget PWR_REGION.PSTATE 0 ≠ 5) ∧
    (((napping 5).sleepsOf 0).map (·.state) = [5] ∧ (napping 5).sleepState 0 5 = 5 ∧ (napping 5).coreOfRegion 0 = some 0 ∧
      (napping 5).rget PWR_REGION.PSTATE 0 ≠ 5) ∧
    (isCoreRegion 279 = true ∧ ((State.reset.setRegion 279 { sleep := some (0, 64, 3) }).region 279).sleep = some (0, 64, 3) ∧
      (State.reset.setRegion 279 { sleep := some (0, 64, 3) }).frame.phase = .idle ∧ (State.reset.region 279).sleep = none ∧
      State.reset.frame.phase ≠ .inFrame ∧ (State.reset.rset FAB_GATE.STATE 279 1).rget FAB_GATE.STATE 279 = 1 ∧
      (State.reset.rset PWR_REGION.PSTATE 279 5).rget PWR_REGION.PSTATE 279 = 5) := by
  refine ⟨?_, ?_, ?_⟩ <;> decide +kernel

theorem witness_PowerHeatAndRails :
    ((let s : State := { State.reset with pwr := { State.reset.pwr with samples := 10, sumW := 16000001 } }
      10 ≤ s.pwr.samples ∧ s.rget CLK_STATUS.RATE_IDX < 6 ∧ s.rget PWR_MEASURE.PCLAMP_MHZ = 2047 ∧
        1000 * s.pwr.samples * s.rget PWR_ALLOW.ALLOW_W < s.pwr.sumW) ∧
     (let s : State := { State.reset with pwr := { State.reset.pwr with samples := 10, sumW := 16000000 } }
      s.pwr.sumW ≤ 1000 * s.pwr.samples * s.rget PWR_ALLOW.ALLOW_W ∧ 1000 * s.pwr.samples * (s.rget PWR_ALLOW.ALLOW_W - 25) ≤ s.pwr.sumW) ∧
     (State.reset.pwr.samples < 10 ∧ State.reset.pwr.overMs100 < 10 ∧
      (let s : State := { State.reset with pwr := { State.reset.pwr with overMs100 := 10 } }; 10 ≤ s.pwr.overMs100 ∧ s.failSafe = false))) ∧
    (isCoreRegion 279 = true ∧ State.reset.rget PWR_THERM.HOT_C ≤ 114 ∧ 114 < State.reset.rget PWR_THERM.CRIT_C ∧ State.reset.rget PWR_THERM.CRIT_C ≤ 255 ∧
      99 < State.reset.rget PWR_THERM.HOT_C ∧ State.reset.rget PWR_THERM.HOT_C < 99 + 5 ∧ ((State.reset.setRegion 279 { thermal := 910 }).region 279).thermal ≠ 2047) ∧
    (let s := ((State.reset.rset0 RGR_STATUS.MODE 1).rset0 RGR_FS.CAUSE 0x40).setRegion 287 { critMs := 100 }
     s.failSafe = true ∧ s.rget RGR_FS.CAUSE = 0x40 ∧ 100 ≤ (s.region 287).critMs ∧ State.reset.failSafe = false) ∧
    (State.reset.rget RGR_AVS.TARGET_MV 2 ≤ 4095 + 25 ∧ Assoc.get 0 State.reset.rgr.avsMiss 2 < 2 ∧
      (let s : State := { State.reset with rgr := { State.reset.rgr with avsMiss := [(2, 2)] } }; Assoc.get 0 s.rgr.avsMiss 2 = 2 ∧ s.failSafe = false) ∧
      State.reset.railReady 1 = true ∧ (State.reset.rset RGR_AVS.TARGET_MV 1 700).railReady 1 = false ∧
      ((State.reset.setRegion 279 { ceilPend := some 1700 }).region 279).ceilPend.isSome = true) := by
  refine ⟨⟨?_, ?_, ?_⟩, ?_, ?_, ?_⟩ <;> decide +kernel

/-- The Ranger with session 5 open and authenticated for PF0. -/
def inSession5 : State :=
  { State.reset with rgr := { State.reset.rgr with sessions := [{ id := 5, authed := true, pf0 := true }], algosOk := true } }
def msg5 : MgmtMsg := { path := .i3c, session := 5 }

theorem heard {s : State} {m : MgmtMsg} (hr : s.rgr.running = true) (hp : s.pathOpen m.path = true) (hm : s.romOnly = false) :
    ∀ code, s.hears m code = true := fun code => by simp [State.hears, hr, hp, hm]

theorem heard_by_rom {s : State} {m : MgmtMsg} (hr : s.rgr.running = true) (hp : s.pathOpen m.path = true) :
    ∀ code, romOffers code = true → s.hears m code = true := fun code hc => by simp [State.hears, hr, hp, hc]

theorem witness_ManagementSessionsAndCommands_heard :
    (∀ code, inSession5.hears msg5 code = true) ∧ (∀ code, inSession5.hears { msg5 with path := .pcie true } code = true) ∧
    (∀ code, (inSession5.rset0 RGR_MGMT.MGT_UP 1).hears { msg5 with path := .mgt } code = true) ∧
    (∀ code, (inSession5.rset0 PLAN_FRAME_CTRL.RUN 1).hears msg5 code = true) ∧ (∀ code, (inSession5.rset0 RGR_STATUS.MODE 2).hears msg5 code = true) ∧
    (∀ code, ((inSession5.rset0 RGR_MGMT.MGT_UP 1).rset0 PWR_STATE.DSTATE 3).hears { msg5 with path := .mgt } code = true) ∧
    inSession5.hears { msg5 with path := .mgt } 0x7F01 = false :=
  ⟨heard (by decide +kernel) (by decide +kernel) (by decide +kernel), heard (by decide +kernel) (by decide +kernel) (by decide +kernel),
   heard (by decide +kernel) (by decide +kernel) (by decide +kernel), heard (by decide +kernel) (by decide +kernel) (by decide +kernel),
   heard (by decide +kernel) (by decide +kernel) (by decide +kernel), heard (by decide +kernel) (by decide +kernel) (by decide +kernel), by decide +kernel⟩

theorem witness_ManagementSessionsAndCommands :
    ((State.reset.inSession msg5 = false ∧ State.reset.hears msg5 0x7F01 = true ∧ inSession5.inSession msg5 = true ∧ inSession5.running = false ∧
       (inSession5.rset0 PLAN_FRAME_CTRL.RUN 1).running = true ∧ (inSession5.rset0 PLAN_FRAME_CTRL.RUN 1).inSession msg5 = true ∧
       (∀ p, p < 18 → inSession5.rget KL_PORT_STATUS.STATE p ≠ 7)) ∧
     (let s : State := { inSession5 with rgr := { inSession5.rgr with sessions := [{ id := 5, authed := true, pf0 := true, seq := 1 }] } }
      s.hears msg5 0x7F01 = true ∧ s.inSession msg5 = false ∧ s.inSession { msg5 with seq := 1 } = true) ∧
     (inSession5.rget PWR_ALLOW.ALLOW_W ≤ 1600 ∧ inSession5.failSafe = false ∧ inSession5.bivouac = false ∧ (inSession5.rset0 RGR_STATUS.MODE 2).bivouac = true ∧
       (inSession5.rset0 RGR_STATUS.MODE 2).inSession msg5 = true ∧ inSession5.rgr.supplyLoss = false ∧ inSession5.rgr.powerOff = false) ∧
     (let s := inSession5.rset0 PWR_STATE.DSTATE 4
      s.inSession msg5 = true ∧ s.failSafe = false ∧ s.pwr.exiting = false ∧ s.pwr.waking = false ∧ s.rget PWR_STATE.MOVING = 0 ∧ 1 ≤ s.rget PWR_STATE.DSTATE ∧
        s.rget PWR_STATE.DSTATE ≤ 4)) ∧
    ((inSession5.coreOfRegion (144 * 1 + 135) = none ∧ inSession5.hears msg5 0x7F0C = true) ∧
     (let s : State := { inSession5 with coreMap := [(0, some 144)], pcores := [(144, 0), (145, 1)] }
      s.inSession msg5 = true ∧ s.hears msg5 0x7F0C = true ∧ (s.coreOfRegion (144 * 1 + 0)).isSome = true ∧ s.rgr.retireTry = none ∧ s.rgr.retire = none ∧
        s.lowestSpare 1 = some 145) ∧
     (let s : State := { inSession5 with coreMap := [(0, some 144)], pcores := (List.range 136).map fun i => (144 + i, 0) }
      (s.coreOfRegion (144 * 1 + 0)).isSome = true ∧ s.lowestSpare 1 = none)) ∧
    ((inSession5.rgr.sessions.length = 1 ∧ inSession5.rgr.algosOk = true ∧ State.reset.rgr.algosOk = false ∧
       (inSession5.setSessions [{ id := 5, authed := true, pf0 := true }, { id := 6, authed := false, pf0 := false }]).rgr.sessions.length = 2) ∧
     (let s : State := { State.reset with rgr := { State.reset.rgr with sessions := [{ id := 5, authed := false, pf0 := true }] } }
      (s.rgr.sessions.any fun x => decide (x.id = msg5.session) && !x.authed) = true ∧ s.rgr.sessions.length ≤ 2 ∧
        (inSession5.rgr.sessions.any fun x => decide (x.id = msg5.session) && !x.authed) = false)) := by
  refine ⟨⟨?_, ?_, ?_, ?_⟩, ⟨?_, ?_, ?_⟩, ?_, ?_⟩ <;> decide +kernel

/-- A PLDM update of component kind `k` in state `n`, with a transfer of 2 bytes of which one has come. -/
def updating (n k : Nat) : State :=
  { inSession5 with rgr := { inSession5.rgr with pldmState := n, pldmKind := k, pldmSize := 2, pldmData := [7], pldmMax := 1 } }

theorem witness_UpdatesAndAnswers_heard :
    (∀ code, romOffers code = true → (updating 3 3).hears msg5 code = true) ∧
    (∀ code, romOffers code = true → (((updating 2 1).rset0 RGR_STATUS.MODE 2).rset0 RGR_BOOT.BIV_REASON 1).hears msg5 code = true) ∧
    (∀ code, State.reset.hears msg5 code = true) :=
  ⟨heard_by_rom (by decide +kernel) (by decide +kernel), heard_by_rom (by decide +kernel) (by decide +kernel),
   heard (by decide +kernel) (by decide +kernel) (by decide +kernel)⟩

theorem witness_UpdatesAndAnswers :
    ((inSession5.rgr.pldmState = 0 ∧ (updating 1 0).rgr.pldmState = 1 ∧ (updating 3 3).inSession msg5 = true) ∧
     ((updating 2 3).romOnly = false ∧ (updating 2 3).rget RGR_UPD.TRIAL 3 = 0 ∧ slotBytes 3 = 4 * 2 ^ 20 ∧
       ((updating 2 3).rset RGR_UPD.TRIAL 3 1).rget RGR_UPD.TRIAL 3 = 1 ∧
       (((updating 2 1).rset0 RGR_STATUS.MODE 2).rset0 RGR_BOOT.BIV_REASON 1).romOnly = true ∧
       (((updating 2 1).rset0 RGR_STATUS.MODE 2).rset0 RGR_BOOT.BIV_REASON 1).inSession msg5 = true) ∧
     ((updating 3 3).rgr.pldmData.length + ([9] : List Byte).length ≤ (updating 3 3).rgr.pldmSize ∧ ([9] : List Byte).length ≤ (updating 3 3).rgr.pldmMax ∧
       (updating 3 3).rgr.pldmMax < ([9, 9] : List Byte).length ∧
       (let s : State := { updating 3 3 with rgr := { (updating 3 3).rgr with pldmData := [7, 9] } }
        s.rgr.pldmData.length = s.rgr.pldmSize ∧ s.rgr.pldmKind < 4) ∧
       (updating 4 3).rgr.pldmState = 4 ∧ (updating 5 3).rgr.pldmState = 5)) ∧
    (let s := (updating 2 2).rset RGR_UPD.OTHER 2 3
     s.inSession msg5 = true ∧ s.rgr.pldmKind = 2 ∧ s.activateStatus 2 = 0 ∧ fwResetActivate (s.otherImage 2) = false ∧ s.rget RGR_UPD.ACTIVE 2 ≤ 1) ∧
    ((updating 2 2).activateStatus (updating 2 2).rgr.pldmKind ≠ 0) ∧
    (State.reset.rget RGR_MGMT.I3C_DA = 0 ∧ State.reset.rget RGR_MGMT.I3C_SA = 72 ∧ State.reset.rget RGR_MGMT.MGT_UP = 0 ∧
      (State.reset.rset0 RGR_MGMT.I3C_DA 127).rget RGR_MGMT.I3C_DA ≠ 0 ∧
      (let s : State := { State.reset.rset0 RGR_MGMT.MGT_UP 1 with rgr := { State.reset.rgr with mgtIps := [9] } }
       s.rget RGR_MGMT.MGT_UP = 1 ∧ s.rgr.mgtIps.contains 9 = true ∧ s.rgr.mgtIps.contains 8 = false)) := by
  refine ⟨⟨?_, ?_, ?_⟩, ?_, ?_, ?_⟩ <;> decide +kernel

def startAt (k : Nat) : State := { State.reset with rgr := { State.reset.rgr with starting := true, nextPhase := k } }

/-- Probes of every crossing, each passing. -/
theorem witness_StartsGoPhaseByPhase_probed (n i : Nat) (h : i < n) :
    ((List.range n).map fun k => (k, 3, 4)).filter (fun e => decide (e.1 = i)) = [(i, 3, 4)] := by
  have f : (List.range n).filter (fun k => decide (k = i)) = [i] := by
    induction n with
    | zero => omega
    | succ n ih =>
      rw [List.range_succ, List.filter_append]
      rcases Nat.lt_or_eq_of_le (Nat.lt_succ_iff.1 h) with h | rfl
      · rw [ih h]; simp; omega
      · simp; omega
  rw [List.filter_map, show ((fun e : Nat × Nat × Nat => decide (e.1 = i)) ∘ fun k => (k, 3, 4)) = fun k => decide (k = i) from rfl, f]; rfl

theorem witness_StartsGoPhaseByPhase :
    ((State.reset.rgr.supplyLoss = false ∧ State.reset.rgr.powerOff = false ∧ State.reset.rgr.sysRst = true ∧ State.reset.rgr.startDue = true ∧
       State.reset.rgr.starting = false ∧ State.reset.rgr.bivouacFlag = false ∧ State.reset.rgr.startOpen = false ∧ State.reset.failSafe = false) ∧
     (let s : State := { State.reset with rgr := { State.reset.rgr with bivouacFlag := true } }
      s.rgr.bivouacFlag = true ∧ 2 ≤ s.rget RGR_RESET.BIVOUAC_N ∧ s.rget RGR_RESET.BIVOUAC_N ≤ 7) ∧
     (let s : State := { State.reset with rgr := { State.reset.rgr with startOpen := true } }; s.rgr.bivouacFlag = false ∧ s.rgr.startOpen = true) ∧
     (let s : State := { State.reset with rgr := { State.reset.rgr with sysRst := false, ready := true } }; s.rgr.sysRst = false ∧ s.unsettled = true) ∧
     (let s : State := { State.reset with rgr := { State.reset.rgr with sysRst := false } }
      s.rgr.sysRst = false ∧ s.unsettled = false ∧ s.rgr.startDue = true ∧ s.rgr.powerOff = false) ∧
     (let s : State := { State.reset with rgr := { State.reset.rgr with rstCause := 1 } }; s.rgr.sysRst = true ∧ s.rgr.rstCause = 1)) ∧
    (((startAt 0).rgr.trialBad = [] ∧ (startAt 0).rget RGR_UPD.ACTIVE 1 = 0 ∧ (startAt 0).rgr.testEn = false ∧ (startAt 0).rgr.starting = true) ∧
     ((startAt 1).rgr.trialBad = [] ∧ (startAt 1).rget RGR_RESET.FAILED < (startAt 1).rget RGR_RESET.BIVOUAC_N ∧
       ((startAt 1).rset0 RGR_RESET.FAILED 7).rget RGR_RESET.BIVOUAC_N ≤ ((startAt 1).rset0 RGR_RESET.FAILED 7).rget RGR_RESET.FAILED) ∧
     (1215 < (startAt 2).rget CLK_XING_COUNT.COUNT ∧ (startAt 2).rgr.nextPhase = 2 ∧
       ([(1215, 3, 7)] : List (Nat × Nat × Nat)).filter (fun e => decide (e.1 = 1215)) = [(1215, 3, 7)] ∧
       ([(1215, 30, 31)] : List (Nat × Nat × Nat)).filter (fun e => decide (e.1 = 1215)) = [(1215, 30, 31)]) ∧
     (BitVec.allOnes 12 - 1 ≠ BitVec.allOnes 12 ∧ (startAt 3).rgr.nextPhase = 3 ∧ (startAt 4).rget RGR_UPD.ACTIVE 0 ≤ 1 ∧ (startAt 5).rgr.nextPhase = 5)) ∧
    (State.reset.rgr.retryAt = false ∧
      (let s : State := { State.reset with rgr := { State.reset.rgr with retryAt := true, ready := true } }
       s.rgr.retryAt = true ∧ s.rgr.ready = true ∧ s.rget RGR_BOOT.SETTLED = 0)) := by
  refine ⟨⟨?_, ?_, ?_, ?_, ?_, ?_⟩, ⟨?_, ?_, ?_, ?_⟩, ?_⟩ <;> decide +kernel

theorem witness_UpdatesTrialsAndRecalibration :
    ((plainCmd (mastered State.reset) { a0 := 3, a1 := 64, a2 := 4194304 } cmdUpdateStage ∧ (mastered State.reset).pf0Session = false ∧
       (mastered inSession5).pf0Session = true ∧ plainCmd (mastered inSession5) { a0 := 3, a2 := 4194304 } cmdUpdateStage ∧
       plainCmd (mastered inSession5) { a0 := 4 } cmdUpdateStage ∧ 4194304 ≤ slotBytes 3 ∧ slotBytes 3 < 4194305 ∧
       plainCmd (mastered inSession5) { a0 := 3, a2 := 4194305 } cmdUpdateStage ∧ (mastered inSession5).rget RGR_UPD.TRIAL 3 = 0) ∧
     (let s := mastered (inSession5.rset RGR_UPD.TRIAL 3 1)
      s.pf0Session = true ∧ s.rget RGR_UPD.TRIAL 3 = 1 ∧ plainCmd s { a0 := 3, a2 := 1 } cmdUpdateStage) ∧
     (let s := mastered (inSession5.rset RGR_UPD.OTHER 2 3)
      plainCmd s { a0 := 2 + 256 } cmdUpdateStage ∧ s.pf0Session = true ∧ s.activateStatus 2 = 0 ∧ fwResetActivate (s.otherImage 2) = false ∧
        s.rget RGR_UPD.ACTIVE 2 ≤ 1 ∧ s.rget RGR_UPD.TRIAL 2 = 0)) ∧
    ((plainCmd State.reset { a0 := 3 } cmdUpdateConfirm ∧ State.reset.pf0Session = false ∧ plainCmd inSession5 { a0 := 3 } cmdUpdateConfirm ∧
       inSession5.rget RGR_UPD.TRIAL 3 = 0) ∧
     (plainCmd (inSession5.rset RGR_UPD.TRIAL 3 1) { a0 := 3 } cmdUpdateConfirm ∧ (inSession5.rset RGR_UPD.TRIAL 3 1).rget RGR_UPD.TRIAL 3 = 1 ∧
       (inSession5.rset RGR_UPD.TRIAL 3 1).pf0Session = true) ∧
     (let s := (inSession5.rset RGR_UPD.TRIAL 3 1).rset RGR_UPD.TRIALS 3 3
      s.rget RGR_UPD.TRIAL 3 = 1 ∧ s.rget RGR_UPD.TRIAL_MAX 3 ≤ s.rget RGR_UPD.TRIALS 3 ∧ s.rget RGR_UPD.ACTIVE 3 ≤ 1) ∧
     (let s := (inSession5.rset RGR_UPD.TRIAL 1 1).rset RGR_UPD.TRIALS 1 2
      s.rget RGR_UPD.TRIAL 1 = 1 ∧ s.rget RGR_UPD.TRIALS 1 < s.rget RGR_UPD.TRIAL_MAX 1)) ∧
    ((let s : State := { State.reset with rgr := { State.reset.rgr with cpRestart := some (7, some {}), libPend := true, running := false } }
      s.rgr.cpRestart = some (7, some {}) ∧ Assoc.get [] s.host.cpWork 7 = [] ∧ s.rgr.libPend = true ∧ s.cores = [] ∧ s.rgr.running = false ∧
        s.host.cpExpired = [] ∧ s.rget RGR_UPD.TRIAL 1 = 0) ∧
     (let s : State := { State.reset with rgr := { State.reset.rgr with cpRestart := some (6, none) } }
      s.rgr.cpRestart = some (6, none) ∧ Assoc.get [] s.host.cpWork 6 = [] ∧ s.rgr.libPend = false ∧ s.rgr.running = true)) ∧
    ((State.reset.mayRecal 287 = true ∧ State.reset.mayRecal 288 = false ∧ agentWrites .pf0 0x10060 = true ∧ State.reset.bivouac = false) ∧
     (let s : State := { State.reset.rset0 CLK_RECAL.STATE 1 with rgr := { State.reset.rgr with recal := some 287 } }
      s.rgr.recal = some 287 ∧ s.frame.phase = .idle ∧ s.rget CLK_RECAL.STATE = 1)) := by
  refine ⟨⟨?_, ?_, ?_⟩, ⟨?_, ?_, ?_, ?_⟩, ⟨?_, ?_⟩, ?_, ?_⟩ <;> decide +kernel

/-- Region 287 recalibrates, a region leaves P5, and the spare of region 145 is tried, each from Groundsheet 0. -/
def probing (now : Nat) : State :=
  { State.reset.rset0 CLK_RECAL.STATE 2 with rgr := { State.reset.rgr with recal := some 287 }, clk := { State.reset.clk with gst := now } }
def waking (r now : Nat) : State := { State.reset with rgr := { State.reset.rgr with leaving := [(r, 0)] }, clk := { State.reset.clk with gst := now } }
def tryingSpare : State :=
  let s := (waking 145 16639).rset0 RGR_RETIRE.SPARE 1
  { s with rgr := { s.rgr with retireTry := some 144 } }

/-- One probe for each crossing of a region. -/
def probesFor (s : State) (r lo hi : Nat) : List (Nat × Nat × Nat) := (s.xingsOf r).map fun i => (i, lo, hi)

theorem witness_UpdatesTrialsAndRecalibration_probes (s : State) (r lo hi : Nat) :
    (∀ i ∈ s.xingsOf r, ∃ e ∈ probesFor s r lo hi, e.1 = i) ∧ (∀ e ∈ s.probesOf r (probesFor s r lo hi), e.2.1 = lo ∧ e.2.2 = hi) := by
  constructor
  · intro i hi; exact ⟨_, List.mem_map.2 ⟨i, hi, rfl⟩, rfl⟩
  · intro e he
    obtain ⟨i, -, rfl⟩ := List.mem_map.1 (List.mem_filter.1 he).1
    exact ⟨rfl, rfl⟩

/-- The region that crossing 0 starts in has that crossing's probe among its own, whichever region it is. -/
theorem witness_UpdatesTrialsAndRecalibration_crossing (lo hi : Nat) :
    let s : State := { State.reset.rset0 CLK_RECAL.STATE 2 with rgr := { State.reset.rgr with recal := some (xingFrom 0) },
                                                                 clk := { State.reset.clk with gst := 16639 } }
    (s.rgr.recal = some (xingFrom 0) ∧ s.rget CLK_RECAL.STATE = 2 ∧ s.rgr.leaving = [] ∧ s.plan.loads = [] ∧ s.rgr.recalW + 16639 ≤ s.gst) ∧
    0 ∈ s.xingsOf (xingFrom 0) ∧ (0, lo, hi) ∈ s.probesOf (xingFrom 0) (probesFor s (xingFrom 0) lo hi) := by
  intro s
  have h : 0 ∈ s.xingsOf (xingFrom 0) := List.mem_filter.2 ⟨List.mem_range.2 (by decide +kernel), by simp⟩
  refine ⟨by refine ⟨rfl, ?_, rfl, rfl, ?_⟩ <;> decide +kernel, h, List.mem_filter.2 ⟨List.mem_map.2 ⟨0, h, rfl⟩, ?_⟩⟩
  exact List.contains_iff_mem.2 h

theorem witness_UpdatesTrialsAndRecalibration_recal :
    ((probing 16639).rgr.recal = some 287 ∧ (probing 16639).rget CLK_RECAL.STATE = 2 ∧ (probing 16639).rgr.leaving = [] ∧ (probing 16639).plan.loads = [] ∧
      (probing 16639).rgr.recalW + 16639 ≤ (probing 16639).gst ∧ (probing 16638).gst < (probing 16638).rgr.recalW + 16639 ∧
      30 + 2 ≤ (probing 16639).latLimit) ∧
    ((waking 287 16639).rgr.recal = none ∧ (waking 287 16639).rgr.leaving = [(287, 0)] ∧ (waking 287 16639).plan.loads = [] ∧
      0 + 16639 ≤ (waking 287 16639).gst ∧ (waking 287 16638).gst < 0 + 16639 ∧ (waking 287 16639).rgr.retireTry = none) ∧
    (tryingSpare.rgr.retireTry = some 144 ∧ tryingSpare.spareTried = some 145 ∧ tryingSpare.rgr.leaving = [(145, 0)] ∧ tryingSpare.rgr.retire = none ∧
      tryingSpare.rgr.recal = none ∧ 0 + 16639 ≤ tryingSpare.gst ∧ 30 + 2 ≤ tryingSpare.latLimit) := by
  refine ⟨?_, ?_, ?_⟩ <;> decide +kernel

theorem witness_RegisterAccessesAndTheirLog :
    (State.reset.bivouac = false ∧ agentWrites .pf0 0x800008 = true ∧ agentWrites (.vf 3) 0x800008 = true ∧ agentWrites .jtag 0x10038 = true) ∧
    (agentWrites (.remote 5) 0x5FFFFF = false ∧ agentWrites (.remote 5) 0x700000 = false ∧ agentWrites (.remote 5) 0xA00000 = false ∧ (1 : Nat).testBit 0 = true ∧
      (0 : Nat) < 15 ∧ 15 < 16 ∧ 15 ≠ 2) ∧
    (0x10008 % 8 = 0 ∧ regBytes 0x10008 = 8 ∧ 0x10038 % 8 = 0 ∧ regBytes 0x10038 ≠ 8 ∧
      (let s : State := { State.reset with clk := { State.reset.clk with hiLatch := [((.pf0, 0x10008), 5), ((.vf 1, 0x10008), 6)] } }
       s.clk.hiLatch = ((.pf0, 0x10008), 5) :: [((.vf 1, 0x10008), 6)] ∧ (∀ e ∈ [(((.vf 1, 0x10008), 6) : (Agent × Nat) × Nat)], e.1 ≠ (.pf0, 0x10008))) ∧
      (∀ e ∈ State.reset.clk.hiLatch, e.1 ≠ (.pf0, 0x10008))) := by decide +kernel

theorem witness_StepRunsTheFrontCommand :
    ({ State.reset with pending := [.refBack, .applyTick] } : State).pending = .refBack :: [.applyTick] ∧ State.reset.pending = [] := by decide +kernel

theorem witness_CommandsComplete : (Instr.tickIssue 287 true).wf = true ∧ (Instr.blockLock 17 0 0).wf = true := by decide +kernel

theorem witness_RingCopiesOfRollCallMessages :
    ringRow .suspect 0x01 ∧ ringRow .rateCancel 0x0B ∧ (State.reset.rset0 GL_STATUS.BYPASS 1).onRing = false ∧
    (let s := State.reset.rset0 GL_STATUS.BYPASS 0
     s.onRing = true ∧ ({ sender := 0 } : RcMsg).sender = s.ownId ∧ ({ sender := 9 } : RcMsg).sender ≠ s.ownId) := by
  refine ⟨by simp [ringRow], by simp [ringRow], ?_, ?_⟩ <;> decide +kernel

theorem witness_InstructionWordsRoundTrip : decodeIsa 0x2000300000000000#64 = some { gap := 3, op := .nop } := by decide +kernel

theorem witness_MemoryStaysCanonical :
    memoryCanonical { State.reset with mem := { State.reset.mem with cells := [(3, 1), (9, 255)] }, pending := [.refBack] } := by
  unfold memoryCanonical; decide +kernel

/-- Words of the opcode table, written out field by field (R86, R87). -/
theorem test_words_0 :
    decodeIsa 0b0000000100000000001100000010000010010000000000000000000000000101#64 = some { gap := 3, op := .alu .add 1 2 0x20 5 } ∧
    decodeIsa 0b0000111000000000001100111111111111100000011111111111111111111111#64 = some { gap := 3, op := .alu .seq 31 0x7F 0x40 (-1) } ∧
    decodeIsa 0b0001000000000000001100001001000011011110101011011011111011101111#64 = some { gap := 3, op := .ldi 4 true 0xDEADBEEF } ∧
    decodeIsa 0b0001000100000000001100001010000110000000000000000000000000000111#64 = some { gap := 3, op := .lds 5 6 7 } := by decide +kernel

/-- Words of the opcode table, written out field by field (R86, R87). -/
theorem test_words_1 :
    decodeIsa 0b0001001000000000001100001010000110000000000000000000000000000111#64 = some { gap := 3, op := .sts 5 6 7 } ∧
    decodeIsa 0b0010000000000000001100000000000000000000000000000000000000000000#64 = some { gap := 3, op := .nop } ∧
    decodeIsa 0b0010000100000000001100000000000000000000000000000000000000000000#64 = some { gap := 3, op := .endQ } ∧
    decodeIsa 0b0010001000000000001111111111111111111000000000010000000000000000#64 = some { gap := 3, op := .loop 0xFFFF 0x801 } := by decide +kernel

/-- Words of the opcode table, written out field by field (R86, R87). -/
theorem test_words_2 :
    decodeIsa 0b0010001100000000001110100000010000010100000000000110000000000100#64 = some { gap := 3, op := .brb 5 1 2 0x1001 0x1002 } ∧
    decodeIsa 0b0010010000000000001110000000000000011000000100000000000000000000#64 = some { gap := 3, op := .join 0x8001 0x81 } ∧
    decodeIsa 0b0010010100000000001101000000010000010111111111111111111111111110#64 = some { gap := 3, op := .bru 2 1 2 (-2) } ∧
    decodeIsa 0b0010011000000000001100010010001101000000000000000000000000000000#64 = some { gap := 3, op := .lcall 0x1234 } := by decide +kernel

/-- Words of the opcode table, written out field by field (R86, R87). -/
theorem test_words_3 :
    decodeIsa 0b0011000000000000001110001110010000000000000000000000000000000000#64 = some { gap := 3, op := .sig 17 200 } ∧
    decodeIsa 0b0011000100000000001110001110010000000000000000000000000000000000#64 = some { gap := 3, op := .wait 17 200 } ∧
    decodeIsa 0b0011001000000000001100000000000010000000000000000000000000000001#64 = some { gap := 3, op := .bar 0x80000001 } ∧
    decodeIsa 0b0100000000000000001110011010011110000000010000010100000000000010#64 = some { gap := 3, op := .mpass 9 true false true 3 12 1 2 0x2001 } := by decide +kernel

/-- Words of the opcode table, written out field by field (R86, R87). -/
theorem test_words_4 :
    decodeIsa 0b0101000000000000001110100000000000000000000000001000000000000001#64 = some { gap := 3, op := .vcfg 5 0x8001 } ∧
    decodeIsa 0b0101000100000000001110011011000000010000010000001110000000001100#64 = some { gap := 3, op := .vrun 9 5 2 1 2 3 0x401 4 } ∧
    decodeIsa 0b0101001000000000001100001111010000000000000000000000000000000000#64 = some { gap := 3, op := .reds 7 2 true } ∧
    decodeIsa 0b0110000000000000001110011000100000000000000000010000000000000001#64 = some { gap := 3, op := .dma 9 17 0x10001 } := by decide +kernel

/-- Words of the opcode table, written out field by field (R86, R87). -/
theorem test_words_5 :
    decodeIsa 0b0111000000000000001110000000000100001101000000000001100110001000#64 = some { gap := 3, op := .send 0x801 6 0x1001 9 17 } ∧
    decodeIsa 0b0111000100000000001110000000000100001101000000000001100010000000#64 = some { gap := 3, op := .recv 0x801 6 0x1001 17 } ∧
    decodeIsa 0b0111001000000000001110000000000110011100100000000000000000000000#64 = some { gap := 3, op := .cgive 0x801 9 200 } := by decide +kernel

/-- An instruction of core 0 in a queue's plan-class stream. -/
def onQ (q : Nat) : Issue := { core := 0, queue := q, gap := 0 }

/-- Operands at the edge of each range are well formed (spec/01). -/
theorem test_wf_edges :
    (Instr.tickIssue 287 true).wf ∧ (Instr.blockLock 17 0 0).wf ∧ (Instr.dmaPiece 255).wf ∧ (Instr.serviceDmaCompletion 1 15).wf ∧ (Instr.vfFlr 255).wf ∧
      (Instr.servicePacketForward 31 3 [(17, 9, 0)]).wf ∧ (Instr.sleepStart 135).wf ∧ (Instr.refresh 11).wf ∧ (Instr.registerWrite .pf0 (3 * 2 ^ 24 - 8) 8 255 0).wf := by decide

/-- Each unit check refuses the number after its last (R10, R12, R46, R290). -/
theorem test_wf_units :
    (Instr.tickIssue 288 true).wf = false ∧ (Instr.blockLock 18 0 0).wf = false ∧ (Instr.dmaPiece 256).wf = false ∧ (Instr.serviceDmaCompletion 2 0).wf = false ∧
      (Instr.serviceDmaCompletion 0 16).wf = false ∧ (Instr.vfFlr 0).wf = false ∧ (Instr.vfFlr 256).wf = false ∧ (Instr.servicePacketForward 18 0 []).wf = false ∧
      (Instr.servicePacketForward 31 4 []).wf = false ∧ (Instr.servicePacketForward 31 3 [(18, 0, 0)]).wf = false ∧ (Instr.sleepStart 136).wf = false ∧ (Instr.sleepStart 288).wf = false ∧ (Instr.refresh 12).wf = false ∧
      (Instr.prefetch 0 64).wf = false ∧ (Instr.commandProcessorRestart 8).wf = false ∧ (Instr.trialTimeout 4).wf = false ∧ (Instr.railOutOfRange 16).wf = false ∧
      (Instr.selectionJob 16).wf = false ∧ (Instr.coreRetire { path := .mgt } 0 136).wf = false ∧ (Instr.sessionExpiry (2 ^ 32)).wf = false := by decide

/-- The agent, packet and message checks refuse a field that does not fit its place. -/
theorem test_wf_messages :
    (Instr.clkRateReq (.vf 0) 0).wf = false ∧ (Instr.clkRateReq (.cp 8) 0).wf = false ∧ (Instr.clkRateReq (.core 256) 0).wf = false ∧
      (Instr.clkRateReq (.remote 16384) 0).wf = false ∧ (Instr.frameStop { func := 256 }).wf = false ∧ (Instr.frameStop { a0 := 2 ^ 64 }).wf = false ∧
      (Instr.nop (.host { flags := 256 })).wf = false ∧ (Instr.verdict 0 (.hold 16384)).wf = false ∧ (Instr.verdict 0 (.abort 0 256)).wf = false ∧
      (Instr.registerWrite .pf0 0 2 3 0).wf = false ∧ (Instr.registerWrite .pf0 0 4 256 0).wf = false ∧ (Instr.registerWrite .pf0 (3 * 2 ^ 24) 4 15 0).wf = false ∧
      (Instr.flit 0 [] false 0 0).wf = false ∧ (Instr.fetch true []).wf = false ∧ (Instr.lateFlit 0 4096).wf = false := by decide

/-- Instruction fields and queues out of range (R79, R86, R87). -/
theorem test_wf_instructions :
    (Instr.nop (.plan { onQ 0 with core := 256 })).wf = false ∧ (Instr.nop (.plan (onQ 5))).wf = false ∧ (Instr.nop (.plan { onQ 0 with gap := 4096 })).wf = false ∧
      (Instr.add (onQ 1) 1 2 3 0).wf = false ∧ (Instr.add { onQ 3 with svc := true } 1 2 3 0).wf = true ∧ (Instr.lcall (onQ 0) 1).wf = false ∧
      (Instr.sig (onQ 0) 0 0).wf = false ∧ (Instr.wait (onQ 0) 32 1).wf = false ∧ (Instr.loop (onQ 0) 65536 0).wf = false ∧
      (Instr.vrun (onQ 2) 0 0 3 0 0 0 0 0).wf = false ∧ (Instr.cgive (onQ 4) 0 15 1).wf = false ∧ (Instr.send (onQ 4) 0 0 0 0 0).wf = false := by decide

/-- A step of a machine with nothing waiting idles; with a command in front it runs that command alone. -/
theorem test_steps :
    (match step State.reset with | .next t => decide (t = State.reset) | _ => false) = true ∧
    (match step { State.reset with pending := [.sysRstN, .start] } with
      | .next t => decide (t.pending = [.start]) && !t.rgr.sysRst && t.rgr.startDue | _ => false) = true := by decide +kernel

/-- A start before SYS_RST_N is released does nothing; after it, the start is at B0 (R348). -/
theorem test_start :
    (match exec .start State.reset with | .next t => !t.rgr.starting | _ => false) = true ∧
    (match exec .start { State.reset with rgr := { State.reset.rgr with sysRst := false } } with
      | .next t => t.rgr.starting && decide (t.rgr.nextPhase = 0) | _ => false) = true := by decide +kernel

/-- Page entries of a table pool are 0 after reset (R163); other memory reads as bytes of no known value (R162). -/
theorem test_fresh_memory :
    freshTweak (reservedAt 0 / 64) ≠ physTweak ∧ freshTweak ((reservedAt 0 + 0x80000000) / 64) = physTweak ∧ freshTweak 0 ≠ physTweak ∧
      (∀ tag, tag < 65536 → freshTweak 0 ≠ ctxTweak tag) := by
  refine ⟨by decide +kernel, by decide +kernel, by decide +kernel, fun tag h => ?_⟩
  have : freshTweak 0 = 131072 := by decide +kernel
  rw [this]; unfold ctxTweak; omega

end Sys2Proof.Tests
end

section
/-! Register places: which writes leave a field as it was, and the shared operations of a start and a reset (R346 to R357)
through the places that each writes. -/
namespace Sys2Proof.Machine
open Sys2Proof.Safety

/-! ### Register places -/

/-- Two fields whose lowest bits differ never share a place. -/
theorem Field.key_ne_of_lo {f g : Field} (i j : Nat) (h : f.lo % 64 ≠ g.lo % 64) : f.key i ≠ g.key j := by
  unfold Field.key; omega

theorem State.rget_rsat_same (s : State) (f : Field) (i n : Nat) :
    (s.rsat f i n).rget f i = Nat.min (s.rget f i + n) (2 ^ f.width - 1) := by
  have hpos : 0 < 2 ^ f.width := Nat.two_pow_pos _
  have hle : Nat.min (s.rget f i + n) (2 ^ f.width - 1) ≤ 2 ^ f.width - 1 := Nat.min_le_right _ _
  rw [State.rsat, State.rget_rset_same, Nat.mod_eq_of_lt (by omega)]

theorem State.rget_rsat_ne (s : State) (f g : Field) (i j n : Nat) (h : g.key j ≠ f.key i) :
    (s.rsat f i n).rget g j = s.rget g j := State.rget_rset_ne s f g i j _ h

theorem State.rget_event_ne (s : State) (f g : Field) (i j b : Nat) (h : g.key j ≠ f.key i) :
    (s.event f i b).rget g j = s.rget g j := State.rget_rset_ne s f g i j _ h

/-- The Ranger's state is no part of the register file. -/
@[simp] theorem State.rget_withRgr (s : State) (r : Rgr) (f : Field) (i : Nat) : ({ s with rgr := r } : State).rget f i = s.rget f i := rfl

/-! ### The journal and a failed start (R349, R350, R355) -/

@[simp] theorem State.journal_coreMap (s : State) : s.journal.coreMap = s.coreMap := rfl

theorem State.rget_journal_ne (s : State) (f : Field) (i : Nat) (h : f.key i ∉ [RGR_NVREC.SEQ.key 0, RGR_NVREC.COPY.key 0]) :
    s.journal.rget f i = s.rget f i := by
  simp only [List.mem_cons, List.not_mem_nil, or_false, not_or] at h
  rw [State.journal, State.rget_rset0_ne _ _ _ _ _ h.2, State.rget_rset0_ne _ _ _ _ _ h.1]

/-- The places that a failed start writes. -/
def failedStartKeys : List Nat := [RGR_RESET.FAILED.key 0, RGR_NVREC.SEQ.key 0, RGR_NVREC.COPY.key 0, RGR_BOOT.REASON.key 0]

theorem State.rget_failedStart_ne (s : State) (r : Nat) (f : Field) (i : Nat) (h : f.key i ∉ failedStartKeys) :
    (s.failedStart r).rget f i = s.rget f i := by
  simp only [failedStartKeys, List.mem_cons, List.not_mem_nil, or_false, not_or] at h
  obtain ⟨hf, hs, hc, hr⟩ := h
  rw [State.failedStart, State.rget_withRgr, State.rget_rset0_ne _ _ _ _ _ hr, State.rget_journal_ne _ _ _ (by simp [hs, hc]),
    State.rget_rsat_ne _ _ _ _ _ _ hf]

theorem State.rget_failedStart_failed (s : State) (r : Nat) :
    (s.failedStart r).rget RGR_RESET.FAILED = Nat.min (s.rget RGR_RESET.FAILED + 1) 7 := by
  rw [State.failedStart, State.rget_withRgr, State.rget_rset0_ne _ _ _ _ _ (by decide), State.rget_journal_ne _ _ _ (by decide),
    State.rget_rsat_same]
  rfl

theorem State.rget_failedStart_reason (s : State) {r : Nat} (h : r < 256) : (s.failedStart r).rget RGR_BOOT.REASON = r := by
  rw [State.failedStart, State.rget_withRgr, State.rget_rset0_same]
  exact Nat.mod_eq_of_lt h

/-- A start that fails where FAILED stands as it stood in `s` is a failed start of `s`. -/
theorem State.startFailed_failedStart {s u : State} {r : Nat} (hr : r < 256) (h : u.rget RGR_RESET.FAILED = s.rget RGR_RESET.FAILED) :
    startFailed s (u.failedStart r) r :=
  ⟨u.rget_failedStart_reason hr, by rw [u.rget_failedStart_failed, h], rfl, rfl, rfl⟩

/-! ### Trial starts and rollbacks (R355 to R357) -/

/-- A trial start writes TRIALS, the journal and the list of trials. -/
theorem State.trialStart_eq (s : State) (k : Nat) :
    s.trialStart k = { s with regs := (s.trialStart k).regs, rgr := { s.rgr with trialsRun := (s.trialStart k).rgr.trialsRun } } := by
  unfold State.trialStart
  split <;> rfl

theorem State.rget_trialStart_ne (s : State) (k : Nat) (f : Field) (i : Nat)
    (h : f.key i ∉ [RGR_UPD.TRIALS.key k, RGR_NVREC.SEQ.key 0, RGR_NVREC.COPY.key 0]) : (s.trialStart k).rget f i = s.rget f i := by
  simp only [List.mem_cons, List.not_mem_nil, or_false, not_or] at h
  obtain ⟨ht, hs, hc⟩ := h
  unfold State.trialStart
  split
  · rw [State.rget_journal_ne _ _ _ (by simp [hs, hc]), State.rget_rsat_ne _ _ _ _ _ _ ht, State.rget_withRgr]
  · rfl

/-- The active pointer of a kind flips. -/
theorem State.rget_flipSlot_active (s : State) {k : Nat} (hk : k < 4) :
    (s.flipSlot k).rget RGR_UPD.ACTIVE k = (1 - s.rget RGR_UPD.ACTIVE k) % 2 := by
  have hva : RGR_UPD.ACTIVE.key k ≠ RGR_UPD.VER_ACTIVE.key k := Field.key_ne_of_lo _ _ (by decide)
  have hvo : RGR_UPD.ACTIVE.key k ≠ RGR_UPD.VER_OTHER.key k := Field.key_ne_of_lo _ _ (by decide)
  have hslot : RGR_UPD.ACTIVE.key k ≠ RGR_STATUS.FW_SLOT.key 0 := Field.key_ne_of_lo _ _ (by decide)
  have hver : RGR_UPD.ACTIVE.key k ≠ RGR_STATUS.FW_VER.key 0 := Field.key_ne_of_lo _ _ (by decide)
  have hports : RGR_UPD.ACTIVE.key k ≠ RGR_LMC_PORTS.PORTS.key 0 := by
    simp only [Field.key, RGR_UPD.ACTIVE, RGR_LMC_PORTS.PORTS]; omega
  have hflip : ∀ t : State, t = ((s.rset RGR_UPD.ACTIVE k (1 - s.rget RGR_UPD.ACTIVE k)).rset RGR_UPD.VER_ACTIVE k
      (s.rget RGR_UPD.VER_OTHER k)).rset RGR_UPD.VER_OTHER k (s.rget RGR_UPD.VER_ACTIVE k) →
      t.rget RGR_UPD.ACTIVE k = (1 - s.rget RGR_UPD.ACTIVE k) % 2 := by
    rintro t rfl
    rw [State.rget_rset_ne _ _ _ _ _ _ hvo, State.rget_rset_ne _ _ _ _ _ _ hva, State.rget_rset_same]
    rfl
  have hfw : ∀ (t : State) (v : Nat), (if k = 1 then (t.rset0 RGR_STATUS.FW_SLOT (t.rget RGR_UPD.ACTIVE 1)).rset0 RGR_STATUS.FW_VER v
      else t).rget RGR_UPD.ACTIVE k = t.rget RGR_UPD.ACTIVE k := by
    intro t v
    split
    · rw [State.rget_rset0_ne _ _ _ _ _ hver, State.rget_rset0_ne _ _ _ _ _ hslot]
    · rfl
  have hnext : ∀ t : State, (if k = 2 then t.rset0 RGR_LMC_PORTS.PORTS (2 ^ 18 - 1 - t.rget RGR_LMC_PORTS.PORTS)
      else if k = 3 then { t with rgr := { t.rgr with libPend := !t.rgr.libPend } } else t).rget RGR_UPD.ACTIVE k =
      t.rget RGR_UPD.ACTIVE k := by
    intro t
    split
    · rw [State.rget_rset0_ne _ _ _ _ _ hports]
    · split <;> rfl
  exact (hnext _).trans ((hfw _ _).trans (hflip _ rfl))

/-- A rollback: the slots flip, and the one that was active is rejected. -/
theorem State.rget_rollback (s : State) {k : Nat} (hk : k < 4) :
    (s.rollback k).rget RGR_UPD.ACTIVE k = (1 - s.rget RGR_UPD.ACTIVE k) % 2 ∧ (s.rollback k).rget RGR_UPD.OTHER k = 4 ∧
      (s.rollback k).rget RGR_UPD.ROLLED k = 1 := by
  have hupd : ∀ f : Field, f.off = 0x700400 → f.stride = 8 → f.lo < 24 → f.key k ∉ [RGR_NVREC.SEQ.key 0, RGR_NVREC.COPY.key 0] := by
    intro f ho hs hl
    simp only [Field.key, ho, hs, RGR_NVREC.SEQ, RGR_NVREC.COPY, List.mem_cons, List.not_mem_nil, or_false]; omega
  have hkey := fun (f g : Field) (h : f.lo % 64 ≠ g.lo % 64) => Field.key_ne_of_lo (f := f) (g := g) k k h
  unfold State.rollback
  refine ⟨?_, ?_, ?_⟩ <;> rw [State.rget_journal_ne _ _ _ (hupd _ rfl rfl (by decide))]
  · rw [State.rget_rset_ne _ _ _ _ _ _ (hkey _ _ (by decide)), State.rget_rset_ne _ _ _ _ _ _ (hkey _ _ (by decide)),
      State.rget_rset_ne _ _ _ _ _ _ (hkey _ _ (by decide)), State.rget_flipSlot_active s hk]
  · rw [State.rget_rset_ne _ _ _ _ _ _ (hkey _ _ (by decide)), State.rget_rset_ne _ _ _ _ _ _ (hkey _ _ (by decide)),
      State.rget_rset_same]
    rfl
  · rw [State.rget_rset_same]; rfl

/-! ### What a reset keeps (R346, R347, R355) -/

/-- A list filtered by its keys lists what it listed at the keys that pass. -/
theorem Assoc.find_filter_key {α : Type} (p : Nat → Bool) (l : Assoc α) (k : Nat) :
    Assoc.find (l.filter fun e => p e.1) k = if p k then Assoc.find l k else none := by
  induction l with
  | nil => simp [Assoc.find]
  | cons e t ih =>
    obtain ⟨a, b⟩ := e
    by_cases hk : k = a
    · subst hk
      by_cases hp : p k <;> simp [Assoc.find, hp, ih]
    · by_cases hp : p a <;> simp [Assoc.find, hp, hk, ih]

/-- A wipe leaves a field that the reset keeps, and gives every other its reset value. -/
theorem State.rget_wipe (s : State) (cold : Bool) (f : Field) (i : Nat) :
    (s.wipe cold).rget f i = if keptOverReset cold (f.key i) then s.rget f i else f.reset := by
  simp only [State.rget, State.wipe, Regs.get, Assoc.get, Assoc.find_filter_key]
  split <;> simp_all

/-- What a reset finds of a start: one that it interrupts has failed (R349). -/
def State.resetMarks (s : State) (cold : Bool) (cause : Nat) : State :=
  if !cold && s.unsettled && decide (cause ≠ 2) && decide (cause ≠ 3) then s.failedStart 0x0D else s

/-- The places that a reset writes after the wipe. -/
def resetKeys : List Nat := [RGR_RESET.FS_BEFORE.key 0, RGR_NVREC.BAD.key 0, RGR_STATUS.MODE.key 0, RGR_STATUS.FAULT_N.key 0, RGR_STATUS.PWR_REQ.key 0]

/-- A reset is a wipe of what it finds, with a few fields written over it. -/
theorem State.rget_resetTo (s : State) (cold : Bool) (cause : Nat) (leave : Bool) (f : Field) (i : Nat) (h : f.key i ∉ resetKeys) :
    (s.resetTo cold cause leave).rget f i =
      if keptOverReset cold (f.key i) then (s.resetMarks cold cause).rget f i else f.reset := by
  simp only [resetKeys, List.mem_cons, List.not_mem_nil, or_false, not_or] at h
  obtain ⟨hfs, hbad, hmode, hfault, hpwr⟩ := h
  have hwiped : ∀ (u : State) (v : Nat), (((u.wipe cold).rset0 RGR_RESET.FS_BEFORE v).rset0 RGR_NVREC.BAD 0).rget f i =
      if keptOverReset cold (f.key i) then u.rget f i else f.reset := fun u v => by
    rw [State.rget_rset0_ne _ _ _ _ _ hbad, State.rget_rset0_ne _ _ _ _ _ hfs, State.rget_wipe]
  rw [← hwiped (s.resetMarks cold cause) (if s.failSafe then 1 else 0)]
  unfold State.resetTo State.resetMarks
  by_cases hstays : (s.bivouac && !leave) = true
  · simp only [hstays, if_true, State.bivouacPins, State.rget_rset0_ne _ _ _ _ _ hpwr, State.rget_rset0_ne _ _ _ _ _ hfault,
      State.rget_rset0_ne _ _ _ _ _ hmode]
  · simp only [hstays]; rfl

/-- A reset leaves what its wipe leaves, but for registers. -/
theorem State.resetTo_eq_wipe (s : State) (cold : Bool) (cause : Nat) (leave : Bool) :
    ∃ regs, s.resetTo cold cause leave = { (s.resetMarks cold cause).wipe cold with regs := regs } := by
  have hwiped : ∀ (u : State) (b : Bool) (v : Nat), ∃ regs,
      (if b then (((u.wipe cold).rset0 RGR_RESET.FS_BEFORE v).rset0 RGR_NVREC.BAD 0).bivouacPins
        else ((u.wipe cold).rset0 RGR_RESET.FS_BEFORE v).rset0 RGR_NVREC.BAD 0) = { u.wipe cold with regs := regs } := by
    rintro u (_ | _) v <;> exact ⟨_, rfl⟩
  exact hwiped _ _ _

theorem State.resetTo_rgr (s : State) (cold : Bool) (cause : Nat) (leave : Bool) :
    (s.resetTo cold cause leave).rgr = (s.resetMarks cold cause).rgr.kept cold := by
  obtain ⟨regs, h⟩ := s.resetTo_eq_wipe cold cause leave
  rw [h]; rfl

theorem State.resetMarks_cold (s : State) (cause : Nat) : s.resetMarks true cause = s := rfl

theorem State.resetMarks_settled {s : State} (h : s.unsettled = false) (cold : Bool) (cause : Nat) : s.resetMarks cold cause = s := by
  simp [State.resetMarks, h]

theorem State.resetMarks_unsettled {s : State} (h : s.unsettled = true) {cause : Nat} (h2 : cause ≠ 2) (h3 : cause ≠ 3) :
    s.resetMarks false cause = s.failedStart 0x0D := by
  simp [State.resetMarks, h, h2, h3]

/-- What a reset finds of a start is the start's marks alone. -/
theorem State.resetMarks_rej (s : State) (cold : Bool) (cause : Nat) : (s.resetMarks cold cause).rgr.rej = s.rgr.rej := by
  unfold State.resetMarks; split <;> rfl

/-! ### The record of a reset (R346, R350, R352, R374) -/

theorem State.recordReset_eq (s : State) (c : Nat) : ∃ regs off,
    s.recordReset c = { s with regs := regs, rgr := { s.rgr with supplyLoss := false, powerOff := off } } := ⟨_, _, rfl⟩

theorem State.rget_recordReset_ne (s : State) (c : Nat) (f : Field) (i : Nat) (h : f.key i ∉ [RGR_RESET.CAUSE.key 0, RGR_BOOTS.COUNT.key 0]) :
    (s.recordReset c).rget f i = s.rget f i := by
  simp only [List.mem_cons, List.not_mem_nil, or_false, not_or] at h
  rw [State.recordReset, State.rget_withRgr, State.rget_rsat_ne _ _ _ _ _ _ h.2, State.rget_rset0_ne _ _ _ _ _ h.1]

/-- A reset after VDD_AO's loss has cause 5. -/
theorem State.rget_recordReset_supplyLoss {s : State} (c : Nat) (h : s.rgr.supplyLoss = true) :
    (s.recordReset c).rget RGR_RESET.CAUSE = 5 := by
  rw [State.recordReset, State.rget_withRgr, State.rget_rsat_ne _ _ _ _ _ _ (by decide), State.rget_rset0_same, h]
  rfl

/-- A reset with no loss of VDD_AO and no thermal shutdown has its own cause. -/
theorem State.rget_recordReset_cause {s : State} {c : Nat} (hc : c < 16) (h : s.rgr.supplyLoss = false) (hp : s.rgr.powerOff = false) :
    (s.recordReset c).rget RGR_RESET.CAUSE = c := by
  rw [State.recordReset, State.rget_withRgr, State.rget_rsat_ne _ _ _ _ _ _ (by decide), State.rget_rset0_same, h, hp]
  exact Nat.mod_eq_of_lt hc

/-- What a power-on reset finds in the record is told in registers and marks. -/
theorem State.powerOnMarks_eq (s : State) : s.powerOnMarks = { s with
    regs := s.powerOnMarks.regs
    rgr := { s.rgr with bivouacFlag := s.powerOnMarks.rgr.bivouacFlag, lastFailed := s.powerOnMarks.rgr.lastFailed,
                        startOpen := s.powerOnMarks.rgr.startOpen } } := by
  unfold State.powerOnMarks
  split
  · rfl
  · split <;> rfl

theorem State.rget_powerOnMarks_ne (s : State) (f : Field) (i : Nat) (h : f.key i ∉ failedStartKeys) :
    s.powerOnMarks.rget f i = s.rget f i := by
  simp only [failedStartKeys, List.mem_cons, List.not_mem_nil, or_false, not_or] at h
  obtain ⟨hf, hs, hc, hr⟩ := h
  unfold State.powerOnMarks
  split
  · rw [State.rget_journal_ne _ _ _ (by simp [hs, hc]), State.rget_withRgr, State.rget_rset0_ne _ _ _ _ _ hf]
  · split
    · rw [State.rget_journal_ne _ _ _ (by simp [hs, hc]), State.rget_withRgr, State.rget_rset0_ne _ _ _ _ _ hr,
        State.rget_rsat_ne _ _ _ _ _ _ hf]
    · rfl

/-- A power cycle that ends Bivouac mode leaves one more attempt (R352). -/
theorem State.powerOnMarks_bivouac {s : State} (h : s.rgr.bivouacFlag = true) (hn : s.rget RGR_RESET.BIVOUAC_N ≤ 7) :
    s.powerOnMarks.rget RGR_RESET.FAILED = s.rget RGR_RESET.BIVOUAC_N - 1 ∧ s.powerOnMarks.rgr.bivouacFlag = false := by
  rw [State.powerOnMarks, if_pos h]
  refine ⟨?_, rfl⟩
  rw [State.rget_journal_ne _ _ _ (by decide), State.rget_withRgr, State.rget_rset0_same]
  exact Nat.mod_eq_of_lt (show _ < 8 by omega)

/-- A start that the loss of power interrupted has failed (R350). -/
theorem State.powerOnMarks_open {s : State} (h : s.rgr.bivouacFlag = false) (ho : s.rgr.startOpen = true) :
    s.powerOnMarks.rget RGR_RESET.FAILED = Nat.min (s.rget RGR_RESET.FAILED + 1) 7 ∧ s.powerOnMarks.rget RGR_BOOT.REASON = 0x0D := by
  rw [State.powerOnMarks, if_neg (by simp [h]), if_pos ho]
  constructor <;> rw [State.rget_journal_ne _ _ _ (by decide), State.rget_withRgr]
  · rw [State.rget_rset0_ne _ _ _ _ _ (by decide), State.rget_rsat_same]; rfl
  · rw [State.rget_rset0_same]; rfl

theorem State.powerOnMarks_none {s : State} (h : s.rgr.bivouacFlag = false) (ho : s.rgr.startOpen = false) : s.powerOnMarks = s := by
  simp [State.powerOnMarks, h, ho]

/-! ### The Guyline bypass, sleeping regions and replies: what is no register of the Ranger's -/

/-- A step that leaves every register of the Ranger's block, but for places whose bit is 4, which the drain counts of the
gates have. -/
def rangerKept (s t : State) : Prop := ∀ f i, 0x700000 * 64 ≤ f.key i → f.key i % 64 ≠ 4 → t.rget f i = s.rget f i

theorem rangerKept.refl (s : State) : rangerKept s s := fun _ _ _ _ => rfl

theorem rangerKept.trans {s t u : State} (h : rangerKept s t) (h' : rangerKept t u) : rangerKept s u :=
  fun f i h1 h2 => (h' f i h1 h2).trans (h f i h1 h2)

theorem rangerKept_of_regs {s t : State} (h : t.regs = s.regs) : rangerKept s t := fun f i _ _ => State.rget_of_regs h f i

theorem rangerKept_rset (s : State) (g : Field) (j v : Nat) (h : g.key j < 0x700000 * 64 ∨ g.key j % 64 = 4) :
    rangerKept s (s.rset g j v) := fun f i h1 h2 => State.rget_rset_ne s g f j i v (by rintro e; rw [e] at h1 h2; omega)

theorem rangerKept_foldl {α : Type} (g : State → α → State) (l : List α) (h : ∀ s, ∀ a ∈ l, rangerKept s (g s a)) (s : State) :
    rangerKept s (l.foldl g s) :=
  List.foldlRecOn l g (motive := rangerKept s) (rangerKept.refl s) fun _ hb a ha => hb.trans (h _ a ha)

end Sys2Proof.Machine
end

section
/-! The fail-safe state's entry (R329 to R332, R374) as the Ranger's registers show it. -/
namespace Sys2Proof.Machine
open Sys2Proof.Safety

theorem rangerKept_drain (s : State) (r v : Nat) : rangerKept s (s.rset FAB_GATE.DRAIN r v) :=
  rangerKept_rset _ _ _ _ (.inr (by simp only [Field.key, FAB_GATE.DRAIN]; omega))

theorem rangerKept_showDrain (s : State) (rs : List Nat) : rangerKept s (s.showDrain rs) :=
  rangerKept_foldl _ _ (fun t r _ => by
    split
    · exact rangerKept_drain _ _ _
    · exact rangerKept.refl t) s

theorem rangerKept_tel (s : State) (k n : Nat) : rangerKept s (s.tel k n) := by
  unfold State.tel
  split <;> exact rangerKept_of_regs rfl

theorem rangerKept_reply (s : State) (h : HostCmd) (o st d r0 r1 : Nat) : rangerKept s (s.reply h o st d r0 r1) := by
  have hcount : ∀ v, rangerKept s ((s.rset0 HOST_INFLIGHT.COUNT v).cpFree h) := fun v =>
    (rangerKept_rset s HOST_INFLIGHT.COUNT 0 v (by decide)).trans (rangerKept_of_regs rfl)
  unfold State.reply
  dsimp only
  split
  · exact (hcount _).trans (rangerKept_of_regs rfl)
  · exact ((hcount _).trans (rangerKept_of_regs rfl)).trans (rangerKept_tel _ _ _)

theorem rangerKept_flushWaits (s : State) (st : Nat) : rangerKept s (s.flushWaits st) := by
  unfold State.flushWaits
  refine rangerKept.trans ?_ (rangerKept_foldl _ _ ?_ _)
  · exact rangerKept_of_regs rfl
  · intro t w _
    exact rangerKept_reply t w.cmd w.opcode st 0 w.r0 w.r1

theorem rangerKept_stopCopies (s : State) (p : HostCmd → Bool) : rangerKept s (s.stopCopies p) :=
  (rangerKept_of_regs rfl).trans (rangerKept_showDrain _ _)

theorem rangerKept_withholdAll (s : State) : rangerKept s s.withholdAll := by
  unfold State.withholdAll
  refine ((rangerKept_stopCopies s fun _ => true).trans ?_).trans (rangerKept_foldl _ _ ?_ _)
  · exact rangerKept_of_regs rfl
  · intro t e _
    exact rangerKept_reply t e.1 e.2 0x0F 0 0 0

theorem rangerKept_powerCut (s : State) (r : Nat) : rangerKept s (s.powerCut r) := by
  unfold State.powerCut
  dsimp only
  split <;> exact rangerKept_of_regs rfl

theorem rangerKept_pstateTo (s : State) {r : Nat} (p : Nat) (hr : r < 288) : rangerKept s (s.pstateTo r p) := by
  have hset := rangerKept_rset s PWR_REGION.PSTATE r p (.inl (by simp only [Field.key, PWR_REGION.PSTATE]; omega))
  unfold State.pstateTo
  dsimp only
  split
  · exact hset.trans (rangerKept_powerCut _ _)
  · split
    · exact hset.trans (rangerKept_of_regs rfl)
    · exact hset

theorem rangerKept_regionTo (s : State) {r : Nat} (p : Nat) (hr : r < 288) : rangerKept s (s.regionTo r p) := by
  have hgate : ∀ (t : State) (v : Nat), rangerKept t (t.rset FAB_GATE.STATE r v) := fun t v =>
    rangerKept_rset _ _ _ _ (.inl (by simp only [Field.key, FAB_GATE.STATE]; omega))
  exact (((rangerKept_of_regs rfl).trans (rangerKept_pstateTo (s.setRegion r { s.region r with target := p }) _ hr)).trans
    (hgate _ _)).trans (rangerKept_drain _ _ _)

theorem rangerKept_allCores (s : State) (p : Nat) : rangerKept s (s.allCores p) := by
  refine rangerKept_foldl _ _ (fun t r hr => ?_) s
  have hr288 : r < 288 := List.mem_range.1 (List.mem_filter.1 hr).1
  exact ((rangerKept_of_regs rfl).trans (rangerKept_regionTo (t.setRegion r { t.region r with sleep := none }) p hr288)).trans
    (rangerKept_rset _ _ _ _ (.inl (by simp only [Field.key, PWR_REGION.SCHED]; omega)))

theorem rangerKept_closeBypass (s : State) : rangerKept s s.closeBypass := by
  unfold State.closeBypass
  split
  · exact rangerKept.refl s
  · exact (rangerKept_rset s GL_STATUS.BYPASS 0 1 (by decide)).trans fun f i h1 _ =>
      State.rget_event_ne _ _ _ _ _ _ (by rintro e; rw [e] at h1; exact absurd h1 (by decide))

/-- The entry into the fail-safe state records its cause (R329, R332). -/
def State.failSafeCause (s : State) (cause region : Nat) : State :=
  let t := (((s.abortFrame.rset0 RGR_STATUS.MODE 1).rset0 RGR_FS.CAUSE cause).rset0 RGR_FS.REGION region).rset0 RGR_FS.MORE 0
  t.rset0 RGR_FS_GST.GST t.gst

/-- What the entry into the fail-safe state does after it has recorded its cause (R330, R331). -/
def State.failSafeRest (s : State) : State :=
  (((((s.closeBypass.rset0 RGR_STATUS.FAULT_N 0).rset0 RGR_STATUS.PWR_REQ 0).emit (.ibi 0x01)).rset0 ROLL_STATUS.STATE 2).allCores 4
    |>.flushWaits 0x0F).withholdAll.journal

theorem State.enterFailSafe_of_not {s : State} (h : s.failSafe = false) (cause region : Nat) :
    s.enterFailSafe cause region =
      if s.unsettled && decide (cause ≠ 0x44) then (s.failSafeCause cause region).failSafeRest.failedStart 0x0C
      else (s.failSafeCause cause region).failSafeRest := if_neg (by simp [h])

theorem State.rget_failSafeRest (s : State) (f : Field) (i : Nat) (h : 0x700000 * 64 ≤ f.key i) (h4 : f.key i % 64 ≠ 4)
    (hne : f.key i ∉ [RGR_STATUS.FAULT_N.key 0, RGR_STATUS.PWR_REQ.key 0, RGR_NVREC.SEQ.key 0, RGR_NVREC.COPY.key 0]) :
    s.failSafeRest.rget f i = s.rget f i := by
  simp only [List.mem_cons, List.not_mem_nil, or_false, not_or] at hne
  obtain ⟨hf, hp, hs, hc⟩ := hne
  have hroll : f.key i ≠ ROLL_STATUS.STATE.key 0 := by rintro e; rw [e] at h; exact absurd h (by decide)
  rw [State.failSafeRest, State.rget_journal_ne _ _ _ (by simp [hs, hc]), rangerKept_withholdAll _ _ _ h h4, rangerKept_flushWaits _ _ _ _ h h4,
    rangerKept_allCores _ _ _ _ h h4, State.rget_rset0_ne _ _ _ _ _ hroll, State.emit_rget, State.rget_rset0_ne _ _ _ _ _ hp,
    State.rget_rset0_ne _ _ _ _ _ hf, rangerKept_closeBypass _ _ _ h h4]

/-- A first cause takes the device into the fail-safe state and is recorded (R329, R330). -/
theorem State.enterFailSafe_first {s : State} (h : s.failSafe = false) {cause : Nat} (region : Nat) (hc : cause < 256) :
    (s.enterFailSafe cause region).rget RGR_STATUS.MODE = 1 ∧ (s.enterFailSafe cause region).rget RGR_FS.CAUSE = cause := by
  have hmode : (s.failSafeCause cause region).failSafeRest.rget RGR_STATUS.MODE = 1 := by
    rw [State.rget_failSafeRest _ _ _ (by decide) (by decide) (by decide)]
    simp (disch := decide) only [State.failSafeCause, State.rget_rset0_ne, State.rget_rset0_same]
    rfl
  have hcause : (s.failSafeCause cause region).failSafeRest.rget RGR_FS.CAUSE = cause := by
    rw [State.rget_failSafeRest _ _ _ (by decide) (by decide) (by decide)]
    simp (disch := decide) only [State.failSafeCause, State.rget_rset0_ne, State.rget_rset0_same]
    exact Nat.mod_eq_of_lt hc
  rw [State.enterFailSafe_of_not h]
  split
  · exact ⟨(State.rget_failedStart_ne _ _ _ _ (by decide)).trans hmode, (State.rget_failedStart_ne _ _ _ _ (by decide)).trans hcause⟩
  · exact ⟨hmode, hcause⟩

end Sys2Proof.Machine
end

section
/-! The crossings' calibration and the phases of a start (R29, R348 to R351). -/
namespace Sys2Proof.Machine
open Sys2Proof.Safety

/-! ### Calibration (R29) -/

/-- A crossing after calibration is measured by its own probes, in their order. -/
theorem State.xing_calibrate (s : State) (ps : List (Nat × Nat × Nat)) (i : Nat) :
    Assoc.get ({} : Xing) (s.calibrate ps).clk.xings i =
      (ps.filter fun e => decide (e.1 = i)).foldl (fun x e => x.measure e.2.1 e.2.2) (Assoc.get {} s.clk.xings i) := by
  simp only [State.calibrate]
  generalize s.clk.xings = m
  induction ps generalizing m with
  | nil => rfl
  | cons e ps ih =>
    rw [List.foldl_cons, ih, List.filter_cons, Assoc.get_put]
    by_cases h : e.1 = i
    · simp [h]
    · simp [h, Ne.symm h]

/-- A crossing with one probe is measured by it. -/
theorem State.xing_calibrate_one {s : State} {ps : List (Nat × Nat × Nat)} {i lo hi : Nat}
    (h : ps.filter (fun e => decide (e.1 = i)) = [(i, lo, hi)]) :
    Assoc.get ({} : Xing) (s.calibrate ps).clk.xings i = (Assoc.get {} s.clk.xings i).measure lo hi := by
  rw [State.xing_calibrate, h]; rfl

/-- A crossing without a probe fails the calibration. -/
theorem State.allCalibrated_false_of_missing {s : State} {ps : List (Nat × Nat × Nat)} {i : Nat} (hi : i < s.rget CLK_XING_COUNT.COUNT)
    (h : ∀ e ∈ ps, e.1 ≠ i) : s.allCalibrated ps = false := by
  refine List.all_eq_false.2 ⟨i, List.mem_range.2 hi, ?_⟩
  have hany : (ps.any fun e => decide (e.1 = i)) = false := List.any_eq_false.2 fun e he => by simpa using h e he
  simp [hany]

/-- A crossing that does not pass fails the calibration. -/
theorem State.allCalibrated_false_of_bad {s : State} {ps : List (Nat × Nat × Nat)} {i : Nat} (hi : i < s.rget CLK_XING_COUNT.COUNT)
    (h : (Assoc.get ({} : Xing) s.clk.xings i).ok = false) : s.allCalibrated ps = false :=
  List.all_eq_false.2 ⟨i, List.mem_range.2 hi, by simp [h]⟩

/-- At the start edge every region stands at tick 0. -/
theorem State.startEdge_tick (s : State) (r : Nat) : (s.startEdge.region r).tick = 0 := by
  simp only [State.region, State.startEdge, Assoc.get]
  generalize s.clk.regions = m
  induction m with
  | nil => rfl
  | cons e m ih =>
    simp only [List.map_cons, Assoc.find]
    split
    · rfl
    · exact ih

/-! ### Bivouac mode and the rails (R344, R350, R351) -/

/-- Bivouac mode is entered with its reason and its flag. -/
theorem State.enterBivouac_spec (s : State) (reason : Nat) :
    (s.enterBivouac reason).bivouac = true ∧ (s.enterBivouac reason).rget RGR_BOOT.BIV_REASON = reason % 256 ∧
      (s.enterBivouac reason).rgr.bivouacFlag = true ∧ (s.enterBivouac reason).rgr.starting = false := by
  have hrgr : ∀ t : State, t.closeBypass.rgr = t.rgr := fun t => by unfold State.closeBypass; split <;> rfl
  refine ⟨decide_eq_true ?_, ?_, ?_, ?_⟩
  · rw [State.enterBivouac, State.emit_rget, rangerKept_closeBypass _ _ _ (by decide) (by decide), State.rget_rset0_ne _ _ _ _ _ (by decide)]
    simp (disch := decide) only [State.bivouacPins, State.rget_rset0_ne, State.rget_rset0_same]
    rfl
  · rw [State.enterBivouac, State.emit_rget, rangerKept_closeBypass _ _ _ (by decide) (by decide), State.rget_rset0_same]
    rfl
  · exact congrArg Rgr.bivouacFlag (hrgr _)
  · exact congrArg Rgr.starting (hrgr _)

theorem State.rget_leaveBivouac_ne (s : State) (f : Field) (i : Nat)
    (h : f.key i ∉ [RGR_STATUS.MODE.key 0, RGR_BOOT.BIV_REASON.key 0, RGR_NVREC.SEQ.key 0, RGR_NVREC.COPY.key 0]) :
    s.leaveBivouac.rget f i = s.rget f i := by
  simp only [List.mem_cons, List.not_mem_nil, or_false, not_or] at h
  obtain ⟨hm, hb, hs, hc⟩ := h
  unfold State.leaveBivouac
  dsimp only
  split
  · rw [State.rget_journal_ne _ _ _ (by simp [hs, hc]), State.rget_withRgr, State.rget_rset0_ne _ _ _ _ _ hb, State.rget_rset0_ne _ _ _ _ _ hm]
  · rw [State.rget_rset0_ne _ _ _ _ _ hb, State.rget_rset0_ne _ _ _ _ _ hm]

theorem State.rget_leaveBivouac_mode (s : State) : s.leaveBivouac.rget RGR_STATUS.MODE = 0 := by
  unfold State.leaveBivouac
  dsimp only
  split
  · rw [State.rget_journal_ne _ _ _ (by decide), State.rget_withRgr, State.rget_rset0_ne _ _ _ _ _ (by decide), State.rget_rset0_same]; rfl
  · rw [State.rget_rset0_ne _ _ _ _ _ (by decide), State.rget_rset0_same]; rfl

theorem State.rget_setRail_ne (s : State) (die : Nat) (f : Field) (i : Nat) (h : f.key i ≠ RGR_AVS.TARGET_MV.key die) :
    (s.setRail die).rget f i = s.rget f i := by
  unfold State.setRail
  dsimp only
  split
  · rfl
  · rw [State.emit_rget, State.rget_rset_ne _ _ _ _ _ _ h]

theorem State.rget_raiseRails_ne (s : State) (f : Field) (i : Nat)
    (h : f.key i ∉ [RGR_AVS.TARGET_MV.key 0, RGR_AVS.TARGET_MV.key 1, RGR_AVS.TARGET_MV.key 2, RGR_STATUS.PWR_REQ.key 0, RGR_STATUS.FAULT_N.key 0]) :
    s.raiseRails.rget f i = s.rget f i := by
  simp only [List.mem_cons, List.not_mem_nil, or_false, not_or] at h
  obtain ⟨h0, h1, h2, hp, hf⟩ := h
  rw [State.raiseRails, State.rget_rset0_ne _ _ _ _ _ hf, State.rget_rset0_ne _ _ _ _ _ hp, State.rget_setRail_ne _ _ _ _ h1,
    State.rget_setRail_ne _ _ _ _ h0, State.emit_rget, State.rget_rset_ne _ _ _ _ _ _ h2]

theorem State.raiseRails_request (s : State) :
    s.raiseRails.rget RGR_STATUS.PWR_REQ = 1 ∧ s.raiseRails.rget RGR_AVS.TARGET_MV 2 = 750 := by
  constructor
  · rw [State.raiseRails, State.rget_rset0_ne _ _ _ _ _ (by decide), State.rget_rset0_same]; rfl
  · rw [State.raiseRails, State.rget_rset0_ne _ _ _ _ _ (by decide), State.rget_rset0_ne _ _ _ _ _ (by decide),
      State.rget_setRail_ne _ _ _ _ (by decide), State.rget_setRail_ne _ _ _ _ (by decide), State.emit_rget, State.rget_rset_same]; rfl

/-! ### READY (R348) -/

/-- A port's bring-up leaves READY_MS and where the start stands. -/
theorem State.bringUp_ready (s : State) (p : Nat) :
    (s.bringUp p).rget RGR_BOOT.READY_MS = s.rget RGR_BOOT.READY_MS ∧ (s.bringUp p).rgr.ready = s.rgr.ready ∧
      (s.bringUp p).rgr.starting = s.rgr.starting := by
  have hstate : RGR_BOOT.READY_MS.key 0 ≠ KL_PORT_STATUS.STATE.key p := Field.key_ne_of_lo _ _ (by decide)
  have htrial : ∀ t : State, (t.trialStart 2).rgr.ready = t.rgr.ready ∧ (t.trialStart 2).rgr.starting = t.rgr.starting := fun t => by
    rw [State.trialStart_eq]; exact ⟨rfl, rfl⟩
  refine ⟨?_, (htrial _).1, (htrial _).2⟩
  rw [State.bringUp, State.sendTs1, State.emit_rget, State.rget_rset0_ne _ _ _ _ _ (by decide), State.rget_trialStart_ne _ _ _ _ (by decide),
    State.rget_rset_ne _ _ _ _ _ _ hstate, State.setPort_rget]

theorem State.reachReady_spec (s : State) {e : Nat} (h : e ≤ 2000) :
    (s.reachReady e).rgr.ready = true ∧ (s.reachReady e).rgr.starting = false ∧ (s.reachReady e).rget RGR_BOOT.READY_MS = e := by
  refine List.foldlRecOn _ _ (motive := fun t : State => t.rgr.ready = true ∧ t.rgr.starting = false ∧ t.rget RGR_BOOT.READY_MS = e)
    ⟨rfl, rfl, ?_⟩ fun t ht p _ => ?_
  · rw [State.rget_withRgr, State.rget_rset0_same]
    exact Nat.mod_eq_of_lt (show e < 65536 by omega)
  · obtain ⟨hms, hready, hstarting⟩ := t.bringUp_ready p
    exact ⟨hready.trans ht.1, hstarting.trans ht.2.1, hms.trans ht.2.2⟩

end Sys2Proof.Machine
end

section
/-! The commands of a start, one lemma per outcome (R12, R29, R348 to R351, R357, R369). -/
namespace Sys2Proof.Machine
open Sys2Proof.Safety

/-! ### What each command runs -/

theorem exec_b0_eq (a b c d : Bool) (s : State) : exec (.b0 a b c d) s = execB0 a b c d s := rfl
theorem exec_b1_eq (a : Bool) (s : State) : exec (.b1 a) s = execB1 a s := rfl
theorem exec_b2_eq (a : Bool) (ps : List (Nat × Nat × Nat)) (s : State) : exec (.b2 a ps) s = execB2 a ps s := rfl
theorem exec_b3_eq (x y : BitVec 12) (a : Bool) (s : State) : exec (.b3 x y a) s = execB3 x y a s := rfl
theorem exec_b4_eq (a b : Bool) (s : State) : exec (.b4 a b) s = execB4 a b s := rfl
theorem exec_b5_eq (a b c d : Bool) (e : Nat) (s : State) : exec (.b5 a b c d e) s = execB5 a b c d e s := rfl
theorem exec_readyTimeout_eq (s : State) : exec .readyTimeout s = execReadyTimeout s := rfl
theorem exec_start_eq (s : State) : exec .start s = execStart s := rfl
theorem exec_bootRetry_eq (s : State) : exec .bootRetry s = execBootRetry s := rfl
theorem exec_sysRstN_eq (s : State) : exec .sysRstN s = execSysRstN s := rfl
theorem exec_sysRstNAsserted_eq (s : State) : exec .sysRstNAsserted s = execSysRstNAsserted s := rfl
theorem exec_railOutOfRange_eq (r : Nat) (s : State) : exec (.railOutOfRange r) s = execRailOutOfRange r s := rfl
theorem exec_jtagInstruction_eq (ir off v : Nat) (s : State) :
    exec (.jtagInstruction ir off v) s = execJtagInstruction ir off v s := rfl

theorem State.atPhase_of {s : State} {k : Nat} (hs : s.rgr.starting = true) (hk : s.rgr.nextPhase = k) : s.atPhase k = true := by
  simp [State.atPhase, hs, hk]

theorem State.atPhase_of_not_starting {s : State} (hs : s.rgr.starting = false) (k : Nat) : s.atPhase k = false := by
  simp [State.atPhase, hs]

@[simp] theorem State.rget_phaseDone (s : State) (k : Nat) (f : Field) (i : Nat) : (s.phaseDone k).rget f i = s.rget f i := rfl

/-- No phase runs while no start does. -/
theorem exec_phase_of_not_starting {s : State} (hs : s.rgr.starting = false) (a b c d : Bool) (x y : BitVec 12)
    (ps : List (Nat × Nat × Nat)) (e : Nat) :
    exec (.b0 a b c d) s = .next s ∧ exec (.b1 a) s = .next s ∧ exec (.b2 a ps) s = .next s ∧ exec (.b3 x y a) s = .next s ∧
      exec (.b4 a b) s = .next s ∧ exec (.b5 a b c d e) s = .next s ∧ exec .readyTimeout s = .next s := by
  have h := State.atPhase_of_not_starting hs
  refine ⟨?_, ?_, ?_, ?_, ?_, ?_, ?_⟩
  · simp [exec_b0_eq, execB0, h]
  · simp [exec_b1_eq, execB1, h]
  · simp [exec_b2_eq, execB2, h]
  · simp [exec_b3_eq, execB3, h]
  · simp [exec_b4_eq, execB4, h]
  · simp [exec_b5_eq, execB5, h]
  · simp [exec_readyTimeout_eq, execReadyTimeout, hs]

/-! ### B0 (R12, R348, R357, R369) -/

theorem State.bootTrial_none {s : State} (h : s.rgr.trialBad = []) (k : Nat) : s.bootTrial k = s := by
  simp [State.bootTrial, h]

theorem State.rget_assignCores_ne (s : State) (f : Field) (i : Nat) (h : f.key i ≠ IDENT_COUNTS.LCORES.key 0) :
    s.assignCores.rget f i = s.rget f i := by
  unfold State.assignCores
  exact State.rget_rset0_ne _ _ _ _ _ h

/-- The first boot numbers the cores, and leaves every other register but the journal's. -/
theorem State.firstBoot_spec (s : State) :
    s.firstBoot.rgr = { s.rgr with numbered := true } ∧
      s.firstBoot.coreMap = (if s.rgr.numbered then s.coreMap else s.assignCores.coreMap) ∧
      s.firstBoot.rget RGR_UPD.ACTIVE 1 = s.rget RGR_UPD.ACTIVE 1 := by
  unfold State.firstBoot
  split
  · rename_i h
    exact ⟨by rw [← h], rfl, rfl⟩
  · refine ⟨rfl, by rw [State.journal_coreMap], ?_⟩
    rw [State.rget_journal_ne _ _ _ (by decide), State.rget_withRgr, State.rget_assignCores_ne _ _ _ (by decide)]

section
variable {s : State} (hp : s.atPhase 0 = true)
include hp

theorem exec_b0_fails {fuses test : Bool} (a b : Bool) (h : (!fuses || test || s.rgr.testEn) = true) :
    exec (.b0 fuses a b test) s = .next (s.failedStart 0x02) := by
  simp [exec_b0_eq, execB0, hp, h]

variable (hbad : s.rgr.trialBad = []) (hact : s.rget RGR_UPD.ACTIVE 1 = 0) (htest : s.rgr.testEn = false)
include hbad hact htest

theorem exec_b0_active (b : Bool) : exec (.b0 true true b false) s = .next ((s.firstBoot.trialStart 1).phaseDone 0) := by
  obtain ⟨hrgr, -, hact'⟩ := s.firstBoot_spec
  simp [exec_b0_eq, execB0, hp, htest, State.bootTrial_none (s := s.firstBoot) (by rw [hrgr]; exact hbad), hact', hact, State.bootImage]

theorem exec_b0_other : exec (.b0 true false true false) s = .next ((s.firstBoot.bootRollback 1).phaseDone 0) := by
  obtain ⟨hrgr, -, hact'⟩ := s.firstBoot_spec
  simp [exec_b0_eq, execB0, hp, htest, State.bootTrial_none (s := s.firstBoot) (by rw [hrgr]; exact hbad), hact', hact, State.bootImage]

theorem exec_b0_none :
    exec (.b0 true false false false) s = .next ((s.firstBoot.rset0 RGR_BOOT.REASON 0x01).enterBivouac 0x01) := by
  obtain ⟨hrgr, -, hact'⟩ := s.firstBoot_spec
  simp [exec_b0_eq, execB0, hp, htest, State.bootTrial_none (s := s.firstBoot) (by rw [hrgr]; exact hbad), hact', hact, State.bootImage]

end

/-! ### B1 to B5 (R29, R348, R351, R357) -/

/-- B1's state when it makes the Bivouac check, with no trial to judge. -/
def State.b1Check (s : State) : State :=
  { s.rset0 RGR_BOOT.PHASE 1 with rgr := { s.rgr with trialBad := [], lastFailed := false } }

theorem State.rget_b1Check_ne (s : State) (f : Field) (i : Nat) (h : f.key i ≠ RGR_BOOT.PHASE.key 0) :
    s.b1Check.rget f i = s.rget f i := State.rget_rset0_ne s RGR_BOOT.PHASE f i 1 h

theorem exec_b1 {s : State} (hp : s.atPhase 1 = true) (hbad : s.rgr.trialBad = []) (rails : Bool) :
    exec (.b1 rails) s = .next (
      if s.rget RGR_RESET.BIVOUAC_N ≤ s.rget RGR_RESET.FAILED then s.b1Check.enterBivouac (s.rget RGR_BOOT.REASON)
      else if rails then s.b1Check.leaveBivouac.raiseRails.phaseDone 1 else s.b1Check.leaveBivouac.raiseRails.failedStart 0x03) := by
  have htrial : ∀ k, (s.rset0 RGR_BOOT.PHASE 1).bootTrial k = s.rset0 RGR_BOOT.PHASE 1 := State.bootTrial_none hbad
  have hkeep := s.rget_b1Check_ne
  rw [← hkeep RGR_RESET.BIVOUAC_N 0 (by decide), ← hkeep RGR_RESET.FAILED 0 (by decide), ← hkeep RGR_BOOT.REASON 0 (by decide)]
  simp only [exec_b1_eq, execB1, hp, List.foldl_cons, List.foldl_nil, htrial]
  rfl

/-- B2's state when all its crossings have been measured. -/
def State.b2Measured (s : State) (ps : List (Nat × Nat × Nat)) : State := (s.rset0 RGR_BOOT.PHASE 2).startEdge.calibrate ps

theorem exec_b2 {s : State} (hp : s.atPhase 2 = true) (settled : Bool) (ps : List (Nat × Nat × Nat)) :
    exec (.b2 settled ps) s = .next (
      if settled then
        if (s.b2Measured ps).allCalibrated ps then (s.b2Measured ps).phaseDone 2 else (s.b2Measured ps).failedStart 0x05
      else (s.rset0 RGR_BOOT.PHASE 2).failedStart 0x04) := by
  cases settled
  · simp [exec_b2_eq, execB2, hp]
  · simp only [exec_b2_eq, execB2, hp]; rfl

theorem State.rget_b2Measured_ne (s : State) (ps : List (Nat × Nat × Nat)) (f : Field) (i : Nat) (h : f.key i ≠ RGR_BOOT.PHASE.key 0) :
    (s.b2Measured ps).rget f i = s.rget f i := State.rget_rset0_ne s RGR_BOOT.PHASE f i 2 h

/-- B2 with crossings that do not all pass. -/
theorem exec_b2_fails {s : State} (hp : s.atPhase 2 = true) {ps : List (Nat × Nat × Nat)} (h : (s.b2Measured ps).allCalibrated ps = false) :
    ∃ t : State, exec (.b2 true ps) s = .next t ∧ startFailed s t 0x05 :=
  ⟨_, by rw [exec_b2 hp, h]; rfl, State.startFailed_failedStart (by decide) (s.rget_b2Measured_ne ps _ _ (by decide))⟩

/-- B2 passes when every crossing's one probe passes. -/
theorem State.b2Measured_passes {s : State} {ps : List (Nat × Nat × Nat)}
    (h : ∀ i, i < s.rget CLK_XING_COUNT.COUNT → ∃ lo hi, ps.filter (fun e => decide (e.1 = i)) = [(i, lo, hi)] ∧ hi ≤ lo + 3 ∧ hi ≤ 30) :
    (s.b2Measured ps).allCalibrated ps = true := by
  refine List.all_eq_true.2 fun i hi => ?_
  rw [List.mem_range, s.rget_b2Measured_ne ps _ _ (by decide)] at hi
  obtain ⟨lo, hi', hf, h3, h30⟩ := h i hi
  have hmem : (i, lo, hi') ∈ ps := (List.mem_filter.1 (hf ▸ List.mem_singleton.2 rfl : (i, lo, hi') ∈ ps.filter _)).1
  have hok : (Assoc.get ({} : Xing) (s.b2Measured ps).clk.xings i).ok = true := by
    rw [State.b2Measured, State.xing_calibrate_one hf]; simp [Xing.measure, h3, h30]
  rw [hok, Bool.and_true]
  exact List.any_eq_true.2 ⟨_, hmem, by simp⟩

theorem exec_b3_ids {s : State} (hp : s.atPhase 3 = true) (x y : BitVec 12) (f : Bool) (h : x ≠ BitVec.allOnes 12) :
    exec (.b3 x y f) s = .next ((s.rset0 RGR_BOOT.PHASE 3).failedStart 0x06) := by
  have h' : x ≠ 4095#12 := h
  simp [exec_b3_eq, execB3, hp, h']

theorem exec_b3_untrained {s : State} (hp : s.atPhase 3 = true) (y : BitVec 12) (f : Bool) (h : y ≠ BitVec.allOnes 12) :
    exec (.b3 (BitVec.allOnes 12) y f) s =
      .next (((s.rset0 RGR_BOOT.PHASE 3).rset0 MEM_STATUS.TRAINED y.toNat).failedStart 0x07) := by
  have h' : y ≠ 4095#12 := h
  simp [exec_b3_eq, execB3, hp, h']

/-- B3's state when the stacks have been trained: the memory keys are new. -/
def State.b3Trained (s : State) (full : Bool) : State :=
  { (((s.rset0 RGR_BOOT.PHASE 3).rset0 MEM_STATUS.TRAINED 4095).rset0 MEM_STATUS.FULL_RATE (if full then 1 else 0)).rinc
      MEM_CRYPT.KEY_EPOCH 0 with mem := {} }

theorem exec_b3_trained {s : State} (hp : s.atPhase 3 = true) (f : Bool) :
    exec (.b3 (BitVec.allOnes 12) (BitVec.allOnes 12) f) s = .next ((s.b3Trained f).phaseDone 3) := by
  simp [exec_b3_eq, execB3, hp, State.b3Trained]

theorem exec_b4_active {s : State} (hp : s.atPhase 4 = true) (b : Bool) :
    exec (.b4 true b) s = .next (((s.rset0 RGR_BOOT.PHASE 4).trialStart 0).phaseDone 4) := by
  simp [exec_b4_eq, execB4, hp, State.bootImage]

theorem exec_b4_other {s : State} (hp : s.atPhase 4 = true) :
    exec (.b4 false true) s = .next (((s.rset0 RGR_BOOT.PHASE 4).bootRollback 0).phaseDone 4) := by
  simp [exec_b4_eq, execB4, hp, State.bootImage]

theorem exec_b4_none {s : State} (hp : s.atPhase 4 = true) :
    exec (.b4 false false) s = .next ((s.rset0 RGR_BOOT.PHASE 4).failedStart 0x08) := by
  simp [exec_b4_eq, execB4, hp, State.bootImage]

theorem exec_b5_noLink {s : State} (hp : s.atPhase 5 = true) (a b : Bool) (e : Nat) :
    exec (.b5 false false a b e) s = .next ((s.rset0 RGR_BOOT.PHASE 5).failedStart 0x09) := by
  simp [exec_b5_eq, execB5, hp]

theorem exec_b5_noLibrary {s : State} (hp : s.atPhase 5 = true) (b : Bool) (e : Nat) :
    exec (.b5 true b false false e) s = .next ((s.rset0 RGR_BOOT.PHASE 5).failedStart 0x0A) := by
  simp [exec_b5_eq, execB5, hp, State.bootImage]

theorem exec_b5_images {s : State} (hp : s.atPhase 5 = true) (b c : Bool) (e : Nat) :
    exec (.b5 true b true c e) s = .next (
      if 2000 < e then ((s.rset0 RGR_BOOT.PHASE 5).trialStart 3).failedStart 0x0B
      else ((s.rset0 RGR_BOOT.PHASE 5).trialStart 3).reachReady e) := by
  simp [exec_b5_eq, execB5, hp, State.bootImage]

end Sys2Proof.Machine
end

section
/-! The resets that make a start due, and the start itself (R333, R346 to R352, R374). -/
namespace Sys2Proof.Machine
open Sys2Proof.Safety

/-! ### POWER_ON_RESET (R8, R346, R350, R352, R355) -/

/-- What a power-on reset finds, before the Ranger records it. -/
def State.poweredOn (s : State) (bad : Bool) : State := ((s.resetTo true 0 true).copyFound bad).powerOnMarks

/-- What a power-on reset leaves. -/
def State.powerOn (s : State) (bad : Bool) : State :=
  let t := (s.poweredOn bad).recordReset 0
  { t with rgr := { t.rgr with sysRst := false, rstCause := 0, startDue := true } }

theorem exec_powerOnReset (s : State) (bad : Bool) : exec (.powerOnReset bad) s = .next (s.powerOn bad) := rfl

theorem State.copyFound_rgr (s : State) (bad : Bool) : ((s.resetTo true 0 true).copyFound bad).rgr = s.rgr.kept true :=
  s.resetTo_rgr true 0 true

/-- The Ranger's own state after a power-on reset is its record with the start's marks. -/
theorem State.poweredOn_eq (s : State) (bad : Bool) : ∃ regs flag failed opened, s.poweredOn bad =
    { s.wipe true with regs := regs, rgr := { s.rgr.kept true with bivouacFlag := flag, lastFailed := failed, startOpen := opened } } := by
  obtain ⟨regs, hreset⟩ := s.resetTo_eq_wipe true 0 true
  have hmarks := ((s.resetTo true 0 true).copyFound bad).powerOnMarks_eq
  rw [State.poweredOn, hmarks, State.copyFound_rgr, State.copyFound, hreset]
  exact ⟨_, _, _, _, rfl⟩

/-- A power-on reset loses all but the queue and the record. -/
theorem State.powerOn_loses (s : State) (bad : Bool) : (s.powerOn bad).rgr.sysRst = false ∧ (s.powerOn bad).rgr.startDue = true ∧
    (s.powerOn bad).plan = {} ∧ (s.powerOn bad).mem = {} ∧ (s.powerOn bad).srv = {} ∧ (s.powerOn bad).cores = [] ∧
    (s.powerOn bad).ports = [] ∧ (s.powerOn bad).host = {} ∧ (s.powerOn bad).pwr = {} ∧ (s.powerOn bad).rgr.rej = [] ∧
    (s.powerOn bad).pending = s.pending := by
  obtain ⟨regs, flag, failed, opened, h⟩ := s.poweredOn_eq bad
  rw [State.powerOn, h]
  exact ⟨rfl, rfl, rfl, rfl, rfl, rfl, rfl, rfl, rfl, rfl, rfl⟩

theorem State.rget_powerOn (s : State) (bad : Bool) (f : Field) (i : Nat) :
    (s.powerOn bad).rget f i = ((s.poweredOn bad).recordReset 0).rget f i := State.rget_withRgr _ _ f i

theorem State.rget_powerOn_ne (s : State) (bad : Bool) (f : Field) (i : Nat) (h : f.key i ∉ [RGR_RESET.CAUSE.key 0, RGR_BOOTS.COUNT.key 0]) :
    (s.powerOn bad).rget f i = (s.poweredOn bad).rget f i := by
  rw [State.rget_powerOn, State.rget_recordReset_ne _ _ _ _ h]

/-- A register that no mark is told in is kept or takes its reset value. -/
theorem State.rget_copyFound_ne (s : State) (bad : Bool) (f : Field) (i : Nat) (h : f.key i ∉ resetKeys) :
    ((s.resetTo true 0 true).copyFound bad).rget f i = if keptOverReset true (f.key i) then s.rget f i else f.reset := by
  have hbad : f.key i ≠ RGR_NVREC.BAD.key 0 := fun e => h (by rw [e]; decide)
  rw [State.copyFound, State.rget_rset0_ne _ _ _ _ _ hbad, State.rget_resetTo _ _ _ _ _ _ h, State.resetMarks_cold]

theorem State.rget_powerOn_trials (s : State) (bad : Bool) {k : Nat} (hk : k < 4) :
    (s.powerOn bad).rget RGR_UPD.TRIAL_MAX k = 3 ∧ (s.powerOn bad).rget RGR_UPD.TRIALS k = s.rget RGR_UPD.TRIALS k := by
  have hmax : ∀ k < 4, RGR_UPD.TRIAL_MAX.key k ∉ [RGR_RESET.CAUSE.key 0, RGR_BOOTS.COUNT.key 0] ∧
    RGR_UPD.TRIAL_MAX.key k ∉ failedStartKeys ∧ RGR_UPD.TRIAL_MAX.key k ∉ resetKeys ∧
    keptOverReset true (RGR_UPD.TRIAL_MAX.key k) = false := by decide
  have htrials : ∀ k < 4, RGR_UPD.TRIALS.key k ∉ [RGR_RESET.CAUSE.key 0, RGR_BOOTS.COUNT.key 0] ∧
    RGR_UPD.TRIALS.key k ∉ failedStartKeys ∧ RGR_UPD.TRIALS.key k ∉ resetKeys ∧
    keptOverReset true (RGR_UPD.TRIALS.key k) = true := by decide
  constructor
  · obtain ⟨hrec, hmarks, hreset, hkept⟩ := hmax k hk
    rw [s.rget_powerOn_ne _ _ _ hrec, State.poweredOn, State.rget_powerOnMarks_ne _ _ _ hmarks, s.rget_copyFound_ne _ _ _ hreset, hkept]
    rfl
  · obtain ⟨hrec, hmarks, hreset, hkept⟩ := htrials k hk
    rw [s.rget_powerOn_ne _ _ _ hrec, State.poweredOn, State.rget_powerOnMarks_ne _ _ _ hmarks, s.rget_copyFound_ne _ _ _ hreset, hkept]
    rfl

theorem State.rget_powerOn_bad (s : State) (bad : Bool) : (s.powerOn bad).rget RGR_NVREC.BAD = if bad then 1 else 0 := by
  rw [s.rget_powerOn_ne _ _ _ (by decide), State.poweredOn, State.rget_powerOnMarks_ne _ _ _ (by decide), State.copyFound,
    State.rget_rset0_same]
  cases bad <;> rfl

theorem State.rget_powerOn_cause {s : State} (bad : Bool) (h : s.rgr.supplyLoss = false) (hp : s.rgr.powerOff = false) :
    (s.powerOn bad).rget RGR_RESET.CAUSE = 0 := by
  obtain ⟨regs, flag, failed, opened, heq⟩ := s.poweredOn_eq bad
  rw [State.rget_powerOn]
  exact State.rget_recordReset_cause (by decide) (by rw [heq]; exact h) (by rw [heq]; exact hp)

/-- FAILED after a power-on reset, by what the record says of the start before. -/
theorem State.rget_powerOn_failed (s : State) (bad : Bool) :
    (s.rgr.bivouacFlag = true → 2 ≤ s.rget RGR_RESET.BIVOUAC_N → s.rget RGR_RESET.BIVOUAC_N ≤ 7 →
      (s.powerOn bad).rget RGR_RESET.FAILED = s.rget RGR_RESET.BIVOUAC_N - 1 ∧ (s.powerOn bad).rgr.bivouacFlag = false) ∧
    (s.rgr.bivouacFlag = false → s.rgr.startOpen = false → (s.powerOn bad).rget RGR_RESET.FAILED = s.rget RGR_RESET.FAILED) ∧
    (s.rgr.bivouacFlag = false → s.rgr.startOpen = true →
      (s.powerOn bad).rget RGR_RESET.FAILED = Nat.min (s.rget RGR_RESET.FAILED + 1) 7 ∧ (s.powerOn bad).rget RGR_BOOT.REASON = 0x0D) := by
  have hfound : ((s.resetTo true 0 true).copyFound bad).rgr = s.rgr.kept true := s.copyFound_rgr bad
  have hfailed := s.rget_copyFound_ne bad RGR_RESET.FAILED 0 (by decide)
  have hn := s.rget_copyFound_ne bad RGR_RESET.BIVOUAC_N 0 (by decide)
  rw [if_pos (by decide)] at hfailed hn
  have hflag : (s.powerOn bad).rgr.bivouacFlag = (s.poweredOn bad).rgr.bivouacFlag := rfl
  rw [hflag, s.rget_powerOn_ne _ _ _ (by decide), s.rget_powerOn_ne _ _ _ (by decide), ← hfailed, ← hn, State.poweredOn]
  refine ⟨fun hb _ h7 => State.powerOnMarks_bivouac (by rw [hfound]; exact hb) h7, fun hb ho => ?_,
    fun hb ho => State.powerOnMarks_open (by rw [hfound]; exact hb) (by rw [hfound]; exact ho)⟩
  rw [State.powerOnMarks_none (by rw [hfound]; exact hb) (by rw [hfound]; exact ho)]

/-! ### SYS_RST_N, BOOT_RETRY and VDD_AO_LOW (R333, R349, R350, R374) -/

/-- What SYS_RST_N leaves where it is asserted. -/
def State.sysRstTaken (s : State) : State :=
  let t := s.resetTo false 1 false
  { t with rgr := { t.rgr with sysRst := true, rstCause := 1, startDue := false } }

theorem exec_sysRstNAsserted {s : State} (h : s.rgr.sysRst = false) : exec .sysRstNAsserted s = .next s.sysRstTaken := by
  simp only [exec_sysRstNAsserted_eq, execSysRstNAsserted, h]; rfl

theorem State.sysRstTaken_loses (s : State) : s.sysRstTaken.rgr.sysRst = true ∧ s.sysRstTaken.mem = {} ∧ s.sysRstTaken.plan = {} ∧
    s.sysRstTaken.rgr.rej = s.rgr.rej ∧ s.sysRstTaken.rgr.startDue = false := by
  obtain ⟨regs, heq⟩ := s.resetTo_eq_wipe false 1 false
  rw [← s.resetMarks_rej false 1, State.sysRstTaken, heq]
  exact ⟨rfl, rfl, rfl, rfl, rfl⟩

theorem State.rget_sysRstTaken (s : State) (f : Field) (i : Nat) (hw : f.key i ∉ resetKeys) (hk : keptOverReset false (f.key i) = true) :
    s.sysRstTaken.rget f i = (s.resetMarks false 1).rget f i := by
  rw [State.sysRstTaken, State.rget_withRgr, State.rget_resetTo _ _ _ _ _ _ hw, if_pos hk]

theorem exec_bootRetry {s : State} (h : s.rgr.retryAt = true) :
    ∃ t : State, exec .bootRetry s = .next t ∧ t.mem = {} ∧ t.plan = {} ∧ t.rgr.retryAt = false ∧ t.rgr.startDue = true := by
  obtain ⟨regs, heq⟩ := s.resetTo_eq_wipe false 6 false
  refine ⟨s.deviceReset 6, by simp only [exec_bootRetry_eq, execBootRetry, h]; rfl, ?_⟩
  rw [State.deviceReset, heq]
  exact ⟨rfl, rfl, rfl, rfl⟩

theorem exec_vddAoLow (s : State) (bad : Bool) :
    ∃ t : State, exec (.vddAoLow bad) s = .next t ∧ t.rgr.supplyLoss = true ∧ t.rgr.rej = [] ∧ t.mem = {} ∧ t.rgr.startDue = true ∧
      t.rget RGR_NVREC.BAD = (if bad then 1 else 0) := by
  obtain ⟨regs, heq⟩ := s.resetTo_eq_wipe true 5 true
  refine ⟨_, rfl, rfl, ?_, ?_, rfl, ?_⟩
  · rw [State.copyFound, heq]; rfl
  · rw [State.copyFound, heq]; rfl
  · rw [State.rget_withRgr, State.copyFound, State.rget_rset0_same]
    cases bad <;> rfl

/-! ### START and SETTLE_POINT (R348 to R350) -/

theorem exec_start {s : State} (hd : s.rgr.startDue = true) (hr : s.rgr.sysRst = false) (hp : s.rgr.powerOff = false) :
    exec .start s = .next s.beginStart := by
  simp [exec_start_eq, execStart, hd, hr, hp]

/-- A start begins on a state whose reset is recorded. -/
def State.startMarked (s : State) : State :=
  let t := { s with rgr := { s.rgr with startDue := false, starting := true, ready := false, nextPhase := 0, retryAt := false,
                                        startOpen := true, trialBad := if s.rgr.lastFailed then s.rgr.trialsRun else [], trialsRun := [] },
                    pwr := { s.pwr with clk32k := Config.clk32kPresent (s.rget RGR_BOOTS.COUNT) } }
  (((t.rset0 RGR_BOOT.PHASE 0).rset0 RGR_BOOT.SETTLED 0).rset0 RGR_BOOT.READY_MS 0).journal

theorem State.beginStart_eq (s : State) : s.beginStart = (if s.rgr.supplyLoss then s.recordReset 5 else s).startMarked := rfl

theorem State.rget_startMarked (s : State) : s.startMarked.rget RGR_BOOT.PHASE = 0 ∧ s.startMarked.rget RGR_BOOT.SETTLED = 0 ∧
    s.startMarked.rget RGR_RESET.CAUSE = s.rget RGR_RESET.CAUSE := by
  unfold State.startMarked
  refine ⟨?_, ?_, ?_⟩ <;> rw [State.rget_journal_ne _ _ _ (by decide)] <;>
    simp (disch := decide) only [State.rget_rset0_ne, State.rget_rset0_same] <;> rfl

theorem State.startMarked_eq (s : State) : s.startMarked =
    { s with regs := s.startMarked.regs, rgr := s.startMarked.rgr, pwr := { s.pwr with clk32k := s.startMarked.pwr.clk32k } } := rfl

/-- A start has its marks set, its registers at their first values, and cause 5 after VDD_AO's loss; nothing else changes. -/
theorem State.beginStart_spec (s : State) : s.beginStart.rgr.starting = true ∧ s.beginStart.rgr.nextPhase = 0 ∧ s.beginStart.rgr.startOpen = true ∧
    s.beginStart.rget RGR_BOOT.PHASE = 0 ∧ s.beginStart.rget RGR_BOOT.SETTLED = 0 ∧
    s.beginStart.rget RGR_RESET.CAUSE = (if s.rgr.supplyLoss then 5 else s.rget RGR_RESET.CAUSE) ∧ s.beginStart.rgr.supplyLoss = false ∧
    s.beginStart = { s with regs := s.beginStart.regs, rgr := s.beginStart.rgr, pwr := { s.pwr with clk32k := s.beginStart.pwr.clk32k } } := by
  rw [State.beginStart_eq]
  cases h : s.rgr.supplyLoss
  · obtain ⟨hphase, hsettled, hcause⟩ := s.rget_startMarked
    exact ⟨rfl, rfl, rfl, hphase, hsettled, hcause, h, s.startMarked_eq⟩
  · obtain ⟨hphase, hsettled, hcause⟩ := (s.recordReset 5).rget_startMarked
    refine ⟨rfl, rfl, rfl, hphase, hsettled, hcause.trans (State.rget_recordReset_supplyLoss 5 h), rfl, ?_⟩
    obtain ⟨regs, off, hrec⟩ := s.recordReset_eq 5
    rw [if_pos rfl, hrec]
    exact State.startMarked_eq _

end Sys2Proof.Machine
end

section
/-! What each phase of a start answers, and the settling of O51. -/
namespace Sys2Proof.Machine
open Sys2Proof.Safety

/-- SYS_RST_N, asserted: an unsettled start has failed, and a settled one has not (R333, R349). -/
theorem State.sysRstTaken_failed (s : State) :
    (s.unsettled = true → s.sysRstTaken.rget RGR_RESET.FAILED = Nat.min (s.rget RGR_RESET.FAILED + 1) 7 ∧
      s.sysRstTaken.rget RGR_BOOT.REASON = 0x0D) ∧
    (s.unsettled = false → s.sysRstTaken.rget RGR_RESET.FAILED = s.rget RGR_RESET.FAILED) := by
  rw [s.rget_sysRstTaken _ _ (by decide) (by decide), s.rget_sysRstTaken _ _ (by decide) (by decide)]
  constructor
  · intro h
    rw [State.resetMarks_unsettled h (by decide) (by decide)]
    exact ⟨s.rget_failedStart_failed _, s.rget_failedStart_reason (by decide)⟩
  · intro h
    rw [State.resetMarks_settled h]

/-- SYS_RST_N's release records the reset, and a start is due (R346, R348). -/
theorem exec_sysRstN_released {s : State} (h : s.rgr.sysRst = true) (hl : s.rgr.supplyLoss = false) (hp : s.rgr.powerOff = false)
    (hc : s.rgr.rstCause = 1) : ∃ t : State, exec .sysRstN s = .next t ∧ t.rgr.sysRst = false ∧ t.rgr.startDue = true ∧
      t.rget RGR_RESET.CAUSE = 1 ∧ t = { s with regs := t.regs, rgr := t.rgr } := by
  refine ⟨{ s.recordReset 1 with rgr := { (s.recordReset 1).rgr with sysRst := false, startDue := true } }, ?_, rfl, rfl, ?_, rfl⟩
  · simp only [exec_sysRstN_eq, execSysRstN, h, hc]; rfl
  · rw [State.rget_withRgr, State.rget_recordReset_cause (by decide) hl hp]

/-- SETTLE_POINT clears FAILED and the start's mark (R349, R350). -/
theorem exec_settlePoint_ready {s : State} (h : s.rgr.ready = true) (hs : s.rget RGR_BOOT.SETTLED = 0) :
    ∃ t : State, exec .settlePoint s = .next t ∧ t.rget RGR_RESET.FAILED = 0 ∧ t.rget RGR_BOOT.SETTLED = 1 ∧
      t.rgr.startOpen = false ∧ t = { s with regs := t.regs, rgr := t.rgr } := by
  refine ⟨({ (s.rset0 RGR_RESET.FAILED 0).rset0 RGR_BOOT.SETTLED 1 with
    rgr := { s.rgr with startOpen := false, lastFailed := false } } : State).journal, ?_, ?_, ?_, rfl, rfl⟩
  · exact congrArg Host.Outcome.next (if_pos (by simp [h, hs]))
  · rw [State.rget_journal_ne _ _ _ (by decide), State.rget_withRgr, State.rget_rset0_ne _ _ _ _ _ (by decide), State.rget_rset0_same]; rfl
  · rw [State.rget_journal_ne _ _ _ (by decide), State.rget_withRgr, State.rget_rset0_same]; rfl

/-- STRAP_SAMPLE (R369). -/
theorem exec_strapSample_spec (s : State) (m e : Bool) (a : BitVec 3) :
    ∃ t : State, exec (.strapSample m a e) s = .next t ∧ t.rget RGR_MGMT.I3C_SA = 0x48 + a.toNat ∧ t.rgr.mgtSgmii = m ∧
      t.rgr.testEn = e ∧ t = { s with regs := t.regs, rgr := t.rgr } := by
  refine ⟨_, rfl, ?_, rfl, rfl, rfl⟩
  rw [State.rget_withRgr, State.rget_rset0_same]
  exact Nat.mod_eq_of_lt (show 0x48 + a.toNat < 128 by have := a.isLt; omega)

/-- B0 with the active Ranger slot good: the first boot numbers the cores, once (R12, R348). -/
theorem b0_starts {s : State} (hp : s.atPhase 0 = true) (hst : s.rgr.starting = true) (hbad : s.rgr.trialBad = [])
    (hact : s.rget RGR_UPD.ACTIVE 1 = 0) (htest : s.rgr.testEn = false) (b : Bool) :
    ∃ t : State, exec (.b0 true true b false) s = .next t ∧ t.rgr.nextPhase = 1 ∧ t.rgr.starting = true ∧ t.rget RGR_UPD.ACTIVE 1 = 0 ∧
      t.rgr.numbered = true ∧ t.coreMap = (if s.rgr.numbered then s.coreMap else s.assignCores.coreMap) := by
  obtain ⟨hrgr, hmap, hactive⟩ := s.firstBoot_spec
  refine ⟨_, exec_b0_active hp hbad hact htest b, rfl, ?_, ?_, ?_, ?_⟩
  · rw [State.trialStart_eq, hrgr]; exact hst
  · exact (State.rget_trialStart_ne _ _ _ _ (by decide)).trans (hactive.trans hact)
  · rw [State.trialStart_eq, hrgr]; rfl
  · rw [State.trialStart_eq]; exact hmap

/-- B0 with the other Ranger slot alone: it rolls back and FAILED falls (R357). -/
theorem b0_rollsBack {s : State} (hp : s.atPhase 0 = true) (hbad : s.rgr.trialBad = [])
    (hact : s.rget RGR_UPD.ACTIVE 1 = 0) (htest : s.rgr.testEn = false) :
    ∃ t : State, exec (.b0 true false true false) s = .next t ∧ t.rgr.nextPhase = 1 ∧ t.rget RGR_UPD.ACTIVE 1 = 1 ∧
      t.rget RGR_UPD.ROLLED 1 = 1 ∧ t.rget RGR_UPD.OTHER 1 = 4 ∧ t.rget RGR_RESET.FAILED = 0 := by
  obtain ⟨-, -, hactive⟩ := s.firstBoot_spec
  obtain ⟨hflip, hother, hrolled⟩ := s.firstBoot.rget_rollback (k := 1) (by decide)
  rw [hactive, hact] at hflip
  refine ⟨_, exec_b0_other hp hbad hact htest, rfl, ?_, ?_, ?_, ?_⟩ <;> rw [State.rget_phaseDone, State.bootRollback]
  · rw [State.rget_rset0_ne _ _ _ _ _ (by decide), hflip]
  · rw [State.rget_rset0_ne _ _ _ _ _ (by decide), hrolled]
  · rw [State.rget_rset0_ne _ _ _ _ _ (by decide), hother]
  · rw [State.rget_rset0_same]; rfl

/-- B1 with the rails good (R344, R348). -/
theorem b1_passes {s : State} (hp : s.atPhase 1 = true) (hbad : s.rgr.trialBad = [])
    (hf : s.rget RGR_RESET.FAILED < s.rget RGR_RESET.BIVOUAC_N) :
    ∃ t : State, exec (.b1 true) s = .next t ∧ t.rgr.nextPhase = 2 ∧ t.bivouac = false ∧ t.rget RGR_STATUS.PWR_REQ = 1 ∧
      t.rget RGR_AVS.TARGET_MV 2 = 750 ∧ t.rget RGR_BOOT.PHASE = 1 := by
  obtain ⟨hreq, hmv⟩ := s.b1Check.leaveBivouac.raiseRails_request
  refine ⟨s.b1Check.leaveBivouac.raiseRails.phaseDone 1, by rw [exec_b1 hp hbad, if_neg (by omega)]; rfl, rfl, decide_eq_false ?_, ?_, ?_, ?_⟩ <;>
    rw [State.rget_phaseDone]
  · rw [State.rget_raiseRails_ne _ _ _ (by decide), State.rget_leaveBivouac_mode]; decide
  · exact hreq
  · exact hmv
  · rw [State.rget_raiseRails_ne _ _ _ (by decide), State.rget_leaveBivouac_ne _ _ _ (by decide), State.b1Check, State.rget_withRgr,
      State.rget_rset0_same]
    rfl

/-- B1 with a rail that does not come (R348). -/
theorem b1_railsFail {s : State} (hp : s.atPhase 1 = true) (hbad : s.rgr.trialBad = [])
    (hf : s.rget RGR_RESET.FAILED < s.rget RGR_RESET.BIVOUAC_N) : ∃ t : State, exec (.b1 false) s = .next t ∧ startFailed s t 0x03 := by
  refine ⟨_, by rw [exec_b1 hp hbad, if_neg (by omega)]; rfl, State.startFailed_failedStart (by decide) ?_⟩
  rw [State.rget_raiseRails_ne _ _ _ (by decide), State.rget_leaveBivouac_ne _ _ _ (by decide), s.rget_b1Check_ne _ _ (by decide)]

/-- A crossing whose probe does not pass fails B2 (R29). -/
theorem b2_probeFails {s : State} (hp : s.atPhase 2 = true) {ps : List (Nat × Nat × Nat)} {i lo hi : Nat}
    (hi' : i < s.rget CLK_XING_COUNT.COUNT) (hf : ps.filter (fun e => decide (e.1 = i)) = [(i, lo, hi)]) (hb : lo + 3 < hi ∨ 30 < hi) :
    ∃ t : State, exec (.b2 true ps) s = .next t ∧ startFailed s t 0x05 := by
  refine exec_b2_fails hp (State.allCalibrated_false_of_bad (i := i) ?_ ?_)
  · rwa [s.rget_b2Measured_ne ps _ _ (by decide)]
  · rw [State.b2Measured, State.xing_calibrate_one hf]
    simp only [Xing.measure, Bool.and_eq_false_iff, decide_eq_false_iff_not]; omega

/-- B2 with every crossing's probe passing: time starts from 0 (R29). -/
theorem b2_passes {s : State} (hp : s.atPhase 2 = true) {ps : List (Nat × Nat × Nat)}
    (h : ∀ i, i < s.rget CLK_XING_COUNT.COUNT → ∃ lo hi, ps.filter (fun e => decide (e.1 = i)) = [(i, lo, hi)] ∧ hi ≤ lo + 3 ∧ hi ≤ 30) :
    ∃ t : State, exec (.b2 true ps) s = .next t ∧ t.rgr.nextPhase = 3 ∧ t.rget RGR_BOOT.PHASE = 2 ∧ t.gst = 0 ∧ t.clk.acc = 0 ∧
      t.clk.frac = 0 ∧ (∀ r, (t.region r).tick = 0) ∧
      (∀ i lo hi, i < s.rget CLK_XING_COUNT.COUNT → (i, lo, hi) ∈ ps → (Assoc.get ({} : Xing) t.clk.xings i).lat = hi + 2) := by
  refine ⟨(s.b2Measured ps).phaseDone 2, by rw [exec_b2 hp, State.b2Measured_passes h]; rfl, rfl, ?_, rfl, rfl, rfl, (s.rset0 RGR_BOOT.PHASE 2).startEdge_tick,
    fun i lo hi hi' hmem => ?_⟩
  · exact State.rget_rset0_same s RGR_BOOT.PHASE 2
  · obtain ⟨lo', hi'', hf, -, -⟩ := h i hi'
    have hone : (i, lo, hi) ∈ [(i, lo', hi'')] := hf ▸ List.mem_filter.2 ⟨hmem, by simp⟩
    obtain ⟨-, rfl⟩ : lo = lo' ∧ hi = hi'' := by simpa using hone
    exact congrArg Xing.lat (State.xing_calibrate_one hf)

/-- B3 with every stack identified and trained: memory is lost with its keys (R152, R162). -/
theorem b3_passes {s : State} (hp : s.atPhase 3 = true) (f : Bool) :
    ∃ t : State, exec (.b3 (BitVec.allOnes 12) (BitVec.allOnes 12) f) s = .next t ∧ t.rgr.nextPhase = 4 ∧ t.mem = {} ∧
      t.rget MEM_STATUS.TRAINED = 4095 ∧ t.rget MEM_CRYPT.KEY_EPOCH = (s.rget MEM_CRYPT.KEY_EPOCH + 1) % 2 ^ 24 := by
  have hmem : ∀ (u : State) (m : Mem) (g : Field) (i : Nat), ({ u with mem := m } : State).rget g i = u.rget g i := fun _ _ _ _ => rfl
  refine ⟨_, exec_b3_trained hp f, rfl, rfl, ?_, ?_⟩ <;> rw [State.rget_phaseDone, State.b3Trained, hmem, State.rinc]
  · simp (disch := decide) only [State.rget_rset_ne, State.rget_rset0_ne, State.rget_rset0_same]; rfl
  · simp (disch := decide) only [State.rget_rset_same, State.rget_rset0_ne]; rfl

/-- B4 with the other slot's image alone: the memory controller's firmware rolls back (R348, R357). -/
theorem b4_rollsBack {s : State} (hp : s.atPhase 4 = true) (ha : s.rget RGR_UPD.ACTIVE 0 ≤ 1) :
    ∃ t : State, exec (.b4 false true) s = .next t ∧ t.rgr.nextPhase = 5 ∧ t.rget RGR_UPD.ACTIVE 0 = 1 - s.rget RGR_UPD.ACTIVE 0 := by
  obtain ⟨hflip, -, -⟩ := (s.rset0 RGR_BOOT.PHASE 4).rget_rollback (k := 0) (by decide)
  rw [State.rget_rset0_ne _ _ _ _ _ (by decide)] at hflip
  refine ⟨_, exec_b4_other hp, rfl, ?_⟩
  rw [State.rget_phaseDone, State.bootRollback, State.rget_rset0_ne _ _ _ _ _ (by decide), hflip]
  omega

/-- Settles O51: each command of a start by its outcome, with what the registers of the Ranger's record show. -/
theorem startsGoPhaseByPhase : Obligations.StartsGoPhaseByPhase := by
  unfold Obligations.StartsGoPhaseByPhase
  refine ⟨?_, ?_, ?_, ?_, ?_, ?_, ?_, ?_, ?_, ?_, ?_, ?_, ?_, ?_, ?_⟩
  · intro s bad hl hp
    obtain ⟨hsys, hdue, hplan, hmem, hsrv, hcores, hports, hhost, hpwr, hrej, hpend⟩ := s.powerOn_loses bad
    exact ⟨_, exec_powerOnReset s bad, State.rget_powerOn_cause bad hl hp, hsys, hdue, hplan, hmem, hsrv, hcores, hports, hhost, hpwr, hrej,
      hpend, s.rget_powerOn_bad bad, fun k hk => s.rget_powerOn_trials bad hk, s.rget_powerOn_failed bad⟩
  · intro s
    refine ⟨fun h => ?_, fun h => ?_, fun h => ?_, exec_sysRstN_released⟩
    · simp [exec_sysRstNAsserted_eq, execSysRstNAsserted, h]
    · simp [exec_sysRstN_eq, execSysRstN, h]
    · obtain ⟨hsys, hmem, hplan, hrej, hdue⟩ := s.sysRstTaken_loses
      exact ⟨_, exec_sysRstNAsserted h, hsys, hmem, hplan, hrej, hdue, s.sysRstTaken_failed⟩
  · intro s
    refine ⟨?_, fun hd hr hp => ⟨_, exec_start hd hr hp, s.beginStart_spec⟩⟩
    rintro (h | h | h) <;> simp [exec_start_eq, execStart, h]
  · intro s a b c d x y ps e hs
    exact exec_phase_of_not_starting hs a b c d x y ps e
  · intro s hs
    exact ⟨_, by simp only [exec_readyTimeout_eq, execReadyTimeout, hs]; rfl, State.startFailed_failedStart (by decide) rfl⟩
  · intro s a b c hs hk
    have hp := State.atPhase_of hs hk
    exact ⟨⟨_, exec_b0_fails hp a b rfl, State.startFailed_failedStart (by decide) rfl⟩,
      ⟨_, exec_b0_fails hp a b rfl, State.startFailed_failedStart (by decide) rfl⟩⟩
  · intro s b hs hk hbad hact htest
    have hp := State.atPhase_of hs hk
    obtain ⟨hbiv, hreason, hflag, -⟩ := (s.firstBoot.rset0 RGR_BOOT.REASON 0x01).enterBivouac_spec 0x01
    exact ⟨b0_starts hp hs hbad hact htest b, b0_rollsBack hp hbad hact htest, _, exec_b0_none hp hbad hact htest, hbiv, hreason, hflag⟩
  · intro s hs hk hbad
    have hp := State.atPhase_of hs hk
    refine ⟨fun rails hf => ?_, fun hf => ⟨b1_passes hp hbad hf, b1_railsFail hp hbad hf⟩⟩
    obtain ⟨hbiv, hreason, -, hstarting⟩ := s.b1Check.enterBivouac_spec (s.rget RGR_BOOT.REASON)
    exact ⟨_, by rw [exec_b1 hp hbad, if_pos hf], hbiv, hreason, hstarting⟩
  · intro s ps hs hk
    have hp := State.atPhase_of hs hk
    refine ⟨⟨_, exec_b2 hp false ps, State.startFailed_failedStart (by decide) (State.rget_rset0_ne _ _ _ _ _ (by decide))⟩,
      fun i hi hmiss => ?_, fun i lo hi => b2_probeFails hp, b2_passes hp⟩
    exact exec_b2_fails hp (State.allCalibrated_false_of_missing (by rwa [s.rget_b2Measured_ne ps _ _ (by decide)]) hmiss)
  · intro s f hs hk
    have hp := State.atPhase_of hs hk
    refine ⟨fun x y hx => ⟨_, exec_b3_ids hp x y f hx, State.startFailed_failedStart (by decide) ?_⟩,
      fun y hy => ⟨_, exec_b3_untrained hp y f hy, State.startFailed_failedStart (by decide) ?_⟩, b3_passes hp f⟩
    · exact State.rget_rset0_ne _ _ _ _ _ (by decide)
    · rw [State.rget_rset0_ne _ _ _ _ _ (by decide), State.rget_rset0_ne _ _ _ _ _ (by decide)]
  · intro s hs
    refine ⟨fun hk => ?_, fun hk => ?_⟩ <;> have hp := State.atPhase_of hs hk
    · refine ⟨fun b => ⟨_, exec_b4_active hp b, rfl, ?_⟩, b4_rollsBack hp,
        ⟨_, exec_b4_none hp, State.startFailed_failedStart (by decide) (State.rget_rset0_ne _ _ _ _ _ (by decide))⟩⟩
      rw [State.rget_phaseDone, State.rget_trialStart_ne _ _ _ _ (by decide), State.rget_rset0_ne _ _ _ _ _ (by decide)]
    · have hfailed : (s.rset0 RGR_BOOT.PHASE 5).rget RGR_RESET.FAILED = s.rget RGR_RESET.FAILED := State.rget_rset0_ne _ _ _ _ _ (by decide)
      refine ⟨fun a b e => ⟨_, exec_b5_noLink hp a b e, State.startFailed_failedStart (by decide) hfailed⟩,
        fun b e => ⟨_, exec_b5_noLibrary hp b e, State.startFailed_failedStart (by decide) hfailed⟩,
        fun b c e he => ⟨_, by rw [exec_b5_images hp, if_pos he], State.startFailed_failedStart (by decide) ?_⟩,
        fun b c e he => ⟨_, by rw [exec_b5_images hp, if_neg (by omega)], State.reachReady_spec _ he⟩⟩
      rw [State.rget_trialStart_ne _ _ _ _ (by decide), hfailed]
  · intro s
    refine ⟨fun h => ?_, exec_bootRetry, exec_settlePoint_ready, exec_vddAoLow s⟩
    simp [exec_bootRetry_eq, execBootRetry, h]
  · exact exec_strapSample_spec
  · intro s
    refine ⟨rfl, fun r h0 hr hf => ⟨_, ?_, State.enterFailSafe_first hf 511 (by decide)⟩⟩
    simp [exec_railOutOfRange_eq, execRailOutOfRange, onUnit, hr, Nat.ne_of_gt h0]
  · intro s ir off v
    refine ⟨rfl, fun hir hs => ?_⟩
    simp [exec_jtagInstruction_eq, execJtagInstruction, State.jtagIr, hir, hs]

end Sys2Proof.Machine
end

section
/-! Register accesses on BAR0 (R6, R7, R18, R20, R328): the parts of an access, and what the fields of a register take. -/
namespace Sys2Proof.Machine
open Sys2Proof.Safety

/-! ### The parts of an access (log 39) -/

/-- The bits that the byte enables of a 4-byte access cover. -/
def enabledMask (be : Nat) : Nat := (((List.range 4).filter fun i => be.testBit i).map fun i => 255 * 2 ^ (8 * i)).sum

/-- The value under the byte enables of a 4-byte access. -/
def enabledValue (be v : Nat) : Nat := (((List.range 4).filter fun i => be.testBit i).map fun i => (byteOf v i).toNat * 2 ^ (8 * i)).sum

theorem byteOf_toNat (v k : Nat) : (byteOf v k).toNat = v / 2 ^ (8 * k) % 256 := by
  rw [byteOf, BitVec.toNat_ofNat, Nat.shiftRight_eq_div_pow]

theorem enabledValue_full (v : Nat) : enabledValue 15 v = v % 2 ^ 32 := by
  have hall : ((List.range 4).filter fun i => (15 : Nat).testBit i) = [0, 1, 2, 3] := by decide
  have hsum : ∀ f : Nat → Nat, ([0, 1, 2, 3].map f).sum = f 0 + (f 1 + (f 2 + (f 3 + 0))) := fun _ => rfl
  have h0 : (2 : Nat) ^ (8 * 0) = 1 := rfl
  have h1 : (2 : Nat) ^ (8 * 1) = 256 := rfl
  have h2 : (2 : Nat) ^ (8 * 2) = 65536 := rfl
  have h3 : (2 : Nat) ^ (8 * 3) = 16777216 := rfl
  have h32 : (2 : Nat) ^ 32 = 4294967296 := rfl
  rw [enabledValue, hall, hsum, byteOf_toNat, byteOf_toNat, byteOf_toNat, byteOf_toNat, h0, h1, h2, h3, h32]
  omega

theorem enabledValue_low (v : Nat) : enabledValue 1 v = v % 2 ^ 8 := by
  have hlow : ((List.range 4).filter fun i => (1 : Nat).testBit i) = [0] := by decide
  simp [enabledValue, hlow, byteOf_toNat]

/-- Bytes of one register join its part. -/
theorem foldl_addByte_same {base : Nat} (bs : List (Nat × Byte)) (m w : Nat) (h : ∀ b ∈ bs, regBase b.1 = base) :
    bs.foldl addByte [⟨base, m, w⟩] =
      [⟨base, m + (bs.map fun b => 255 * 2 ^ (8 * (b.1 - base))).sum, w + (bs.map fun b => b.2.toNat * 2 ^ (8 * (b.1 - base))).sum⟩] := by
  induction bs generalizing m w with
  | nil => rfl
  | cons b bs ih =>
    have hb : regBase b.1 = base := h b (List.mem_cons_self ..)
    have hone : addByte [⟨base, m, w⟩] b = [⟨base, m + 255 * 2 ^ (8 * (b.1 - base)), w + b.2.toNat * 2 ^ (8 * (b.1 - base))⟩] := by
      simp [addByte, hb]
    rw [List.foldl_cons, hone, ih _ _ fun c hc => h c (List.mem_cons_of_mem _ hc)]
    simp only [List.map_cons, List.sum_cons, Nat.add_assoc]

/-- An access to one register has one part. -/
theorem regPartsOf_same {base : Nat} {bs : List (Nat × Byte)} (h : ∀ b ∈ bs, regBase b.1 = base) (hne : bs ≠ []) :
    regPartsOf bs = [⟨base, (bs.map fun b => 255 * 2 ^ (8 * (b.1 - base))).sum, (bs.map fun b => b.2.toNat * 2 ^ (8 * (b.1 - base))).sum⟩] := by
  cases bs with
  | nil => exact absurd rfl hne
  | cons b bs =>
    have hb : regBase b.1 = base := h b (List.mem_cons_self ..)
    have hone : addByte [] b = [⟨base, 255 * 2 ^ (8 * (b.1 - base)), b.2.toNat * 2 ^ (8 * (b.1 - base))⟩] := by
      simp [addByte, hb]
    rw [regPartsOf, List.foldl_cons, hone, foldl_addByte_same _ _ _ fun c hc => h c (List.mem_cons_of_mem _ hc)]
    rfl

/-- A 4-byte access to a 4-byte register, with a byte enabled, has one part. -/
theorem regPartsOf_word {off be : Nat} (hoff : ∀ i < 4, regBase (off + i) = off) (hbe : (List.range 4).any be.testBit = true) (v : Nat) :
    regPartsOf (enabledBytes off 4 be v) = [⟨off, enabledMask be, enabledValue be v⟩] := by
  obtain ⟨k, hk, hset⟩ := List.any_eq_true.1 hbe
  rw [regPartsOf_same (base := off)]
  · simp only [enabledBytes, enabledMask, enabledValue, List.map_map, Function.comp_def, Nat.add_sub_cancel_left]
  · intro b hb
    obtain ⟨i, hi, rfl⟩ := List.mem_map.1 hb
    exact hoff i (List.mem_range.1 (List.mem_filter.1 hi).1)
  · intro hnil
    have : (off + k, byteOf v k) ∈ enabledBytes off 4 be v := List.mem_map.2 ⟨k, List.mem_filter.2 ⟨hk, hset⟩, rfl⟩
    rw [hnil] at this
    exact absurd this List.not_mem_nil

/-! ### An access to one register -/

/-- A write that R18 refuses a remote device leaves its entry in the log alone. -/
theorem State.busWrite_remoteRefused (s : State) {a : Agent} (off : Nat) {bytes : List (Nat × Byte)} (h : remoteRefused a bytes = true) :
    s.busWrite a off bytes = s.logReject a off := by
  simp [State.busWrite, h]

/-- Outside Bivouac mode, a write that covers no RGO bit and that its agent may make is the register's own. -/
theorem State.busWrite_takes {s : State} {a : Agent} {off : Nat} {bytes : List (Nat × Byte)} {p : RegPart} (hp : regPartsOf bytes = [p])
    (hr : p.coversRgo = false) (hm : remoteRefused a bytes = false) (hb : s.bivouac = false) (hw : agentWrites a p.off = true) :
    s.busWrite a off bytes = s.partWrite a p := by
  simp [State.busWrite, hp, hr, hm, hb, hw]

/-- A write that its agent may not make changes nothing where R18 and R7 log nothing. -/
theorem State.busWrite_unseen (s : State) {a : Agent} {off : Nat} {bytes : List (Nat × Byte)} {p : RegPart} (hp : regPartsOf bytes = [p])
    (hr : p.coversRgo = false) (hm : remoteRefused a bytes = false) (hw : agentWrites a p.off = false) : s.busWrite a off bytes = s := by
  simp [State.busWrite, hp, hr, hm, hw]

/-- A write that covers an RGO bit of a register that ignores writes leaves its entry in the log alone (R7). -/
theorem State.busWrite_rgo (s : State) {a : Agent} {off : Nat} {bytes : List (Nat × Byte)} {p : RegPart} (hp : regPartsOf bytes = [p])
    (hr : p.coversRgo = true) (hw : ∀ t : State, t.partWrite a p = t) : s.busWrite a off bytes = s.logReject a off := by
  simp only [State.busWrite, hp, List.any_cons, List.any_nil, hr, Bool.true_or, if_true]
  split
  · rfl
  · by_cases h : agentWrites a p.off = true <;> simp [h, hw]

/-- R18 refuses no agent but a remote device. -/
theorem remoteRefused_of_not_remote {a : Agent} (h : ∀ d, a ≠ .remote d) (bytes : List (Nat × Byte)) : remoteRefused a bytes = false := by
  cases a with
  | remote d => exact absurd rfl (h d)
  | _ => rfl

/-! ### The fields of a register under a write (R6) -/

theorem State.fieldWrite_eq (s : State) (i : Nat) (p : RegPart) (e : Field × Access) :
    s.fieldWrite i p e = { s with regs := (s.fieldWrite i p e).regs } := by
  unfold State.fieldWrite
  dsimp only
  split
  · rfl
  · split
    · split <;> rfl
    · rfl
    · rfl

theorem State.rget_fieldWrite_ne (s : State) (i : Nat) (p : RegPart) (e : Field × Access) (g : Field) (j : Nat) (h : g.key j ≠ e.1.key i) :
    (s.fieldWrite i p e).rget g j = s.rget g j := by
  unfold State.fieldWrite
  dsimp only
  split
  · rfl
  · split
    · split
      · exact State.rget_rset_ne _ _ _ _ _ _ h
      · rfl
    · exact State.rget_rset_ne _ _ _ _ _ _ h
    · rfl

/-- A write changes registers alone. -/
theorem State.rowWrite_eq (s : State) (w : RegRow) (i : Nat) (p : RegPart) : ∃ regs, s.rowWrite w i p = { s with regs := regs } :=
  List.foldlRecOn w.fields _ (motive := fun t : State => ∃ regs, t = { s with regs := regs }) ⟨s.regs, rfl⟩ fun t ht e _ => by
    obtain ⟨regs, rfl⟩ := ht
    exact ⟨_, State.fieldWrite_eq _ _ _ _⟩

/-- A register of RGO fields ignores a write. -/
theorem State.rowWrite_rgo (s : State) {w : RegRow} (i : Nat) (p : RegPart) (h : ∀ e ∈ w.fields, e.2 = .rgo) : s.rowWrite w i p = s :=
  List.foldlRecOn w.fields _ (motive := fun t : State => t = s) rfl fun t ht e he => by
    subst ht
    simp [State.fieldWrite, h e he]

/-- What a field takes depends on its own value and on the events of this update cycle. -/
theorem State.rget_fieldWrite_congr {s t : State} {i : Nat} (p : RegPart) {e : Field × Access} (hv : t.rget e.1 i = s.rget e.1 i)
    (hr : t.raised = s.raised) (hc : t.clk = s.clk) : (t.fieldWrite i p e).rget e.1 i = (s.fieldWrite i p e).rget e.1 i := by
  unfold State.fieldWrite
  dsimp only
  rw [hv]
  split
  · exact hv
  · split
    · split
      · rw [State.rget_rset_same, State.rget_rset_same]
      · exact hv
    · simp only [State.clearBits, State.rget_rset_same, hv, hr, hc]
    · exact hv

/-- Each field of a register takes a write as if it were alone in the register. -/
theorem State.rget_rowWrite (s : State) {w : RegRow} {i : Nat} (p : RegPart) {e : Field × Access} (he : e ∈ w.fields)
    (hk : (w.fields.map fun x => x.1.key i).Nodup) : (s.rowWrite w i p).rget e.1 i = (s.fieldWrite i p e).rget e.1 i := by
  have hfold : ∀ (l : List (Field × Access)) (t : State), (l.map fun x => x.1.key i).Nodup →
      (e ∈ l → (l.foldl (fun s e => s.fieldWrite i p e) t).rget e.1 i = (t.fieldWrite i p e).rget e.1 i) ∧
      ((∀ x ∈ l, e.1.key i ≠ x.1.key i) → (l.foldl (fun s e => s.fieldWrite i p e) t).rget e.1 i = t.rget e.1 i) := by
    intro l
    induction l with
    | nil => intro t _; exact ⟨fun h => absurd h List.not_mem_nil, fun _ => rfl⟩
    | cons x l ih =>
      intro t hnd
      obtain ⟨hx, hl⟩ := List.nodup_cons.1 (List.map_cons ▸ hnd)
      have hnext := ih (t.fieldWrite i p x) hl
      constructor
      · intro hmem
        rcases List.mem_cons.1 hmem with rfl | hmem
        · exact hnext.2 fun y hy heq => hx (heq ▸ List.mem_map.2 ⟨y, hy, rfl⟩)
        · have hne : e.1.key i ≠ x.1.key i := fun heq => hx (heq ▸ List.mem_map.2 ⟨e, hmem, rfl⟩)
          have hfw := t.fieldWrite_eq i p x
          exact (hnext.1 hmem).trans (State.rget_fieldWrite_congr p (t.rget_fieldWrite_ne i p x _ _ hne) (by rw [hfw]) (by rw [hfw]))
      · intro hne
        exact (hnext.2 fun y hy => hne y (List.mem_cons_of_mem _ hy)).trans (t.rget_fieldWrite_ne i p x _ _ (hne x (List.mem_cons_self ..)))
  exact (hfold w.fields s hk).1 he

theorem bitsOf_one (v lo : Nat) : bitsOf v lo 1 = (bitAt v lo).toNat := by
  rw [bitAt, Nat.toNat_testBit, bitsOf, Nat.shiftRight_eq_div_pow, Nat.pow_one]

/-- An event under a write (R6, log 49): where its bit is covered, a 1 clears it unless the hardware set it in this update cycle. -/
theorem State.rget_fieldWrite_event (s : State) (p : RegPart) {e : Field} (hw : e.width = 1) :
    (s.fieldWrite 0 p (e, .rw1c)).rget e =
      if bitAt p.mask e.lo then (if bitAt p.value e.lo && !setNow s e then 0 else s.rget e % 2) else s.rget e := by
  simp only [State.fieldWrite, RegPart.hits, hw, bitsOf_one]
  cases hm : bitAt p.mask e.lo
  · simp
  · cases hv : bitAt p.value e.lo
    · simp [State.clearBits, hw]
    · simp only [State.clearBits, setNow, State.gst, bitAt, Nat.testBit_zero]
      by_cases hnow : (Assoc.get (0, 0) s.raised (e.key 0)).1 = s.clk.gst
      · rcases Nat.mod_two_eq_zero_or_one (Assoc.get (0, 0) s.raised (e.key 0)).2 with h2 | h2
        · simp [hnow, h2, hw, Nat.and_one_is_mod]; omega
        · simp [hnow, h2, hw]
      · simp [hnow, hw, Nat.and_one_is_mod]; omega

end Sys2Proof.Machine
end

section
/-! The rejected-write log (R328) and the reads of BAR0 (R9). -/
namespace Sys2Proof.Machine
open Sys2Proof.Safety

/-! ### The rejected-write log (R328) -/

theorem State.agentSource_eq (s : State) (a : Agent) : (s.agentSource a).2 = { s with freeCount := (s.agentSource a).2.freeCount } := by
  cases a <;> rfl

/-- An entry of the log is written at its head, and the head and the count go on; nothing else changes but a free value for JTAG. -/
theorem State.logReject_spec (s : State) (a : Agent) (off : Nat) : ∃ t : State, s.logReject a off = t ∧
    Assoc.get {} t.rgr.rej (s.rget RGR_REJ_HEAD.HEAD) = { gst := s.gst, kind := agentKind a, source := (s.agentSource a).1, off := off } ∧
    t.rget RGR_REJ_HEAD.HEAD = (s.rget RGR_REJ_HEAD.HEAD + 1) % 64 ∧ t.rget RGR_REJ_HEAD.COUNT = Nat.min (s.rget RGR_REJ_HEAD.COUNT + 1) 65535 ∧
    (∀ k, k ≠ s.rget RGR_REJ_HEAD.HEAD → Assoc.get {} t.rgr.rej k = Assoc.get {} s.rgr.rej k) ∧
    (∀ (f : Field) (i : Nat), f.key i ≠ RGR_REJ_HEAD.HEAD.key 0 → f.key i ≠ RGR_REJ_HEAD.COUNT.key 0 → t.rget f i = s.rget f i) ∧
    (a ≠ .jtag → t.freeCount = s.freeCount) ∧
    t = { s with regs := t.regs, rgr := { s.rgr with rej := t.rgr.rej }, freeCount := t.freeCount } := by
  have hsrc := s.agentSource_eq a
  have hregs : ∀ (f : Field) (i : Nat) (r : Rgr), ({ (s.agentSource a).2 with rgr := r } : State).rget f i = s.rget f i := fun f i r => by
    rw [hsrc]; rfl
  have hrej : (s.logReject a off).rgr.rej = Assoc.put {} s.rgr.rej (s.rget RGR_REJ_HEAD.HEAD)
      { gst := s.gst, kind := agentKind a, source := (s.agentSource a).1, off := off } := by
    unfold State.logReject; rw [hsrc]; rfl
  refine ⟨_, rfl, ?_, ?_, ?_, fun k hk => ?_, fun f i hh hc => ?_, fun hj => ?_, ?_⟩
  · rw [hrej, Assoc.get_put_same]
  · rw [State.logReject, State.rget_rsat_ne _ _ _ _ _ _ (by decide), State.rget_rset0_same]; rfl
  · rw [State.logReject, State.rget_rsat_same, State.rget_rset0_ne _ _ _ _ _ (by decide), hregs]; rfl
  · rw [hrej, Assoc.get_put_ne _ _ _ _ _ _ hk]
  · rw [State.logReject, State.rget_rsat_ne _ _ _ _ _ _ hc, State.rget_rset0_ne _ _ _ _ _ hh, hregs]
  · cases a with
    | jtag => exact absurd rfl hj
    | _ => rfl
  · cases a <;> rfl

/-! ### Words of BAR0 as an agent reads them (R9) -/

theorem natOfBytes_append (xs ys : List Byte) : natOfBytes (xs ++ ys) = natOfBytes xs + 256 ^ xs.length * natOfBytes ys := by
  induction xs with
  | nil => simp [natOfBytes]
  | cons x xs ih =>
    simp only [natOfBytes, List.cons_append, List.foldr_cons, List.length_cons, Nat.pow_succ] at ih ⊢
    rw [ih, Nat.mul_add, ← Nat.mul_assoc, Nat.mul_comm 256 (256 ^ xs.length), Nat.add_assoc]

theorem natOfBytes_bytesOf (v n : Nat) : natOfBytes (bytesOf v n) = v % 256 ^ n := by
  induction n with
  | zero => simp [bytesOf, natOfBytes, Nat.mod_one]
  | succ n ih =>
    have hlast : bytesOf v (n + 1) = bytesOf v n ++ [byteOf v n] := by simp [bytesOf, List.range_succ]
    have hlen : (bytesOf v n).length = n := by simp [bytesOf]
    rw [hlast, natOfBytes_append, ih, hlen, Nat.pow_succ, Nat.mod_mul]
    simp only [natOfBytes, List.foldr_cons, List.foldr_nil, byteOf_toNat, Nat.pow_mul, Nat.mul_zero, Nat.add_zero]

theorem natOfBytes_word (v : Nat) : natOfBytes (bytesOf v 4) = v % 2 ^ 32 := natOfBytes_bytesOf v 4

/-- A read of 4 bytes at a word is that word. -/
theorem exec_lowHalfRead_word (s : State) (a : Agent) {off : Nat} (h : off % 4 = 0) :
    exec (.lowHalfRead a off 4) s = .next ((s.wordRead a off).2.emit (.regValue a off ((s.wordRead a off).1 % 2 ^ 32))) := by
  have hcount : (off + 4 + 3) / 4 - off / 4 = 1 := by omega
  have hword : 4 * (off / 4 + 0) = off := by omega
  change execLowHalfRead a off 4 s = _
  simp only [execLowHalfRead, State.busRead, hcount, List.range_one, List.map_cons, List.map_nil, hword, List.foldl_cons, List.foldl_nil,
    h, List.nil_append, List.drop_zero]
  have htake : (bytesOf (s.wordRead a off).1 4).take 4 = bytesOf (s.wordRead a off).1 4 := List.take_of_length_le (by simp [bytesOf])
  rw [htake, natOfBytes_word]

/-- A read of 8 bytes reads the low word, and then the high one. -/
theorem exec_lowHalfRead_both (s : State) (a : Agent) {off : Nat} (h : off % 4 = 0) :
    exec (.lowHalfRead a off 8) s = .next (((s.wordRead a off).2.wordRead a (off + 4)).2.emit (.regValue a off
      ((s.wordRead a off).1 % 2 ^ 32 + 2 ^ 32 * (((s.wordRead a off).2.wordRead a (off + 4)).1 % 2 ^ 32)))) := by
  have hcount : (off + 8 + 3) / 4 - off / 4 = 2 := by omega
  have hrange : List.range 2 = [0, 1] := rfl
  have hlow : 4 * (off / 4 + 0) = off := by omega
  have hhigh : 4 * (off / 4 + 1) = off + 4 := by omega
  change execLowHalfRead a off 8 s = _
  simp only [execLowHalfRead, State.busRead, hcount, hrange, List.map_cons, List.map_nil, hlow, hhigh, List.foldl_cons, List.foldl_nil,
    h, List.nil_append, List.drop_zero]
  generalize (s.wordRead a off).1 = x
  generalize ((s.wordRead a off).2.wordRead a (off + 4)).1 = y
  have hlen : ∀ z, (bytesOf z 4).length = 4 := fun z => by simp [bytesOf]
  have htake : (bytesOf x 4 ++ bytesOf y 4).take 8 = bytesOf x 4 ++ bytesOf y 4 :=
    List.take_of_length_le (by have hx := hlen x; have hy := hlen y; rw [List.length_append]; omega)
  have hpow : (256 : Nat) ^ 4 = 2 ^ 32 := rfl
  rw [htake, natOfBytes_append, natOfBytes_word, natOfBytes_word, hlen, hpow]

/-- A word of a register of 4 bytes. -/
theorem State.wordRead_narrow (s : State) (a : Agent) {off o : Nat} (hbase : o / 8 * 8 = off) (h : regBytes off ≠ 8) :
    s.wordRead a o = (s.agentValue a o % 2 ^ 32, s) := by
  simp [State.wordRead, hbase, h]

section
variable (s : State) (a : Agent) {off : Nat} (h8 : off % 8 = 0) (h : regBytes off = 8)
include h8 h

/-- The low half of a register of 8 bytes latches the high half. -/
theorem State.wordRead_low : s.wordRead a off = (s.agentValue a off % 2 ^ 32, { s with clk := { s.clk with
    hiLatch := (s.clk.hiLatch.filter fun e => decide (e.1 ≠ (a, off))) ++ [((a, off), s.agentValue a off / 2 ^ 32 % 2 ^ 32)] } }) := by
  have hbase : off / 8 * 8 = off := by omega
  simp [State.wordRead, hbase, h]

/-- The high half is what the agent has latched. -/
theorem State.wordRead_high {e : (Agent × Nat) × Nat} (hf : (s.clk.hiLatch.find? fun e => decide (e.1 = (a, off))) = some e) :
    s.wordRead a (off + 4) =
      (e.2, { s with clk := { s.clk with hiLatch := s.clk.hiLatch.filter fun e => decide (e.1 ≠ (a, off)) } }) := by
  have hbase : (off + 4) / 8 * 8 = off := by omega
  simp [State.wordRead, hbase, h, hf]

/-- Without a latch the high half is as it stands. -/
theorem State.wordRead_high_unlatched (hn : ∀ e ∈ s.clk.hiLatch, e.1 ≠ (a, off)) :
    s.wordRead a (off + 4) = (s.agentValue a off / 2 ^ 32 % 2 ^ 32, s) := by
  have hbase : (off + 4) / 8 * 8 = off := by omega
  have hf : (s.clk.hiLatch.find? fun e => decide (e.1 = (a, off))) = none := List.find?_eq_none.2 fun e he => by simpa using hn e he
  simp [State.wordRead, hbase, h, hf]

/-- The low half of a register of 8 bytes (R9). -/
theorem lowHalfRead_latches : ∃ t : State, exec (.lowHalfRead a off 4) s = .next (t.emit (.regValue a off (s.agentValue a off % 2 ^ 32))) ∧
    ((a, off), s.agentValue a off / 2 ^ 32 % 2 ^ 32) ∈ t.clk.hiLatch ∧ t = { s with clk := { s.clk with hiLatch := t.clk.hiLatch } } := by
  refine ⟨(s.wordRead a off).2, ?_, ?_, ?_⟩
  · rw [exec_lowHalfRead_word s a (by omega), s.wordRead_low a h8 h, Nat.mod_mod]
  · rw [s.wordRead_low a h8 h]; exact List.mem_append_right _ (List.mem_singleton.2 rfl)
  · rw [s.wordRead_low a h8 h]

/-- The high half that a low-half read latched, which the read uses up (R9). -/
theorem highHalfRead_latched {v : Nat} {rest : List ((Agent × Nat) × Nat)} (hl : s.clk.hiLatch = ((a, off), v) :: rest)
    (hr : ∀ e ∈ rest, e.1 ≠ (a, off)) : exec (.lowHalfRead a (off + 4) 4) s =
      .next (({ s with clk := { s.clk with hiLatch := rest } } : State).emit (.regValue a (off + 4) (v % 2 ^ 32))) := by
  have hf : (s.clk.hiLatch.find? fun e => decide (e.1 = (a, off))) = some ((a, off), v) := by simp [hl]
  have hrest : (s.clk.hiLatch.filter fun e => decide (e.1 ≠ (a, off))) = rest := by
    rw [hl, List.filter_cons_of_neg (by simp)]
    exact List.filter_eq_self.2 fun e he => by simpa using hr e he
  rw [exec_lowHalfRead_word s a (by omega), s.wordRead_high a h8 h hf, hrest]

/-- Without a latch the high half is read as it stands, and both halves give the register (R9). -/
theorem halfReads_unlatched (hn : ∀ e ∈ s.clk.hiLatch, e.1 ≠ (a, off)) :
    exec (.lowHalfRead a (off + 4) 4) s = .next (s.emit (.regValue a (off + 4) (s.agentValue a off / 2 ^ 32 % 2 ^ 32))) ∧
      exec (.lowHalfRead a off 8) s = .next (s.emit (.regValue a off (s.agentValue a off % 2 ^ 64))) := by
  constructor
  · rw [exec_lowHalfRead_word s a (by omega), s.wordRead_high_unlatched a h8 h hn, Nat.mod_mod]
  · have hself : (s.clk.hiLatch.filter fun e => decide (e.1 ≠ (a, off))) = s.clk.hiLatch :=
      List.filter_eq_self.2 fun e he => by simpa using hn e he
    have hnone : (s.clk.hiLatch.find? fun e => decide (e.1 = (a, off))) = none := List.find?_eq_none.2 fun e he => by simpa using hn e he
    have hlow := s.wordRead_low a h8 h
    rw [hself] at hlow
    have hhigh := (s.wordRead a off).2.wordRead_high a h8 h (e := ((a, off), s.agentValue a off / 2 ^ 32 % 2 ^ 32))
      (by rw [hlow, List.find?_append, hnone]; simp)
    rw [hlow, List.filter_append, hself] at hhigh
    have hval : s.agentValue a off % 2 ^ 32 + 2 ^ 32 * (s.agentValue a off / 2 ^ 32 % 2 ^ 32) = s.agentValue a off % 2 ^ 64 := by
      rw [show (2 : Nat) ^ 64 = 2 ^ 32 * 2 ^ 32 from rfl, Nat.mod_mul]
    rw [exec_lowHalfRead_both s a (by omega), hlow, hhigh, Nat.mod_mod, Nat.mod_mod, hval]
    simp

end

end Sys2Proof.Machine
end

section
/-! Writes of single registers (R6, R7, R18, R20), and the settling of O53 and O59. -/
namespace Sys2Proof.Machine
open Sys2Proof.Safety

/-! ### Registers of no effect but their fields' -/

theorem exec_registerWrite {s : State} {a : Agent} {off size be v : Nat} (h : off < 2 ^ 24) :
    exec (.registerWrite a off size be v) s = .next (s.busWrite a off (enabledBytes off size be v)) :=
  congrArg Host.Outcome.next (if_pos h)

/-- CLK_EVENT, RGR_STATUS, AUD_ENTRY_SEL and the reserved offset 0xA00000 have no effect of their own under a write. -/
theorem State.partWrite_plain (s : State) (a : Agent) {off : Nat} (h : off ∈ [0x10038, 0x700000, 0x800008, 0xA00000]) (m v : Nat) :
    s.partWrite a ⟨off, m, v⟩ = s.plainWrite ⟨off, m, v⟩ := by
  simp only [List.mem_cons, List.not_mem_nil, or_false] at h
  rcases h with rfl | rfl | rfl | rfl <;> simp [State.partWrite]

/-- A write of a register that has no effect but its fields' is their write. -/
theorem State.partWrite_row (s : State) (a : Agent) {off : Nat} (h : off ∈ [0x10038, 0x700000, 0x800008]) {w : RegRow} {i : Nat}
    (hrow : regAt off = some (w, i)) (m v : Nat) : s.partWrite a ⟨off, m, v⟩ = s.rowWrite w i ⟨off, m, v⟩ := by
  have hplain : ∀ o ∈ [0x10038, 0x700000, 0x800008], o ∈ [0x10038, 0x700000, 0x800008, 0xA00000] ∧
    o ≠ 0x600018 ∧ o ≠ 0x340008 ∧ o ≠ 0x900000 := by decide
  obtain ⟨hmem, hroll, hgl, htel⟩ := hplain off h
  rw [s.partWrite_plain a hmem]
  simp [State.plainWrite, hrow, hroll, hgl, htel]

/-- The events of CLK_EVENT. -/
def clkEvents : List Field := [CLK_EVENT.REF_LOST, CLK_EVENT.REF_BACK, CLK_EVENT.SLACK_EXH, CLK_EVENT.DEBT_HIGH, CLK_EVENT.OSC_FLOOR,
  CLK_EVENT.CLAMP_PINNED, CLK_EVENT.STEER_PINNED, CLK_EVENT.CEIL_REJECT, CLK_EVENT.CEIL_PENDING, CLK_EVENT.RATE_CANCEL,
  CLK_EVENT.LOCK_LOST, CLK_EVENT.GL_MISMATCH]

theorem regAt_clkEvent : ∃ w, regAt 0x10038 = some (w, 0) ∧ w.fields = clkEvents.map fun e => (e, .rw1c) := ⟨_, rfl, rfl⟩

theorem regAt_auditEntry : ∃ w, regAt 0x800008 = some (w, 0) ∧ w.fields = [(AUD_ENTRY_SEL.INDEX, .rw)] := ⟨_, rfl, rfl⟩

theorem regAt_rangerStatus : ∃ w, regAt 0x700000 = some (w, 0) ∧ ∀ e ∈ w.fields, e.2 = .rgo := ⟨_, rfl, by decide⟩

theorem regAt_reserved : regAt 0xA00000 = none := by decide +kernel

/-- A write at a reserved offset has no effect (R20). -/
theorem State.partWrite_reserved (s : State) (a : Agent) (m v : Nat) : s.partWrite a ⟨0xA00000, m, v⟩ = s := by
  rw [s.partWrite_plain a (by decide)]
  simp [State.plainWrite, regAt_reserved]

theorem regBase_word {off : Nat} (h : off ∈ [0x10038, 0x700000, 0x800008, 0xA00000]) : ∀ i < 4, regBase (off + i) = off := by
  revert off; decide +kernel

/-- None of CLK_EVENT, AUD_ENTRY_SEL and the reserved offset 0xA00000 has an RGO bit. -/
theorem coversRgo_false {off : Nat} (h : off ∈ [0x10038, 0x800008, 0xA00000]) (m v : Nat) : (⟨off, m, v⟩ : RegPart).coversRgo = false := by
  simp only [List.mem_cons, List.not_mem_nil, or_false] at h
  obtain ⟨w, hw, hf⟩ := regAt_clkEvent
  obtain ⟨w', hw', hf'⟩ := regAt_auditEntry
  rcases h with rfl | rfl | rfl
  · simp [RegPart.coversRgo, hw, hf]
  · simp [RegPart.coversRgo, hw', hf']
  · simp [RegPart.coversRgo, regAt_reserved]

theorem RegPart.coversRgo_value (o m v : Nat) : (⟨o, m, v⟩ : RegPart).coversRgo = (⟨o, m, 0⟩ : RegPart).coversRgo := by
  unfold RegPart.coversRgo RegPart.hits
  rfl

/-- Every byte of RGR_STATUS but its second has an RGO bit. -/
theorem coversRgo_rangerStatus {be : Nat} (h0 : 0 < be) (h16 : be < 16) (h2 : be ≠ 2) (v : Nat) :
    (⟨0x700000, enabledMask be, v⟩ : RegPart).coversRgo = true := by
  have hall : ∀ be < 16, 0 < be → be ≠ 2 → (⟨0x700000, enabledMask be, 0⟩ : RegPart).coversRgo = true := by decide +kernel
  rw [RegPart.coversRgo_value]
  exact hall be h16 h0 h2

theorem enabled_any {be : Nat} (h0 : 0 < be) (h16 : be < 16) : (List.range 4).any be.testBit = true := by
  have hall : ∀ be < 16, 0 < be → (List.range 4).any be.testBit = true := by decide
  exact hall be h16 h0

/-! ### The writes -/

/-- A field takes its value modulo its width alone. -/
theorem State.rset_mod (s : State) (f : Field) (i : Nat) {v u : Nat} (h : v % 2 ^ f.width = u % 2 ^ f.width) : s.rset f i v = s.rset f i u := by
  simp only [State.rset, Regs.set, h]

/-- A whole field under a write of its register takes the value's bits (R6). -/
theorem write_auditEntry {s : State} {a : Agent} (v : Nat) (hb : s.bivouac = false) (hw : agentWrites a 0x800008 = true) :
    exec (.registerWrite a 0x800008 4 15 v) s = .next (s.rset0 AUD_ENTRY_SEL.INDEX v) := by
  obtain ⟨w, hrow, hfields⟩ := regAt_auditEntry
  have hnotRemote : ∀ d, a ≠ .remote d := by rintro d rfl; exact absurd hw (by simp [agentWrites])
  have hparts := regPartsOf_word (regBase_word (off := 0x800008) (by decide)) (be := 15) (by decide) v
  rw [exec_registerWrite (by decide), State.busWrite_takes hparts (coversRgo_false (by decide) _ _) (remoteRefused_of_not_remote hnotRemote _) hb hw,
    State.partWrite_row s a (by decide) hrow, State.rowWrite, hfields, List.foldl_cons, List.foldl_nil,
    enabledValue_full]
  have hhits : ∀ x, (⟨0x800008, enabledMask 15, x⟩ : RegPart).hits AUD_ENTRY_SEL.INDEX = true := fun x => by
    change decide (bitsOf (enabledMask 15) 0 16 ≠ 0) = true; decide
  have htakes : ∀ x, fieldTakes AUD_ENTRY_SEL.INDEX x = true := fun x => rfl
  have hmask : bitsOf (enabledMask 15) AUD_ENTRY_SEL.INDEX.lo AUD_ENTRY_SEL.INDEX.width = 2 ^ 16 - 1 := by decide
  simp only [State.fieldWrite, hhits, htakes, not_true_eq_false, if_false, if_true]
  refine congrArg Host.Outcome.next (s.rset_mod _ 0 ?_)
  simp only [RegPart.field, hmask, Nat.and_two_pow_sub_one_eq_mod]
  simp only [bitsOf, AUD_ENTRY_SEL.INDEX, Nat.shiftRight_zero]
  omega

/-- CLK_EVENT under a write of its first `n` bits: each event of them takes the write, and the others stand (R6). -/
theorem write_clkEvent {s : State} {a : Agent} {be v n : Nat} (hb : s.bivouac = false) (hw : agentWrites a 0x10038 = true)
    (hbe : (List.range 4).any be.testBit = true) (hm : enabledMask be = 2 ^ n - 1) (hv : enabledValue be v = v % 2 ^ n) :
    ∃ t : State, exec (.registerWrite a 0x10038 4 be v) s = .next t ∧ t = { s with regs := t.regs } ∧
      ∀ e ∈ clkEvents, t.rget e = if e.lo < n then (if bitAt v e.lo && !setNow s e then 0 else s.rget e % 2) else s.rget e := by
  obtain ⟨w, hrow, hfields⟩ := regAt_clkEvent
  have hnotRemote : ∀ d, a ≠ .remote d := by rintro d rfl; exact absurd hw (by simp [agentWrites])
  have hparts := regPartsOf_word (regBase_word (off := 0x10038) (by decide)) hbe v
  refine ⟨s.rowWrite w 0 ⟨0x10038, enabledMask be, enabledValue be v⟩, ?_, ?_, fun e he => ?_⟩
  · rw [exec_registerWrite (by decide), State.busWrite_takes hparts (coversRgo_false (by decide) _ _) (remoteRefused_of_not_remote hnotRemote _) hb hw,
      State.partWrite_row s a (by decide) hrow]
  · obtain ⟨regs, h⟩ := s.rowWrite_eq w 0 ⟨0x10038, enabledMask be, enabledValue be v⟩
    rw [h]
  · have hmem : (e, Access.rw1c) ∈ w.fields := hfields ▸ List.mem_map.2 ⟨e, he, rfl⟩
    have hkeys : (w.fields.map fun x => x.1.key 0).Nodup := by rw [hfields]; decide
    have hwidth : ∀ e ∈ clkEvents, e.width = 1 := by decide
    rw [s.rget_rowWrite _ hmem hkeys, s.rget_fieldWrite_event _ (hwidth e he), hm, hv]
    simp only [bitAt, Nat.testBit_two_pow_sub_one, Nat.testBit_mod_two_pow, decide_eq_true_eq]
    split
    · simp [*]
    · rfl

/-- A write of RGR_STATUS that covers an RGO bit leaves its entry in the log alone (R7). -/
theorem write_rangerStatus (s : State) (a : Agent) {be : Nat} (h0 : 0 < be) (h16 : be < 16) (h2 : be ≠ 2) (v : Nat) :
    exec (.registerWrite a 0x700000 4 be v) s = .next (s.logReject a 0x700000) := by
  obtain ⟨w, hrow, hrgo⟩ := regAt_rangerStatus
  have hparts := regPartsOf_word (regBase_word (off := 0x700000) (by decide)) (enabled_any h0 h16) v
  rw [exec_registerWrite (by decide), State.busWrite_rgo s hparts (coversRgo_rangerStatus h0 h16 h2 _) fun t => ?_]
  rw [State.partWrite_row t a (by decide) hrow, State.rowWrite_rgo _ _ _ hrgo]

/-- A remote device's write outside ROLL and TEL leaves its entry in the log alone (R18). -/
theorem write_remote (s : State) {d off size be : Nat} (v : Nat) (ho : off < 2 ^ 24) (hw : agentWrites (.remote d) off = false)
    (hs : 0 < size) (hbe : be.testBit 0 = true) : exec (.registerWrite (.remote d) off size be v) s = .next (s.logReject (.remote d) off) := by
  have hfirst : (off + 0, byteOf v 0) ∈ enabledBytes off size be v :=
    List.mem_map.2 ⟨0, List.mem_filter.2 ⟨List.mem_range.2 hs, hbe⟩, rfl⟩
  have hall : accessAllowed (.remote d) (enabledBytes off size be v) = false := List.all_eq_false.2 ⟨_, hfirst, by simp [hw]⟩
  rw [exec_registerWrite ho, State.busWrite_remoteRefused s off (by simp [remoteRefused, hall])]

theorem agentValue_gst {s : State} (hb : s.bivouac = false) : s.agentValue .pf0 0x10008 = s.gst % 2 ^ 64 := by
  simp [State.agentValue, State.regValue, State.blockShown, hb, specialAt, State.specialView]

/-- Settles O53: writes by the part of a register that an access covers, and reads word by word. -/
theorem registerAccessesAndTheirLog : Obligations.RegisterAccessesAndTheirLog := by
  unfold Obligations.RegisterAccessesAndTheirLog
  refine ⟨fun s a v => write_auditEntry v, ?_, ?_, fun s d off size be v => write_remote s v, ?_, ?_, ?_, ?_, ?_⟩
  · intro s a be v hb hw hbe
    have hlow : ∀ e ∈ [CLK_EVENT.REF_LOST, CLK_EVENT.REF_BACK, CLK_EVENT.SLACK_EXH, CLK_EVENT.DEBT_HIGH, CLK_EVENT.OSC_FLOOR,
        CLK_EVENT.CLAMP_PINNED, CLK_EVENT.STEER_PINNED, CLK_EVENT.CEIL_REJECT], e ∈ clkEvents ∧ e.lo < 8 := by decide
    have hhigh : ∀ e ∈ [CLK_EVENT.CEIL_PENDING, CLK_EVENT.RATE_CANCEL, CLK_EVENT.LOCK_LOST, CLK_EVENT.GL_MISMATCH],
        e ∈ clkEvents ∧ ¬ e.lo < 8 ∧ e.lo < 32 := by decide
    rcases hbe with rfl | rfl
    · obtain ⟨t, hexec, hframe, hev⟩ := write_clkEvent (be := 1) (v := v) (n := 8) hb hw (by decide) (by decide) (enabledValue_low v)
      refine ⟨t, hexec, hframe, fun e he => ?_, fun e he => ?_⟩
      · rw [hev e (hlow e he).1, if_pos (hlow e he).2]
      · rw [hev e (hhigh e he).1, if_neg (hhigh e he).2.1, if_pos rfl]
    · obtain ⟨t, hexec, hframe, hev⟩ := write_clkEvent (be := 15) (v := v) (n := 32) hb hw (by decide) (by decide) (enabledValue_full v)
      refine ⟨t, hexec, hframe, fun e he => ?_, fun e he => ?_⟩
      · rw [hev e (hlow e he).1, if_pos (by have := (hlow e he).2; omega)]
      · rw [hev e (hhigh e he).1]
        exact (if_pos (hhigh e he).2.2).trans (if_neg (by decide)).symm
  · intro s a be v h0 h16 h2
    obtain ⟨t, ht, hlog⟩ := s.logReject_spec a 0x700000
    exact ⟨t, by rw [write_rangerStatus s a h0 h16 h2, ht], hlog⟩
  · intro s f v
    have hparts := regPartsOf_word (regBase_word (off := 0x10038) (by decide)) (be := 15) (by decide) v
    rw [exec_registerWrite (by decide), State.busWrite_unseen s hparts (coversRgo_false (by decide) _ _) rfl (by simp [agentWrites])]
  · intro s a off size v ho
    have hnone : enabledBytes off size 0 v = [] := by simp [enabledBytes]
    have hremote : remoteRefused a [] = false := by cases a <;> rfl
    rw [exec_registerWrite ho, hnone]
    simp [State.busWrite, regPartsOf, hremote]
  · intro s v
    have hparts := regPartsOf_word (regBase_word (off := 0xA00000) (by decide)) (be := 15) (by decide) v
    rw [exec_registerWrite (by decide)]
    by_cases hb : s.bivouac = true
    · simp [State.busWrite, hparts, coversRgo_false, remoteRefused, hb]
    · rw [State.busWrite_takes hparts (coversRgo_false (by decide) _ _) rfl (by simpa using hb) rfl,
        State.partWrite_reserved]
  · intro s a off h8
    refine ⟨fun h => ⟨lowHalfRead_latches s a h8 h, fun v rest => highHalfRead_latched s a h8 h, halfReads_unlatched s a h8 h⟩, fun h => ?_⟩
    rw [exec_lowHalfRead_word s a (by omega), exec_lowHalfRead_word s a (by omega), s.wordRead_narrow a (off := off) (by omega) h,
      s.wordRead_narrow a (off := off) (by omega) h, Nat.mod_mod, Nat.mod_mod]
    exact ⟨rfl, rfl⟩
  · intro s hb
    obtain ⟨t, hexec, hlatch, -⟩ := lowHalfRead_latches s .pf0 (off := 0x10008) (by decide) (by decide +kernel)
    rw [agentValue_gst hb] at hexec hlatch
    have hlow : s.gst % 2 ^ 64 % 2 ^ 32 = s.gst % 2 ^ 32 := Nat.mod_mod_of_dvd _ ⟨2 ^ 32, rfl⟩
    have hhigh : s.gst % 2 ^ 64 / 2 ^ 32 % 2 ^ 32 = s.gst / 2 ^ 32 % 2 ^ 32 := by
      rw [show (2 : Nat) ^ 64 = 2 ^ 32 * 2 ^ 32 from rfl, Nat.mod_mul_right_div_self, Nat.mod_mod]
    exact ⟨t, hlow ▸ hexec, hhigh ▸ hlatch⟩

/-- Settles O59: nothing is listed at reset, so every field reads its reset value. -/
theorem resetLeavesTheResetValues : Obligations.ResetLeavesTheResetValues := by
  unfold Obligations.ResetLeavesTheResetValues
  exact ⟨fun _ _ => rfl, State.reset_memoryCanonical, rfl, fun _ => rfl, rfl, rfl, rfl, rfl, rfl, rfl, rfl, rfl, rfl, rfl, rfl⟩

end Sys2Proof.Machine
end

section
/-! Service packets (spec/11): what becomes of a packet that arrives, and of a READ or a WRITE at its target. -/
namespace Sys2Proof.Machine
open Sys2Proof.Safety

/-! ### A packet's arrival (R244 to R246) -/

theorem State.sampleRecord_unsampled (s : State) {k : Packet} (h : k.sampled = false) (p o : Nat) (e : Bool) (t : Nat) :
    s.sampleRecord k p o e t = s := by
  simp [State.sampleRecord, h]

/-- A packet on another channel than its kind's is counted and dropped. -/
theorem State.packetAt_wrongChannel (s : State) {kind : Nat} {k : Packet} (h : kindVc kind ≠ some k.vc) (p : Nat)
    (sink : State → Packet → State) : s.packetAt kind p k sink = s.fabCount 7 := if_pos h

/-- A packet for another device waits for a hop. -/
theorem State.packetAt_elsewhere {s : State} {kind : Nat} {k : Packet} (hvc : kindVc kind = some k.vc) (hd : k.dest ≠ s.ownId) (p : Nat)
    (sink : State → Packet → State) : s.packetAt kind p k sink = s.parkAt p { k with kind := kind } false := by
  simp [State.packetAt, hvc, hd]

/-- A packet for this device sinks. -/
theorem State.packetAt_own {s : State} {kind : Nat} {k : Packet} (hvc : kindVc kind = some k.vc) (hd : k.dest = s.ownId)
    (hs : k.sampled = false) (p : Nat) (sink : State → Packet → State) :
    s.packetAt kind p k sink = sink (s.fabCount 1) { k with kind := kind } :=
  (if_neg fun h => h hvc).trans ((if_neg fun h => h hd).trans (congrArg (fun t => sink (State.fabCount t 1) { k with kind := kind })
    (s.sampleRecord_unsampled (k := { k with kind := kind }) hs p 31 false s.gst)))

section
variable {s : State} {p : Nat} {k : Packet} (hp : inPortOk p = true)
include hp

/-! An arrival's command by its kind. -/

theorem exec_read : exec (.read p k) s = .next (s.packetAt 0x01 p k fun s k => s.serveRequest p k) := onUnit_of hp _ _
theorem exec_write : exec (.write p k) s = .next (s.packetAt 0x02 p k fun s k => s.serveRequest p k) := onUnit_of hp _ _
theorem exec_resp : exec (.resp p k) s = .next (s.packetAt 0x03 p k State.response) := onUnit_of hp _ _
theorem exec_hostcpl : exec (.hostcpl p k) s = .next (s.packetAt 0x04 p k fun s k => s.toStage p k) := onUnit_of hp _ _
theorem exec_back : exec (.back p k) s = .next (s.packetAt 0x07 p k fun s k =>
    if p < 18 then s.treeStatus k.tree k.tag (some p) k.status else s) := onUnit_of hp _ _

/-- A BWRITE on another channel than 3 is counted and dropped. -/
theorem exec_bwrite_wrongChannel (h : k.vc ≠ 3) : exec (.bwrite p k) s = .next (s.fabCount 7) :=
  (onUnit_of hp _ _).trans (by simp [h])

/-- A READ for this device is served there. -/
theorem exec_read_own (hvc : k.vc = 3) (hd : k.dest = s.ownId) (hs : k.sampled = false) :
    exec (.read p k) s = .next ((s.fabCount 1).serveRequest p { k with kind := 0x01 }) := by
  rw [exec_read hp, State.packetAt_own (by rw [hvc]; rfl) hd hs]

/-- A WRITE for this device is served there. -/
theorem exec_write_own (hvc : k.vc = 3) (hd : k.dest = s.ownId) (hs : k.sampled = false) :
    exec (.write p k) s = .next ((s.fabCount 1).serveRequest p { k with kind := 0x02 }) := by
  rw [exec_write hp, State.packetAt_own (by rw [hvc]; rfl) hd hs]

end

/-! ### A request at its target (R17, R156, R246, R254) -/

/-- A count of packets takes no room for responses. -/
@[simp] theorem State.fabCount_responseSpace (s : State) (n : Nat) : (s.fabCount n).responseSpace = s.responseSpace := rfl

@[simp] theorem State.fabCount_rget (s : State) (n : Nat) (f : Field) (i : Nat) : (s.fabCount n).rget f i = s.rget f i := rfl

section
variable {s : State} {k : Packet}

/-- A request waits while its response has no room. -/
theorem State.serveRequest_full (h : 32 < s.responseSpace + responseFlits k) (p : Nat) : s.serveRequest p k = s.parkAt p k false :=
  if_pos h

variable (hroom : s.responseSpace + responseFlits k ≤ 32) (p : Nat)
include hroom

/-- A request for a place that no access reaches is answered NOT_PERMITTED. -/
theorem State.serveRequest_refused (h : s.place k.addr k.len false = none) : s.serveRequest p k = s.respond k 0x04 [] := by
  simp [State.serveRequest, Nat.not_lt.2 hroom, h]

/-- A request whose first gate that is not open is `r` meets that gate. -/
theorem State.serveRequest_closed {q : Place} {r : Nat} (h : s.place k.addr k.len false = some q)
    (hr : (s.gateRegions q k.len).find? (fun r => decide (s.rget FAB_GATE.STATE r ≠ 0)) = some r) :
    s.serveRequest p k = s.atClosedGate r p k := by
  simp only [State.serveRequest, Nat.not_lt.2 hroom, if_false, h, hr]

/-- A request for memory or a register passes open gates, whose regions it wakes, and takes effect. -/
theorem State.serveRequest_open {q : Place} (h : s.place k.addr k.len false = some q) (hq : ∀ c a, q ≠ .spad c a)
    (hr : ∀ r ∈ s.gateRegions q k.len, s.rget FAB_GATE.STATE r = 0) :
    s.serveRequest p k = ((s.gateRegions q k.len).foldl State.wakeIdle s).perform p k q := by
  have hopen : (s.gateRegions q k.len).find? (fun r => decide (s.rget FAB_GATE.STATE r ≠ 0)) = none :=
    List.find?_eq_none.2 fun r h => by simp [hr r h]
  simp only [State.serveRequest, Nat.not_lt.2 hroom, if_false, h, hopen]

end

/-- A state in which a request takes effect: regions woken, and bytes counted for the bridge. -/
def State.reached (s : State) (regs : Assoc Nat) (arrivals : List (Nat × Nat × Nat)) : State :=
  { s with regs := regs, mem := { s.mem with arrivals := arrivals } }

/-- Wakes write power states alone, and a crossing of the bridge its count alone. -/
theorem State.wakes_crossBridge (s : State) (rs : List Nat) (src dst n : Nat) :
    ∃ regs l, (rs.foldl State.wakeIdle s).crossBridge src dst n = s.reached regs l := by
  have hwakes : ∃ regs, rs.foldl State.wakeIdle s = { s with regs := regs } :=
    List.foldlRecOn rs _ (motive := fun t : State => ∃ regs, t = { s with regs := regs }) ⟨s.regs, rfl⟩ fun t ht r _ => by
      obtain ⟨regs, rfl⟩ := ht
      unfold State.wakeIdle
      dsimp only
      split <;> exact ⟨_, rfl⟩
  obtain ⟨regs, hregs⟩ := hwakes
  rw [hregs, State.crossBridge]
  split
  · exact ⟨regs, s.mem.arrivals, rfl⟩
  · exact ⟨regs, _, rfl⟩

section
variable {s : State} {p : Nat} {k : Packet} {q : Place} {st : Nat} {P : State → Prop}
  (hroom : s.responseSpace + responseFlits k ≤ 32) (hq : s.place k.addr k.len false = some q) (hspad : ∀ c a, q ≠ .spad c a)
  (hopen : ∀ r ∈ s.gateRegions q k.len, s.rget FAB_GATE.STATE r = 0)
include hroom hq hspad hopen

/-- A READ at open gates is answered with what its place gives. -/
theorem State.serveRequest_reads {bs : List Byte} (hk : k.kind = 0x01)
    (h : ∀ regs l, ∃ t : State, (s.reached regs l).readPlace k q = (st, bs, t) ∧ P t) :
    ∃ t : State, s.serveRequest p k = t.respond k st bs ∧ P t := by
  rw [State.serveRequest_open hroom p hq hspad hopen]
  generalize s.gateRegions q k.len = rs
  obtain ⟨regs, l, hreach⟩ := s.wakes_crossBridge rs ((rs.foldl State.wakeIdle s).placeDie q) (inPortDie p) k.len
  obtain ⟨t, hread, ht⟩ := h regs l
  exact ⟨t, by simp only [State.perform, hk, if_true, hreach, hread], ht⟩

/-- A WRITE at open gates takes effect at its place and is answered with its status. -/
theorem State.serveRequest_writes (hk : k.kind ≠ 0x01)
    (h : ∀ regs l, ∃ t : State, (s.reached regs l).writePlace k q = (st, t) ∧ P t) :
    ∃ t : State, s.serveRequest p k = t.respond k st [] ∧ P t := by
  rw [State.serveRequest_open hroom p hq hspad hopen]
  generalize s.gateRegions q k.len = rs
  obtain ⟨regs, l, hreach⟩ := s.wakes_crossBridge rs (inPortDie p) ((rs.foldl State.wakeIdle s).placeDie q) k.len
  obtain ⟨t, hwrite, ht⟩ := h regs l
  exact ⟨t, by simp only [State.perform, hk, if_false, hreach, hwrite], ht⟩

end

/-! ### Places and their gates (R16 to R18, R156) -/

theorem bitsOf_of_lt {v w : Nat} (h : v < 2 ^ w) : bitsOf v 0 w = v := Nat.mod_eq_of_lt h

theorem bitsOf_above {v lo : Nat} (h : v < 2 ^ lo) (w : Nat) : bitsOf v lo w = 0 := by
  rw [bitsOf, Nat.shiftRight_eq_div_pow, Nat.div_eq_of_lt h, Nat.zero_mod]

/-- An address below 2^48 is one of memory, if it is installed and no reserved area is touched. -/
theorem State.place_below (s : State) {addr n : Nat} (h : addr < 2 ^ 48) :
    s.place addr n false =
      if addr + Nat.max 1 n ≤ installed ∧ inReserved addr (Nat.max 1 n) = false then some (.mem addr) else none := by
  simp [State.place, bitsOf_above h, bitsOf_of_lt h]

theorem State.place_mem (s : State) {addr n : Nat} (hn : 0 < n) (hi : addr + n ≤ installed) (hr : inReserved addr n = false) :
    s.place addr n false = some (.mem addr) := by
  have hlt : addr < 2 ^ 48 := by simp only [installed, dieBytes] at hi; omega
  rw [s.place_below hlt, show Nat.max 1 n = n from Nat.max_eq_right hn, if_pos ⟨hi, hr⟩]

/-- No memory access reaches beyond the installed memory or into a reserved area. -/
theorem State.place_none (s : State) {addr n : Nat} (hn : 0 < n) (ha : addr < 2 ^ 48)
    (h : installed < addr + n ∨ inReserved addr n = true) : s.place addr n false = none := by
  rw [s.place_below ha, show Nat.max 1 n = n from Nat.max_eq_right hn, if_neg]
  rintro ⟨hi, hr⟩
  rcases h with h | h
  · omega
  · simp [hr] at h

theorem State.place_reg (s : State) {addr off n : Nat} (ha : addr = 2 * 2 ^ 48 + off) (h : off + n ≤ 2 ^ 24) (hn : 0 < n) :
    s.place addr n false = some (.reg off) := by
  have hspace : bitsOf addr 48 2 = 2 := by rw [bitsOf, Nat.shiftRight_eq_div_pow]; omega
  have hoff : bitsOf addr 0 48 = off := by rw [bitsOf, Nat.shiftRight_zero]; omega
  have hmax : Nat.max 1 n = n := Nat.max_eq_right hn
  simpa [State.place, hspace, hoff, hmax] using h

/-- An aligned burst is one part. -/
theorem burstParts_burst {off : Nat} (h : off % 64 = 0) : burstParts 65 off 64 = [(off, 64)] := by
  simp [burstParts, h]

theorem State.gateRegions_burst (s : State) {off : Nat} (h : off % 64 = 0) :
    s.gateRegions (.mem off) 64 = [regionOfStack (stackOf off)] := by
  simp only [State.gateRegions, show Nat.max 1 64 = 64 from rfl, burstParts_burst h]
  rfl

theorem regionOfStack_lt {off : Nat} (h : off < installed) : regionOfStack (stackOf off) < 288 := by
  have hdie : off / dieBytes < 2 := Nat.div_lt_of_lt_mul (by simpa [installed, Nat.mul_comm] using h)
  have hmod : off % dieBytes / 4096 % 6 < 6 := Nat.mod_lt _ (by decide)
  simp only [regionOfStack, stackOf]
  omega

/-- Where every gate is open, a burst's is. -/
theorem State.burst_gates_open {s : State} {off : Nat} (ha : off % 64 = 0) (hi : off + 64 ≤ installed)
    (hg : ∀ r, r < 288 → s.rget FAB_GATE.STATE r = 0) : ∀ r ∈ s.gateRegions (.mem off) 64, s.rget FAB_GATE.STATE r = 0 := by
  rw [State.gateRegions_burst s ha]
  exact List.forall_mem_singleton.2 (hg _ (regionOfStack_lt (by omega)))

end Sys2Proof.Machine
end

section
/-! Service reads and writes of a burst (R159, R160, R166). -/
namespace Sys2Proof.Machine
open Sys2Proof.Safety

/-! ### The hub cache and the trackers change nothing that is stored -/

theorem State.trackerHit_eq (s : State) (b : Nat) : ∃ tr, s.trackerHit b = { s with mem := { s.mem with trackers := tr } } := ⟨_, rfl⟩

theorem State.trackerMiss_eq (s : State) (b tweak req : Nat) :
    ∃ ms tr, s.trackerMiss b tweak req = { s with mem := { s.mem with misses := ms, trackers := tr } } := by
  unfold State.trackerMiss
  cases Assoc.find s.mem.misses req with
  | none => exact ⟨_, _, rfl⟩
  | some e => dsimp only; split <;> exact ⟨_, _, rfl⟩

theorem State.hubInsert_eq (s : State) (b tweak : Nat) :
    ∃ hub tr, s.hubInsert b tweak = { s with mem := { s.mem with hub := hub, trackers := tr } } :=
  List.foldlRecOn _ _ (motive := fun t : State => ∃ hub tr, t = { s with mem := { s.mem with hub := hub, trackers := tr } })
    ⟨_, _, rfl⟩ fun t ht e _ => by
      obtain ⟨hub, tr, rfl⟩ := ht
      exact ⟨_, _, rfl⟩

/-! ### A burst under its own tweak, with no error and no access of the tick before it -/

theorem State.applySched_none {s : State} (h : s.mem.sched = []) : s.applySched = s := by
  unfold State.applySched
  rw [h, List.foldl_nil, ← h]

section
variable {s : State} {off tweak : Nat} (hbad : s.mem.badBursts = []) (hsched : s.mem.sched = []) (htweak : s.tweakOf (off / 64) = tweak)
include hbad hsched htweak

theorem State.orderedRead_good (n : Nat) (sched cached : Bool) :
    (s.orderedRead off n tweak sched cached).1 = s.memBytes off n ∧ (s.orderedRead off n tweak sched cached).2.1 = false := by
  have hread : ∀ t : State, t.mem.badBursts = [] → t.tweakOf (off / 64) = tweak →
      t.burstRead off n tweak sched = (t.memBytes off n, false, t) := fun t hb ht => by simp [State.burstRead, hb, ht]
  unfold State.orderedRead
  rw [State.applySched_none hsched]
  cases cached with
  | false => simp only [Bool.false_eq_true, if_false, hread s hbad htweak, and_self]
  | true =>
    have hcached := hread { s with mem := { s.mem with badBursts := [] } } rfl htweak
    simp only [if_true, hcached]
    exact ⟨rfl, trivial⟩

/-- A service read of such a burst gives its bytes, from the hub cache or from the memory. -/
theorem State.svcBurst_good (n req : Nat) :
    (s.svcBurst off n tweak req).1 = s.memBytes off n ∧ (s.svcBurst off n tweak req).2.1 = false := by
  by_cases hhub : s.hubHas (off / 64) tweak = true
  · simp only [State.svcBurst, hhub, if_true]
    obtain ⟨tr, hhit⟩ := s.trackerHit_eq (off / 64)
    obtain ⟨hub, tr', hins⟩ := (s.trackerHit (off / 64)).hubInsert_eq (off / 64) tweak
    rw [hins, hhit]
    exact State.orderedRead_good (s := { s with mem := { s.mem with trackers := tr', hub := hub } }) hbad hsched htweak n false true
  · simp only [State.svcBurst, hhub]
    obtain ⟨ms, tr, hmiss⟩ := s.trackerMiss_eq (off / 64) tweak req
    rw [hmiss]
    exact State.orderedRead_good (s := { s with mem := { s.mem with misses := ms, trackers := tr } }) hbad hsched htweak n false false

/-- A service read of an aligned burst gives its bytes, and stores nothing. -/
theorem State.svcRead_burst (ha : off % 64 = 0) (req : Nat) :
    ∃ t : State, s.svcRead off 64 tweak req = (s.memBytes off 64, false, t) ∧ t.mem.cells = s.mem.cells := by
  obtain ⟨hbytes, hgood⟩ := State.svcBurst_good hbad hsched htweak 64 req
  refine ⟨(s.svcBurst off 64 tweak req).2.2, ?_, s.svcBurst_cells off 64 tweak req⟩
  simp only [State.svcRead, burstParts_burst ha, List.foldl_cons, List.foldl_nil, List.nil_append, Bool.false_or, hbytes, hgood]

end

/-- A service write of a whole aligned burst stores its bytes, whatever the burst held. -/
theorem State.svcWrite_burst {s : State} {off : Nat} (tweak : Nat) {bs : List Byte} (hsched : s.mem.sched = []) (ha : off % 64 = 0)
    (hn : bs.length = 64) :
    ∃ t : State, s.svcWrite off bs tweak = (false, t) ∧ t.mem.cells = (s.memStore off bs).mem.cells ∧ t.cores = s.cores := by
  have hparts : burstParts (bs.length + 1) off bs.length = [(off, 64)] := by rw [hn]; exact burstParts_burst ha
  have hpart : (bs.drop (off - off)).take 64 = bs := by rw [Nat.sub_self, List.drop_zero, List.take_of_length_le (Nat.le_of_eq hn)]
  have hnone : (s.mem.sched.any fun a => decide (a.off / 64 = off / 64)) = false := by rw [hsched]; rfl
  have hburst : s.svcBurstWrite off bs tweak = s.burstWrite off bs tweak false := by rw [State.svcBurstWrite, hnone]; rfl
  have hwhole : (s.burstWrite off bs tweak false).1 = false ∧
      (s.burstWrite off bs tweak false).2.mem.cells = (s.memStore off bs).mem.cells ∧
      (s.burstWrite off bs tweak false).2.cores = s.cores := by
    simp only [State.burstWrite, hn, if_true]
    exact ⟨trivial, rfl, rfl⟩
  obtain ⟨hgood, hcells, hcores⟩ := hwhole
  refine ⟨(s.burstWrite off bs tweak false).2, ?_, hcells, hcores⟩
  simp only [State.svcWrite, hparts, List.foldl_cons, List.foldl_nil, hpart, hburst, hgood, Bool.false_or]

end Sys2Proof.Machine
end

section
/-! Service reads, writes, responses and host packets at this device; ID assignment and telemetry pushes (R239, R258). -/
namespace Sys2Proof.Machine
open Sys2Proof.Safety

/-! ### READ and WRITE -/

theorem responseFlits_write (k : Packet) : responseFlits { k with kind := 0x02 } = 1 := by
  simp [responseFlits, ceilDiv]

theorem responseFlits_read_short {k : Packet} (h : k.len ≤ 224) : responseFlits { k with kind := 0x01 } = 1 := by
  simp only [responseFlits, ceilDiv, if_true]
  omega

theorem responseFlits_write_le (k : Packet) : responseFlits { k with kind := 0x02 } ≤ responseFlits { k with kind := 0x01 } := by
  rw [responseFlits_write]
  simp only [responseFlits, ceilDiv, if_true]
  omega

section
variable {s t : State} {k : Packet} {off : Nat}

theorem State.readPlace_mem {bs : List Byte} (h : s.svcRead off k.len physTweak (reqRemote k.src) = (bs, false, t)) :
    s.readPlace k (.mem off) = (0, bs, t) := by
  simp [State.readPlace, h]

theorem State.writePlace_mem (h : s.svcWrite off (k.data.take k.len) physTweak = (false, t)) :
    s.writePlace k (.mem off) = (0, t) := by
  simp [State.writePlace, h]

/-- A write of a register that another device may not write is NOT_PERMITTED and logged (R18). -/
theorem State.writePlace_reg_refused (hn : 0 < (k.data.take k.len).length) (h : ∀ d, agentWrites (.remote d) off = false) :
    s.writePlace k (.reg off) = (0x04, s.logReject (.remote k.src) off) := by
  have hrefused : remoteRefused (.remote k.src)
      (((List.range (k.data.take k.len).length).zip (k.data.take k.len)).map fun e => (off + e.1, e.2)) = true := by
    generalize k.data.take k.len = bs at hn
    match bs, hn with
    | b :: bs, _ => simp [remoteRefused, accessAllowed, List.range_succ_eq_map, h]
  simp only [State.writePlace, hrefused, if_true, State.busWrite_remoteRefused _ _ hrefused]

end

section
variable {s : State} {p : Nat} {k : Packet} (hp : inPortOk p = true) (hvc : k.vc = 3) (hd : k.dest = s.ownId) (hs : k.sampled = false)
include hp hvc hd hs

/-- A READ of a burst that no error and no access of the tick touches is answered with its bytes. -/
theorem read_burst_served (hlen : k.len = 64) (ha : k.addr % 64 = 0) (hi : k.addr + 64 ≤ installed)
    (hr : inReserved k.addr 64 = false) (hg : ∀ r, r < 288 → s.rget FAB_GATE.STATE r = 0) (ht : s.tweakOf (k.addr / 64) = physTweak)
    (hbad : s.mem.badBursts = []) (hsched : s.mem.sched = []) (hroom : s.responseSpace ≤ 31) :
    ∃ t : State, exec (.read p k) s =
      .next (t.respond { k with kind := 0x01 } 0 ((List.range 64).map fun i => Assoc.get 0 s.mem.cells (k.addr + i))) ∧
        t.mem.cells = s.mem.cells := by
  have hflits : responseFlits { k with kind := 0x01 } = 1 := responseFlits_read_short (by omega)
  have hplace : (s.fabCount 1).place k.addr k.len false = some (.mem k.addr) := by rw [hlen]; exact State.place_mem _ (by decide) hi hr
  have hgates : ∀ r ∈ (s.fabCount 1).gateRegions (.mem k.addr) k.len, s.rget FAB_GATE.STATE r = 0 := by
    rw [hlen]; exact State.burst_gates_open (s := s.fabCount 1) ha hi hg
  obtain ⟨t, hserve, hcells⟩ := State.serveRequest_reads (s := s.fabCount 1) (p := p) (k := { k with kind := 0x01 })
    (bs := s.memBytes k.addr 64) (P := fun t => t.mem.cells = s.mem.cells)
    (by rw [hflits, State.fabCount_responseSpace]; omega) hplace (by simp) hgates rfl
    fun regs l => by
      obtain ⟨t, hread, hcells⟩ := State.svcRead_burst (s := (s.fabCount 1).reached regs l) hbad hsched ht ha (reqRemote k.src)
      exact ⟨t, State.readPlace_mem (by rw [hlen]; exact hread), hcells⟩
  exact ⟨t, by rw [exec_read_own hp hvc hd hs, hserve]; rfl, hcells⟩

/-- A WRITE of a burst stores its bytes and no others, and is answered. -/
theorem write_burst_served (hlen : k.len = 64) (ha : k.addr % 64 = 0) (hi : k.addr + 64 ≤ installed)
    (hr : inReserved k.addr 64 = false) (hg : ∀ r, r < 288 → s.rget FAB_GATE.STATE r = 0)
    (hsched : s.mem.sched = []) (hroom : s.responseSpace ≤ 31) (hdata : k.data.length = 64) :
    ∃ t : State, exec (.write p k) s = .next (t.respond { k with kind := 0x02 } 0 []) ∧
      (∀ i, i < 64 → Assoc.get 0 t.mem.cells (k.addr + i) = k.data.getD i 0) ∧
      (∀ a, a < k.addr ∨ k.addr + 64 ≤ a → Assoc.get 0 t.mem.cells a = Assoc.get 0 s.mem.cells a) ∧ t.cores = s.cores := by
  have hplace : (s.fabCount 1).place k.addr k.len false = some (.mem k.addr) := by rw [hlen]; exact State.place_mem _ (by decide) hi hr
  have hgates : ∀ r ∈ (s.fabCount 1).gateRegions (.mem k.addr) k.len, s.rget FAB_GATE.STATE r = 0 := by
    rw [hlen]; exact State.burst_gates_open (s := s.fabCount 1) ha hi hg
  obtain ⟨t, hserve, hcells, hcores⟩ := State.serveRequest_writes (s := s.fabCount 1) (p := p) (k := { k with kind := 0x02 })
    (P := fun t => t.mem.cells = (s.memStore k.addr k.data).mem.cells ∧ t.cores = s.cores)
    (by rw [responseFlits_write, State.fabCount_responseSpace]; omega) hplace (by simp) hgates (show 2 ≠ 1 by decide)
    fun regs l => by
      obtain ⟨t, hwrite, hstored⟩ := State.svcWrite_burst (s := (s.fabCount 1).reached regs l) physTweak hsched ha hdata
      exact ⟨t, State.writePlace_mem (by rw [hlen, List.take_of_length_le (Nat.le_of_eq hdata)]; exact hwrite), hstored⟩
  refine ⟨t, by rw [exec_write_own hp hvc hd hs, hserve], fun i hi => ?_, fun a h => ?_, hcores⟩
  · rw [hcells]; exact s.memByte_memStore_in _ _ _ (by omega)
  · rw [hcells]; exact s.memByte_memStore_out _ _ _ (by omega)

/-- A request outside the installed memory or in a reserved area is answered NOT_PERMITTED (R17, R156). -/
theorem request_outside_refused (ha : k.addr < 2 ^ 48) (h : installed < k.addr + k.len ∨ inReserved k.addr k.len = true) (hn : 0 < k.len)
    (hroom : s.responseSpace + responseFlits { k with kind := 0x01 } ≤ 32) :
    exec (.read p k) s = .next ((s.fabCount 1).respond { k with kind := 0x01 } 0x04 []) ∧
      exec (.write p k) s = .next ((s.fabCount 1).respond { k with kind := 0x02 } 0x04 []) := by
  have hplace : (s.fabCount 1).place k.addr k.len false = none := State.place_none _ hn ha h
  have hroomWrite : (s.fabCount 1).responseSpace + responseFlits { k with kind := 0x02 } ≤ 32 :=
    Nat.le_trans (Nat.add_le_add_left (responseFlits_write_le k) _) hroom
  constructor
  · rw [exec_read_own hp hvc hd hs, State.serveRequest_refused (s := s.fabCount 1) hroom p hplace]
  · rw [exec_write_own hp hvc hd hs, State.serveRequest_refused (s := s.fabCount 1) hroomWrite p hplace]

/-- A request whose response has no room waits where it came in (R246). -/
theorem request_waits_for_room :
    (32 < s.responseSpace + responseFlits { k with kind := 0x01 } →
      exec (.read p k) s = .next ((s.fabCount 1).parkAt p { k with kind := 0x01 } false)) ∧
    (32 < s.responseSpace + responseFlits { k with kind := 0x02 } →
      exec (.write p k) s = .next ((s.fabCount 1).parkAt p { k with kind := 0x02 } false)) := by
  constructor
  · intro h
    rw [exec_read_own hp hvc hd hs, State.serveRequest_full (s := s.fabCount 1) h]
  · intro h
    rw [exec_write_own hp hvc hd hs, State.serveRequest_full (s := s.fabCount 1) h]

/-- Another device's write of a register outside ROLL and TEL is answered NOT_PERMITTED, and only logged (R18). -/
theorem register_write_refused (hlen : k.len = 4) (hdata : k.data.length = 4) (ha : k.addr = 2 * 2 ^ 48 + 0x20)
    (hg : s.rget FAB_GATE.STATE 143 = 0) (hroom : s.responseSpace ≤ 31) :
    ∃ t : State, exec (.write p k) s = .next (t.respond { k with kind := 0x02 } 0x04 []) ∧ t.mem.cells = s.mem.cells ∧ t.plan = s.plan ∧
      t.host = s.host := by
  have hplace : (s.fabCount 1).place k.addr k.len false = some (.reg 0x20) := State.place_reg _ ha (by omega) (by omega)
  obtain ⟨t, hserve, ht⟩ := State.serveRequest_writes (s := s.fabCount 1) (p := p) (k := { k with kind := 0x02 })
    (P := fun t => t.mem.cells = s.mem.cells ∧ t.plan = s.plan ∧ t.host = s.host) (q := .reg 0x20) (st := 0x04)
    (by rw [responseFlits_write, State.fabCount_responseSpace]; omega) hplace (by simp) (by simpa [State.gateRegions] using hg) (show 2 ≠ 1 by decide)
    fun regs l => by
      obtain ⟨t, hlog, -, -, -, -, -, -, ht⟩ := ((s.fabCount 1).reached regs l).logReject_spec (.remote k.src) 0x20
      refine ⟨t, hlog ▸ State.writePlace_reg_refused (by simp [hlen, hdata]) fun d => rfl, ?_⟩
      rw [ht]
      exact ⟨rfl, rfl, rfl⟩
  exact ⟨t, by rw [exec_write_own hp hvc hd hs, hserve], ht⟩

/-- A READ of a register meets the control region's gate where that has closed. -/
theorem register_read_at_gate (ha : k.addr = 2 * 2 ^ 48) (hlen : k.len = 4) (hg : s.rget FAB_GATE.STATE 143 = 2) (hroom : s.responseSpace ≤ 31) :
    exec (.read p k) s = .next ((s.fabCount 1).atClosedGate 143 p { k with kind := 0x01 }) := by
  have hflits : responseFlits { k with kind := 0x01 } = 1 := responseFlits_read_short (by omega)
  have hplace : (s.fabCount 1).place k.addr k.len false = some (.reg 0) := State.place_reg _ ha (by omega) (by omega)
  have hroomRead : (s.fabCount 1).responseSpace + responseFlits { k with kind := 0x01 } ≤ 32 := by
    rw [hflits, State.fabCount_responseSpace]; omega
  rw [exec_read_own hp hvc hd hs, State.serveRequest_closed (s := s.fabCount 1) hroomRead p hplace (r := 143)
    (by simp [State.gateRegions, hg])]

end

/-! ### Gates (R254) -/

section
variable {s : State} {r : Nat} (p : Nat) (k : Packet)

theorem State.atClosedGate_asleep (h : s.gateWakes r = false) :
    s.atClosedGate r p k = (s.fabCount 4).respond k 0x0D (bytesOf (s.retryAfter r) 4) := by
  simp [State.atClosedGate, h]

/-- The first access that a closed gate holds calls its region. -/
theorem State.atClosedGate_called (h : s.gateWakes r = true) (hporch : (s.region r).porch = []) (hg : s.rget FAB_GATE.STATE r = 2) :
    s.atClosedGate r p k =
      ((s.setRegion r { s.region r with porch := [(s.gst, p, k)] }).rset FAB_GATE.HELD r 1).rset FAB_GATE.STATE r 3 := by
  have hstate : ((s.setRegion r { s.region r with porch := [(s.gst, p, k)] }).rset FAB_GATE.HELD r 1).rget FAB_GATE.STATE r = 2 := by
    rw [State.rget_rset_ne _ _ _ _ _ _ (Field.key_ne_of_lo _ _ (by decide)), State.setRegion_rget, hg]
  simp [State.atClosedGate, h, hporch, intoPorch, hstate]

end

/-! ### Responses and host packets (R246, R258) -/

/-- A request by its tag is no longer open. -/
def State.endRequest (s : State) (tag : Nat) : State :=
  { s with fab := { s.fab with requests := Assoc.put 0 s.fab.requests tag 0 } }

theorem State.endRequest_requests (s : State) (tag : Nat) : Assoc.get 0 (s.endRequest tag).fab.requests tag = 0 :=
  Assoc.get_put_same 0 s.fab.requests tag 0

/-- The response to a telemetry push ends it; a refusal is counted. -/
theorem State.response_push {s : State} {k : Packet} (h : Assoc.get 0 s.fab.requests k.tag = 1) :
    s.response k = if k.status = 0 then s.endRequest k.tag else (s.endRequest k.tag).rsat TEL_STATUS.PUSH_FAIL 0 1 := by
  simp [State.response, State.endRequest, h]

theorem State.toStage_full {s : State} {k : Packet} (h : 2 ^ 22 < (s.fab.hostStage.map fun e => e.2.length).sum + k.data.length) (p : Nat) :
    s.toStage p k = s.parkAt p k false := if_neg (Nat.not_le.2 h)

/-- A packet in an empty staging area leaves for the host, if it can. -/
theorem State.toStage_empty {s : State} {k : Packet} (hstage : s.fab.hostStage = []) (h : k.data.length ≤ 2 ^ 22) (p : Nat) :
    s.toStage p k = if s.busMaster 0 then s.emit (.hostWrite 0 k.addr k.data)
      else { s with fab := { s.fab with hostStage := [(k.addr, k.data)] } } := by
  have hroom : (s.fab.hostStage.map fun e => e.2.length).sum + k.data.length ≤ 2 ^ 22 := by rw [hstage]; simpa using h
  have hdrained : ({ s.fab with hostStage := [] } : Fab) = s.fab := by rw [← hstage]
  rw [State.toStage, if_pos hroom, hstage, List.nil_append]
  unfold State.drainStage
  rw [List.foldl_cons, List.foldl_nil, hdrained]
  rfl

/-! ### ID assignment and telemetry pushes (R239, R258) -/

section
variable {s : State} {a : Agent} (hb : s.bivouac = false)
include hb

theorem exec_fabId (v : Nat) (hw : agentWrites a 0x380000 = true) :
    exec (.fabId a v) s = .next (s.fabIdWrite (bitsOf v 0 14) (bitAt v 31)) :=
  congrArg Host.Outcome.next (s.regWrite_takes a _ _ hb hw)

theorem exec_armPush (v : Nat) (hw : agentWrites a 0x900010 = true) :
    exec (.armPush a v) s = .next (s.telPushWrite true (bitAt v 1)) :=
  congrArg Host.Outcome.next (s.regWrite_takes a _ _ hb hw)

theorem exec_disarmPush (v : Nat) (hw : agentWrites a 0x900010 = true) :
    exec (.disarmPush a v) s = .next (s.telPushWrite false (bitAt v 1)) :=
  congrArg Host.Outcome.next (s.regWrite_takes a _ _ hb hw)

end

theorem bitsOf_lt (v lo w : Nat) : bitsOf v lo w < 2 ^ w := Nat.mod_lt _ (Nat.two_pow_pos w)

/-- An assignment that FAB_ID's GO asks for takes the ID that was written with it. -/
theorem State.fabIdWrite_go (s : State) {id : Nat} (h : id < 2 ^ 14) : s.fabIdWrite id true = (s.rset0 FAB_ID.ID id).assignId id := by
  have hid : (s.rset0 FAB_ID.ID id).rget FAB_ID.ID = id := (s.rget_rset0_same _ _).trans (Nat.mod_eq_of_lt h)
  simp only [State.fabIdWrite, if_true, hid]

/-- While frames run an assignment is refused. -/
theorem State.assignId_running {s : State} (h : s.running = true) (id : Nat) : s.assignId id = s.rset0 FAB_ID.RESULT 2 := if_pos h

/-- With no port UP an assignment takes the ID and the sizes, and resets no link. -/
theorem State.assignId_idle {s : State} (h : s.running = false) (hdown : ∀ p, p < 18 → s.rget KL_PORT_STATUS.STATE p ≠ 7) (id : Nat) :
    s.assignId id = { ((s.rset0 IDENT_DOMAIN.DEVICE_ID id).rset0 IDENT_DOMAIN.ID_VALID 1).rset0 FAB_ID.RESULT 1 with
      fab := { s.fab with dims := (s.rget FAB_DIMS.XS, s.rget FAB_DIMS.YS, s.rget FAB_DIMS.ZS) } } := by
  have hdims : ∀ f : Field, f.key 0 ∉ [IDENT_DOMAIN.DEVICE_ID.key 0, IDENT_DOMAIN.ID_VALID.key 0] →
      ((s.rset0 IDENT_DOMAIN.DEVICE_ID id).rset0 IDENT_DOMAIN.ID_VALID 1).rget f = s.rget f := fun f hf => by
    simp only [List.mem_cons, List.not_mem_nil, or_false, not_or] at hf
    rw [State.rget_rset0_ne _ _ _ _ _ hf.2, State.rget_rset0_ne _ _ _ _ _ hf.1]
  have hnone : ∀ fab : Fab, (List.range 18).filter
      (State.portUp { ((s.rset0 IDENT_DOMAIN.DEVICE_ID id).rset0 IDENT_DOMAIN.ID_VALID 1).rset0 FAB_ID.RESULT 1 with fab := fab }) = [] := by
    refine fun fab => List.filter_eq_nil_iff.2 fun p hp => ?_
    have hstate : (((s.rset0 IDENT_DOMAIN.DEVICE_ID id).rset0 IDENT_DOMAIN.ID_VALID 1).rset0 FAB_ID.RESULT 1).rget KL_PORT_STATUS.STATE p =
        s.rget KL_PORT_STATUS.STATE p := by
      rw [State.rget_rset0_ne _ _ _ _ _ (Field.key_ne_of_lo _ _ (by decide)), State.rget_rset0_ne _ _ _ _ _ (Field.key_ne_of_lo _ _ (by decide)),
        State.rget_rset0_ne _ _ _ _ _ (Field.key_ne_of_lo _ _ (by decide))]
    exact fun h7 => hdown p (List.mem_range.1 hp) (hstate ▸ of_decide_eq_true h7)
  unfold State.assignId
  rw [if_neg (by simp [h])]
  simp only [hdims FAB_DIMS.XS (by decide), hdims FAB_DIMS.YS (by decide), hdims FAB_DIMS.ZS (by decide)]
  rw [hnone]
  rfl

/-- The fabric's state is no part of the register file. -/
@[simp] theorem State.rget_withFab (s : State) (b : Fab) (f : Field) (i : Nat) : ({ s with fab := b } : State).rget f i = s.rget f i := rfl

theorem State.rget_telPushWrite (s : State) (go every : Bool) :
    (s.telPushWrite go every).rget TEL_STATUS.ARMED = (if go then 1 else 0) ∧
      (s.telPushWrite go every).rget TEL_PUSH.EVERY = (if every then 1 else 0) := by
  constructor
  · rw [State.telPushWrite, State.rget_rset0_same]; cases go <;> rfl
  · rw [State.telPushWrite, State.rget_rset0_ne _ _ _ _ _ (by decide), State.rget_rset0_same]; cases every <;> rfl

/-! ### The parts of the statement that take more than one of these -/

/-- A READ of a register at the control region's closed gate: answered ASLEEP, or held in the porch while the region is called. -/
theorem register_read_at_closed_gate {s : State} {p : Nat} {k : Packet} (hp : inPortOk p = true) (hvc : k.vc = 3) (hd : k.dest = s.ownId)
    (hs : k.sampled = false) (ha : k.addr = 2 * 2 ^ 48) (hlen : k.len = 4) (hg : s.rget FAB_GATE.STATE 143 = 2) (hroom : s.responseSpace ≤ 31) :
    (s.gateWakes 143 = false → exec (.read p k) s =
      .next (((s.fabCount 1).fabCount 4).respond { k with kind := 0x01 } 0x0D (bytesOf ((s.fabCount 1).retryAfter 143) 4))) ∧
    (s.gateWakes 143 = true → (s.region 143).porch = [] → ∃ t : State, exec (.read p k) s = .next t ∧ t.rget FAB_GATE.STATE 143 = 3 ∧
      (t.region 143).porch = [(s.gst, p, { k with kind := 0x01 })] ∧ t.rget FAB_GATE.HELD 143 = 1 ∧ t.out = s.out) := by
  rw [register_read_at_gate hp hvc hd hs ha hlen hg hroom]
  refine ⟨fun h => by rw [State.atClosedGate_asleep (s := s.fabCount 1) p _ h], fun h hporch => ?_⟩
  refine ⟨_, congrArg Host.Outcome.next (State.atClosedGate_called (s := s.fabCount 1) p _ h hporch hg), ?_, ?_, ?_, rfl⟩
  · exact State.rget_rset_same _ _ _ _
  · rw [State.rset_region, State.rset_region, State.region_setRegion_same]; rfl
  · rw [State.rget_rset_ne _ _ _ _ _ _ (Field.key_ne_of_lo _ _ (by decide)), State.rget_rset_same]; rfl

/-- A response to a telemetry push ends its request, and counts in PUSH_FAIL if it is a refusal. -/
theorem push_response {s : State} {p : Nat} {k : Packet} (hp : inPortOk p = true) (hvc : k.vc = 2) (hd : k.dest = s.ownId)
    (hs : k.sampled = false) (hreq : Assoc.get 0 s.fab.requests k.tag = 1) :
    ∃ t : State, exec (.resp p k) s = .next t ∧ Assoc.get 0 t.fab.requests k.tag = 0 ∧
      (k.status ≠ 0 → s.rget TEL_STATUS.PUSH_FAIL < 255 → t.rget TEL_STATUS.PUSH_FAIL = s.rget TEL_STATUS.PUSH_FAIL + 1) ∧
      (k.status = 0 → t.regs = s.regs) ∧ t = { s with regs := t.regs, fab := t.fab } := by
  have hexec : exec (.resp p k) s = .next ((s.fabCount 1).response { k with kind := 0x03 }) := by
    rw [exec_resp hp, State.packetAt_own (by rw [hvc]; rfl) hd hs]
  rw [State.response_push (s := s.fabCount 1) (k := { k with kind := 0x03 }) hreq] at hexec
  refine ⟨_, hexec, ?_⟩
  by_cases hst : k.status = 0
  · rw [if_pos hst]
    exact ⟨(s.fabCount 1).endRequest_requests k.tag, fun h => absurd hst h, fun _ => rfl, rfl⟩
  · rw [if_neg hst]
    refine ⟨(s.fabCount 1).endRequest_requests k.tag, fun _ hlt => ?_, fun h => absurd h hst, rfl⟩
    rw [State.rget_rsat_same]
    exact Nat.min_eq_left (show s.rget TEL_STATUS.PUSH_FAIL + 1 ≤ 2 ^ 8 - 1 by omega)

/-- A host packet goes through the staging area, or waits while that has no room. -/
theorem host_packet_staged {s : State} {p : Nat} {k : Packet} (hp : inPortOk p = true) (hvc : k.vc = 0) (hd : k.dest = s.ownId)
    (hs : k.sampled = false) :
    (s.fab.hostStage = [] → k.data.length ≤ 2 ^ 22 →
      (s.busMaster 0 = true → exec (.hostcpl p k) s = .next ((s.fabCount 1).emit (.hostWrite 0 k.addr k.data))) ∧
      (s.busMaster 0 = false →
        exec (.hostcpl p k) s = .next { s.fabCount 1 with fab := { (s.fabCount 1).fab with hostStage := [(k.addr, k.data)] } })) ∧
    (2 ^ 22 < (s.fab.hostStage.map fun e => e.2.length).sum + k.data.length →
      exec (.hostcpl p k) s = .next ((s.fabCount 1).parkAt p { k with kind := 0x04 } false)) := by
  have hexec : exec (.hostcpl p k) s = .next ((s.fabCount 1).toStage p { k with kind := 0x04 }) := by
    rw [exec_hostcpl hp, State.packetAt_own (by rw [hvc]; rfl) hd hs]
  rw [hexec]
  refine ⟨fun hstage hlen => ?_, fun hfull => by rw [State.toStage_full (s := s.fabCount 1) (k := { k with kind := 0x04 }) hfull]⟩
  have hmaster : (s.fabCount 1).busMaster 0 = s.busMaster 0 := rfl
  rw [State.toStage_empty (s := s.fabCount 1) (k := { k with kind := 0x04 }) hstage hlen, hmaster]
  exact ⟨fun h => by rw [h]; rfl, fun h => by rw [h]; rfl⟩

/-- FAB_ID's GO: refused while frames run; else, with no port UP, the ID and the sizes are taken. -/
theorem fabId_assigns {s : State} {a : Agent} {v : Nat} (hb : s.bivouac = false) (hw : agentWrites a 0x380000 = true) (hgo : v.testBit 31 = true) :
    (s.running = true → ∃ t : State, exec (.fabId a v) s = .next t ∧ t.rget FAB_ID.RESULT = 2 ∧
      t.rget IDENT_DOMAIN.DEVICE_ID = s.rget IDENT_DOMAIN.DEVICE_ID ∧ t = { s with regs := t.regs }) ∧
    (s.running = false → (∀ p, p < 18 → s.rget KL_PORT_STATUS.STATE p ≠ 7) → ∃ t : State, exec (.fabId a v) s = .next t ∧
      t.rget FAB_ID.RESULT = 1 ∧ t.rget IDENT_DOMAIN.DEVICE_ID = bitsOf v 0 14 ∧ t.rget IDENT_DOMAIN.ID_VALID = 1 ∧
      t.fab.dims = (s.rget FAB_DIMS.XS, s.rget FAB_DIMS.YS, s.rget FAB_DIMS.ZS) ∧ t = { s with regs := t.regs, fab := t.fab }) := by
  have hid : bitsOf v 0 14 < 2 ^ 14 := bitsOf_lt _ _ _
  have hkept : ∀ (f : Field) (i : Nat), f.key i ≠ FAB_ID.ID.key 0 → (s.rset0 FAB_ID.ID (bitsOf v 0 14)).rget f i = s.rget f i :=
    fun f i h => s.rget_rset_ne _ f 0 i _ h
  have hrun : (s.rset0 FAB_ID.ID (bitsOf v 0 14)).running = s.running := by
    rw [State.running, hkept _ _ (by decide)]; rfl
  rw [exec_fabId hb v hw, show bitAt v 31 = true from hgo, State.fabIdWrite_go s hid]
  constructor
  · intro h
    rw [State.assignId_running (hrun.trans h)]
    exact ⟨_, rfl, State.rget_rset0_same _ _ _, by rw [State.rget_rset0_ne _ _ _ _ _ (by decide), hkept _ _ (by decide)], rfl⟩
  · intro h hdown
    have hports : ∀ p, p < 18 → (s.rset0 FAB_ID.ID (bitsOf v 0 14)).rget KL_PORT_STATUS.STATE p ≠ 7 := fun p hp => by
      rw [hkept _ _ (by simp only [Field.key, KL_PORT_STATUS.STATE, FAB_ID.ID]; omega)]
      exact hdown p hp
    rw [State.assignId_idle (hrun.trans h) hports]
    refine ⟨_, rfl, ?_, ?_, ?_, ?_, rfl⟩
    · rw [State.rget_withFab, State.rget_rset0_same]; rfl
    · rw [State.rget_withFab, State.rget_rset0_ne _ _ _ _ _ (by decide), State.rget_rset0_ne _ _ _ _ _ (by decide), State.rget_rset0_same]
      exact Nat.mod_eq_of_lt hid
    · rw [State.rget_withFab, State.rget_rset0_ne _ _ _ _ _ (by decide), State.rget_rset0_same]; rfl
    · rw [hkept _ _ (by decide), hkept _ _ (by decide), hkept _ _ (by decide)]

/-- Settles O41: a packet's arrival by its kind, channel and destination; a request by its room, its place and its gates. -/
theorem servicePacketsAreServed : Obligations.ServicePacketsAreServed := by
  unfold Obligations.ServicePacketsAreServed
  refine ⟨?_, ?_, ?_, ?_, ?_, ?_, ?_, ?_, ?_, ?_⟩
  · intro s p k hp hvc hd hs hlen ha hi hr hg ht hbad hsched hroom
    exact ⟨read_burst_served hp hvc hd hs hlen ha hi hr hg ht (List.eq_nil_iff_forall_not_mem.2 hbad) hsched hroom,
      write_burst_served hp hvc hd hs hlen ha hi hr hg hsched hroom⟩
  · exact fun s p k hp hvc hd hs ha h hn hroom => request_outside_refused hp hvc hd hs ha h hn hroom
  · exact fun s p k hp hvc hd hs => request_waits_for_room hp hvc hd hs
  · exact fun s p k hp hvc hd hs hlen hdata ha hg hroom => register_write_refused hp hvc hd hs hlen hdata ha hg hroom
  · exact fun s p k hp hvc hd hs ha hlen hg hroom => register_read_at_closed_gate hp hvc hd hs ha hlen hg hroom
  · intro s p k hp hvc
    have hdrop : ∀ (kind : Nat) (sink : State → Packet → State), kindVc kind ≠ some 1 → s.packetAt kind p k sink = s.fabCount 7 :=
      fun kind sink h => State.packetAt_wrongChannel s (hvc ▸ h) p sink
    exact ⟨by rw [exec_read hp, hdrop 0x01 _ (by decide)], by rw [exec_write hp, hdrop 0x02 _ (by decide)],
      by rw [exec_resp hp, hdrop 0x03 _ (by decide)], by rw [exec_hostcpl hp, hdrop 0x04 _ (by decide)],
      by rw [exec_back hp, hdrop 0x07 _ (by decide)], exec_bwrite_wrongChannel hp (by omega)⟩
  · intro s p k hp hd hs
    refine ⟨fun hvc => push_response hp hvc hd hs, fun hvc => (host_packet_staged hp hvc hd hs).1, fun hvc => (host_packet_staged hp hvc hd hs).2⟩
  · intro s p k hp hd
    have hpark : ∀ (kind vc : Nat) (sink : State → Packet → State), kindVc kind = some vc → k.vc = vc →
        s.packetAt kind p k sink = s.parkAt p { k with kind := kind } false :=
      fun kind vc sink h hvc => State.packetAt_elsewhere (hvc ▸ h) hd p sink
    refine ⟨fun hvc => ?_, fun hvc => ?_, fun hvc => ?_⟩
    · exact ⟨by rw [exec_read hp, hpark 0x01 3 _ rfl hvc], by rw [exec_write hp, hpark 0x02 3 _ rfl hvc]⟩
    · exact ⟨by rw [exec_resp hp, hpark 0x03 2 _ rfl hvc], by rw [exec_back hp, hpark 0x07 2 _ rfl hvc]⟩
    · rw [exec_hostcpl hp, hpark 0x04 0 _ rfl hvc]
  · exact fun s a v hb hw hgo => fabId_assigns hb hw hgo
  · intro s a v hb hw
    rw [exec_armPush hb v hw, exec_disarmPush hb v hw]
    obtain ⟨harmed, hevery⟩ := s.rget_telPushWrite true (bitAt v 1)
    exact ⟨⟨_, rfl, harmed, hevery, rfl⟩, ⟨_, rfl, (s.rget_telPushWrite false (bitAt v 1)).1, rfl⟩⟩

end Sys2Proof.Machine
end

section
/-! Every command answers a next state; one about a unit that the device does not have changes nothing (log 48). -/
namespace Sys2Proof.Machine
open Sys2Proof.Safety

/-- Every command answers a next state. NOP alone has no single arm: a plan's and a host command's each answer one. -/
theorem exec_next (c : Instr) (s : State) : ∃ t : State, exec c s = .next t := by
  cases c with
  | nop k =>
    cases k with
    | plan x => exact ⟨_, rfl⟩
    | host h => exact ⟨_, rfl⟩
  | _ => exact ⟨_, rfl⟩

/-- No command is refused, and none stops with a fault. -/
theorem exec_ne_refused_fault (c : Instr) (s : State) (r : Refusal) (f : Fault) : exec c s ≠ .refused r ∧ exec c s ≠ .fault f := by
  obtain ⟨t, h⟩ := exec_next c s
  rw [h]
  exact ⟨nofun, nofun⟩

/-- Settles O55: each arm of `exec` ends in a next state, and those about a region or a port check that it exists. -/
theorem commandsComplete : Obligations.CommandsComplete := by
  unfold Obligations.CommandsComplete
  refine ⟨exec_next, exec_ne_refused_fault, fun s r b hr => ?_, fun s p rx n hp => ?_⟩
  · have habsent : decide (r < 288) = false := decide_eq_false (by omega)
    exact ⟨onUnit_none habsent s _, onUnit_none habsent s _, onUnit_none habsent s _, onUnit_none habsent s _, onUnit_none habsent s _⟩
  · have habsent : decide (p < 18) = false := decide_eq_false (by omega)
    exact ⟨onUnit_none habsent s _, onUnit_none habsent s _⟩

end Sys2Proof.Machine
end

section
/-! Instruction words (R86, R87): the encoder and the decoder are inverse to each other. -/
namespace Sys2Proof.Machine

@[simp] theorem bit1_getLsbD_zero (b : Bool) : (bit1 b).getLsbD 0 = b := by cases b <;> rfl

@[simp] theorem aluOf_code (op : Alu) : aluOf op.code = some op := by cases op <;> rfl

theorem code_of_aluOf {o : BitVec 8} {a : Alu} (h : aluOf o = some a) : a.code = o := by
  unfold aluOf at h
  split at h <;> cases h <;> exact BitVec.eq_of_toNat_eq (Eq.symm ‹_›)

/-- The operand bits of an operation are read as that operation's fields. -/
theorem isaOf_bits (op : Isa) : isaOf op.bits.1 op.bits.2 = some op := by
  cases op with
  | alu op rd ra rb imm =>
    simp (disch := decide) only [isaOf, Isa.bits, aluOf_code, BitVec.extractLsb'_append_eq_of_add_le, BitVec.extractLsb'_append_eq_of_le,
      Nat.reduceSub, BitVec.extractLsb'_eq_self]
  | _ =>
    simp (disch := decide) only [isaOf, Isa.bits, aluOf, BitVec.reduceToNat, BitVec.extractLsb'_append_eq_of_add_le,
      BitVec.extractLsb'_append_eq_of_le, BitVec.getLsbD_append, Nat.reduceSub, Nat.reduceLT, if_true, if_false,
      BitVec.extractLsb'_eq_self, bit1_getLsbD_zero]

/-- What is read under an opcode has that opcode. -/
theorem code_of_isaOf {o : BitVec 8} {v : BitVec 44} {op : Isa} (h : isaOf o v = some op) : op.bits.1 = o := by
  unfold isaOf at h
  dsimp only at h
  split at h
  · cases h
    exact code_of_aluOf ‹_›
  · split at h <;> cases h <;> exact BitVec.eq_of_toNat_eq (Eq.symm ‹_›)

/-- A word is its opcode, its gap and its operand bits (R86). -/
theorem word_parts (w : Word) : w.extractLsb' 56 8 ++ w.extractLsb' 44 12 ++ w.extractLsb' 0 44 = w := by
  rw [BitVec.extractLsb'_append_extractLsb'_eq_extractLsb' (rfl : 56 = 44 + 12),
    BitVec.extractLsb'_append_extractLsb'_eq_extractLsb' (rfl : 44 = 0 + 44)]
  exact BitVec.extractLsb'_eq_self

/-- The three parts of an encoded word (R86). -/
theorem encodeIsa_parts (i : IsaWord) : (encodeIsa i).extractLsb' 56 8 = i.op.bits.1 ∧ (encodeIsa i).extractLsb' 44 12 = i.gap ∧
    (encodeIsa i).extractLsb' 0 44 = i.op.bits.2 := by
  simp (disch := decide) only [encodeIsa, BitVec.extractLsb'_append_eq_of_add_le, BitVec.extractLsb'_append_eq_of_le, Nat.reduceSub,
    BitVec.extractLsb'_eq_self, and_self]

theorem decodeIsa_encodeIsa (i : IsaWord) : decodeIsa (encodeIsa i) = some i := by
  obtain ⟨hcode, hgap, hbits⟩ := encodeIsa_parts i
  simp only [decodeIsa, hcode, hgap, hbits, isaOf_bits, if_true]

theorem encodeIsa_decodeIsa {w : Word} {i : IsaWord} (h : decodeIsa w = some i) : encodeIsa i = w := by
  unfold decodeIsa at h
  split at h
  next op hop =>
    split at h
    next hbits =>
      cases h
      calc encodeIsa { gap := w.extractLsb' 44 12, op := op }
          = op.bits.1 ++ w.extractLsb' 44 12 ++ op.bits.2 := rfl
        _ = w := by rw [code_of_isaOf hop, hbits, word_parts]
    next => cases h
  next => cases h

/-- Settles O56: each operation's operand bits hold its fields in their places, and a decoded word's parts are the encoder's. -/
theorem instructionWordsRoundTrip : Obligations.InstructionWordsRoundTrip :=
  ⟨decodeIsa_encodeIsa, fun _ _ => encodeIsa_decodeIsa⟩

/-- Settles O57: each word is small enough to be read out. -/
theorem instructionWordsReadAsTheTableSays : Obligations.InstructionWordsReadAsTheTableSays := by
  unfold Obligations.InstructionWordsReadAsTheTableSays
  decide +kernel

end Sys2Proof.Machine
end

section
/-! How an instruction issues (R79, R97): the state at its issue tick, the queue it goes on with, and what each deferred effect of
a tick leaves as it was. -/
namespace Sys2Proof.Machine
open Sys2Proof.Safety

/-! ### An instruction of a core that exists, in either class of code -/

theorem onCore_of {x : Issue} (h : x.core < 256) (s t : State) : onCore s x t = .next t := onUnit_of (decide_eq_true h) s t

/-- An instruction that may issue does: its effect at its issue tick, then its queue goes on (R79). -/
theorem State.issue_of {s : State} {x : Issue} (h : s.canIssue x = true) (effect : State → Nat → State)
    (flow : State → QueueSt → Nat → QueueSt) : s.issue x effect flow =
      issuedAs (effect (atIssue s x) (s.issueTick x)) x
        (flow (atIssue s x) ((effect (atIssue s x) (s.issueTick x)).queue x) (s.issueTick x)) (s.issueTick x) := if_pos h

theorem State.issue_none {s : State} {x : Issue} (h : s.canIssue x = false) (effect : State → Nat → State)
    (flow : State → QueueSt → Nat → QueueSt) : s.issue x effect flow = s := if_neg (by simp [h])

theorem State.planOnly_plan {x : Issue} (h : x.svc = false) (s : State) (effect : State → Nat → State)
    (flow : State → QueueSt → Nat → QueueSt) : s.planOnly x effect flow = s.issue x effect flow := if_neg (by simp [h])

theorem State.planOnly_svc {x : Issue} (h : x.svc = true) (s : State) (effect : State → Nat → State)
    (flow : State → QueueSt → Nat → QueueSt) : s.planOnly x effect flow = s.svcRefuse x := if_pos h

/-- An instruction of both classes of code issues in a plan's. -/
theorem onCore_issue {s : State} {x : Issue} (hc : x.core < 256) (hp : x.svc = false) (hi : s.canIssue x = true) (serviced : State)
    (effect : State → Nat → State) (flow : State → QueueSt → Nat → QueueSt) :
    onCore s x (if x.svc then serviced else s.issue x effect flow) =
      .next (issuedAs (effect (atIssue s x) (s.issueTick x)) x
        (flow (atIssue s x) ((effect (atIssue s x) (s.issueTick x)).queue x) (s.issueTick x)) (s.issueTick x)) := by
  rw [onCore_of hc, if_neg (by simp [hp]), State.issue_of hi]

/-- An instruction of a queue that does not issue changes nothing (R80). -/
theorem onCore_cannot {s : State} {x : Issue} (hp : x.svc = false) (hi : s.canIssue x = false) (serviced : State)
    (effect : State → Nat → State) (flow : State → QueueSt → Nat → QueueSt) :
    onCore s x (if x.svc then serviced else s.issue x effect flow) = .next s := by
  rw [if_neg (by simp [hp]), State.issue_none hi]
  simp [onCore, onUnit]

/-- A plan-class instruction that may issue is a next state: its effect, with its queue gone on. -/
theorem onCore_planOnly {s : State} {x : Issue} (hc : x.core < 256) (hp : x.svc = false) (hi : s.canIssue x = true)
    (effect : State → Nat → State) (flow : State → QueueSt → Nat → QueueSt) : onCore s x (s.planOnly x effect flow) =
      .next (issuedAs (effect (atIssue s x) (s.issueTick x)) x
        (flow (atIssue s x) ((effect (atIssue s x) (s.issueTick x)).queue x) (s.issueTick x)) (s.issueTick x)) := by
  rw [onCore_of hc, State.planOnly_plan hp, State.issue_of hi]

/-- A service-class instruction that gives a core goes on with the next word. -/
theorem State.svcStep_goes {s : State} {x : Issue} (h : s.svcReady x.core = true) {f : Core → Core × Option Nat} {k : Core}
    (hf : f (s.core x.core) = (k, none)) : s.svcStep x f = s.setCore x.core { k with svc := { k.svc with index := k.svc.index + 1 } } := by
  simp [State.svcStep, h, hf]

/-- A service-class instruction that ends its call leaves the core to the call's end. -/
theorem State.svcStep_ends {s : State} {x : Issue} (h : s.svcReady x.core = true) {f : Core → Core × Option Nat} {k : Core} {status : Nat}
    (hf : f (s.core x.core) = (k, some status)) : s.svcStep x f = s.svcEnd x.core status := by
  simp [State.svcStep, h, hf]

/-! ### Telemetry's counts -/

section
variable (s : State) (k n : Nat)

theorem State.tel_eq : ∃ fab, s.tel k n = { s with fab := fab } := by
  unfold State.tel
  split
  · exact ⟨_, rfl⟩
  · exact ⟨s.fab, rfl⟩

@[simp] theorem State.tel_cores : (s.tel k n).cores = s.cores := by obtain ⟨_, h⟩ := s.tel_eq k n; rw [h]
@[simp] theorem State.tel_core (c : Nat) : (s.tel k n).core c = s.core c := by obtain ⟨_, h⟩ := s.tel_eq k n; rw [h]; rfl
@[simp] theorem State.tel_queue (x : Issue) : (s.tel k n).queue x = s.queue x := by obtain ⟨_, h⟩ := s.tel_eq k n; rw [h]; rfl
@[simp] theorem State.tel_mem : (s.tel k n).mem = s.mem := by obtain ⟨_, h⟩ := s.tel_eq k n; rw [h]
@[simp] theorem State.tel_regs : (s.tel k n).regs = s.regs := by obtain ⟨_, h⟩ := s.tel_eq k n; rw [h]
@[simp] theorem State.tel_frame : (s.tel k n).frame = s.frame := by obtain ⟨_, h⟩ := s.tel_eq k n; rw [h]; rfl

end

/-! ### The queue that an instruction issues on -/

section
variable (s : State) (x : Issue) (q : QueueSt) (t : Nat)

@[simp] theorem issuedAs_queue : (issuedAs s x q t).queue x = { q with last := some t } := by
  simp [issuedAs, State.setQueue, State.queue]

/-- The issue of an instruction leaves everything of its core but its queues. -/
@[simp] theorem issuedAs_core : (issuedAs s x q t).core x.core =
    { s.core x.core with queues := Assoc.put {} (s.core x.core).queues x.queue { q with last := some t } } := by
  simp [issuedAs, State.setQueue]

theorem issuedAs_core_ne {d : Nat} (h : d ≠ x.core) : (issuedAs s x q t).core d = s.core d := by
  simp [issuedAs, State.setQueue, State.core_setCore_ne _ _ _ _ h]

@[simp] theorem issuedAs_mem : (issuedAs s x q t).mem = s.mem := rfl
@[simp] theorem issuedAs_regs : (issuedAs s x q t).regs = s.regs := rfl
@[simp] theorem issuedAs_frame : (issuedAs s x q t).frame = s.frame := rfl

end

/-! ### What an effect of a tick leaves as it was -/

section
variable (s : State) (c t : Nat)

@[simp] theorem State.push_core (e : Effect) : (s.push c t e).core c = { s.core c with agenda := (s.core c).agenda ++ [(t, e)] } := by
  simp [State.push]
@[simp] theorem State.push_mem (e : Effect) : (s.push c t e).mem = s.mem := rfl
@[simp] theorem State.push_regs (e : Effect) : (s.push c t e).regs = s.regs := rfl
@[simp] theorem State.push_queue (x : Issue) (e : Effect) : (s.push x.core t e).queue x = s.queue x := by simp [State.queue]

@[simp] theorem State.access_core (a : BankAccess) : (s.access c a).core c = { s.core c with accesses := (s.core c).accesses ++ [a] } := by
  simp [State.access]
@[simp] theorem State.access_mem (a : BankAccess) : (s.access c a).mem = s.mem := rfl
@[simp] theorem State.access_regs (a : BankAccess) : (s.access c a).regs = s.regs := rfl
@[simp] theorem State.access_frame (a : BankAccess) : (s.access c a).frame = s.frame := rfl
@[simp] theorem State.access_mutedAt (a : BankAccess) : (s.access c a).mutedAt t = s.mutedAt t := rfl
@[simp] theorem State.access_queue (x : Issue) (a : BankAccess) : (s.access x.core a).queue x = s.queue x := by simp [State.queue]

@[simp] theorem State.pendWrite_core (w : PendWrite) : (s.pendWrite c w).core c = { s.core c with writes := (s.core c).writes ++ [w] } := by
  simp [State.pendWrite]
@[simp] theorem State.pendWrite_mem (w : PendWrite) : (s.pendWrite c w).mem = s.mem := rfl
@[simp] theorem State.pendWrite_regs (w : PendWrite) : (s.pendWrite c w).regs = s.regs := rfl

end

/-- A register write of plan-class code is due at the end of the tick; a destination that is no s register takes none (R85). -/
theorem State.pushReg_core (s : State) (x : Issue) (t : Nat) (r : RegSpec) (v : Word) : (s.pushReg x t r v).core x.core =
    { s.core x.core with agenda := (s.core x.core).agenda ++ if r.toNat < 32 then [(t, .sreg x.queue r.toNat v.toNat)] else [] } := by
  by_cases h : r.toNat < 32 <;> simp [State.pushReg, h]

theorem State.pushReg_eq (s : State) (x : Issue) (t : Nat) (r : RegSpec) (v : Word) :
    ∃ k, s.pushReg x t r v = s.setCore x.core k ∨ s.pushReg x t r v = s := by
  unfold State.pushReg
  split
  · exact ⟨_, .inl rfl⟩
  · exact ⟨s.core x.core, .inr rfl⟩

theorem State.pushReg_core_ne (s : State) (x : Issue) (t : Nat) (r : RegSpec) (v : Word) {d : Nat} (h : d ≠ x.core) :
    (s.pushReg x t r v).core d = s.core d := by
  obtain ⟨k, hk | hk⟩ := s.pushReg_eq x t r v <;> rw [hk]
  exact State.core_setCore_ne _ _ _ _ h

@[simp] theorem State.pushReg_mem (s : State) (x : Issue) (t : Nat) (r : RegSpec) (v : Word) : (s.pushReg x t r v).mem = s.mem := by
  obtain ⟨k, hk | hk⟩ := s.pushReg_eq x t r v <;> rw [hk]; rfl

@[simp] theorem State.pushReg_regs (s : State) (x : Issue) (t : Nat) (r : RegSpec) (v : Word) : (s.pushReg x t r v).regs = s.regs := by
  obtain ⟨k, hk | hk⟩ := s.pushReg_eq x t r v <;> rw [hk]; rfl

end Sys2Proof.Machine
end

section
/-! The step (log 1) and CORE_SVC_AREA (R100, R101). -/
namespace Sys2Proof.Machine

/-- Settles O54: a step is the front command's effect on the rest of the queue. -/
theorem stepRunsTheFrontCommand : Obligations.StepRunsTheFrontCommand := by
  unfold Obligations.StepRunsTheFrontCommand step
  refine ⟨fun s c rest h => ?_, fun s h => ?_⟩ <;> rw [h]

/-- While a call runs or is paused the area stays (R101). -/
theorem State.setSvcArea_busy {s : State} {c : Nat} (h : (s.core c).svc.state = 1 ∨ (s.core c).svc.state = 2) (v : Nat) :
    s.setSvcArea c v = s := if_pos h

/-- Settles O22: a register write of the area is taken or left by the state of the core's call. -/
theorem serviceAreaIsFixedDuringACall : Obligations.ServiceAreaIsFixedDuringACall := by
  refine ⟨fun s a c v ha hst => ?_, fun s a c v ha hc hb h1 h2 => ?_, fun s a c v hc => ?_⟩
  · have hw : s.regWrite a (0x100200 + 0x1000 * c) (fun s => s.setSvcArea c v) = s := by
      cases hb : s.bivouac
      · rw [State.regWrite_takes s a _ _ hb ha, State.setSvcArea_busy hst]
      · exact State.regWrite_bivouac s a _ _ hb
    show onUnit s _ _ = _
    rw [hw]
    simp [onUnit]
  · show onUnit s _ _ = _
    rw [onUnit_of (decide_eq_true hc), State.regWrite_takes s a _ _ hb ha]
    simp [State.setSvcArea, h1, h2]
  · exact onUnit_none (decide_eq_false (by omega)) s _

end Sys2Proof.Machine
end

section
/-! The scalar sequencer (R85, R87, R88). -/
namespace Sys2Proof.Machine
open Sys2Proof.Safety

/-! ### Scalar values -/

@[simp] theorem ldiValue_low (old : Word) (imm : BitVec 32) : ldiValue old false imm = imm.signExtend 64 := rfl

theorem ldiValue_high (old : Word) (imm : BitVec 32) :
    ldiValue old true imm = BitVec.ofNat 64 (imm.toNat * 2 ^ 32 + old.toNat % 2 ^ 32) := by
  apply BitVec.eq_of_toNat_eq
  simp only [ldiValue, if_true, BitVec.toNat_append, BitVec.extractLsb'_toNat, Nat.shiftRight_zero, BitVec.toNat_ofNat]
  rw [← Nat.shiftLeft_add_eq_or_of_lt (Nat.mod_lt _ (by decide)), Nat.shiftLeft_eq]
  omega

/-- A command that gives a register a value computed from its core, in both classes of code. -/
theorem scalarResult_of {c : Instr} {x : Issue} {rd : RegSpec} {value : Core → Word}
    (h : ∀ s : State, exec c s = onCore s x (if x.svc then s.svcStep x fun k => (k.setReg rd (value k), none)
      else s.issue x fun s t => s.pushReg x t rd (value (s.core x.core)))) : scalarResult c x rd value := by
  intro s hc
  refine ⟨fun hp hi => ⟨_, (h s).trans (onCore_issue hc hp hi _ _ _), ?_⟩, fun hs hr => ?_⟩
  · simp +contextual [State.pushReg_core, issuedAs_core_ne, State.pushReg_core_ne]
  · rw [h, if_pos hs, onCore_of hc, State.svcStep_goes hr rfl]
    by_cases hd : rd.toNat < 32 <;> simp [Core.setReg, hd]

theorem alu_scalarResult (op : Alu) (x : Issue) (rd ra rb : RegSpec) (imm : BitVec 23) :
    scalarResult (op.command x rd ra rb imm) x rd (fun k => op.value (k.reg ra) (k.operandB rb imm)) :=
  scalarResult_of fun _ => by cases op <;> rfl

/-- Settles O17: each operation's command has the value that its row of the table gives. -/
theorem scalarArithmeticResults : Obligations.ScalarArithmeticResults := by
  intro x rd ra rb imm
  have h := fun op => alu_scalarResult op x rd ra rb imm
  have signed (a b : Word) : (a.slt b = true) = (a.toInt < b.toInt) := propext BitVec.slt_iff_toInt_lt
  have unsigned (a b : Word) : (a.ult b = true) = (a.toNat < b.toNat) := propext BitVec.ult_iff_toNat_lt
  refine ⟨h .add, h .sub, h .mul, h .and, h .or, h .xor, h .shl, h .shr, h .sra, ?_, ?_, ?_, ?_, h .seq⟩
  · simpa only [Alu.value, Alu.command, Core.operandB, signed, BitVec.ofNat_eq_ofNat] using h .min
  · simpa only [Alu.value, Alu.command, Core.operandB, signed, BitVec.ofNat_eq_ofNat] using h .max
  · simpa only [Alu.value, Alu.command, Core.operandB, signed, BitVec.ofNat_eq_ofNat] using h .slt
  · simpa only [Alu.value, Alu.command, Core.operandB, unsigned, BitVec.ofNat_eq_ofNat] using h .sltu

/-- Refutes O18: what is due at a tick that has passed stands at a later tick's end, so what is due at another tick does not
always stay: a write due at tick 0 is made at tick 1's end. -/
theorem not_registerWritesTakeEffectAtTheTicksEnd : ¬ Obligations.RegisterWritesTakeEffectAtTheTicksEnd := by
  unfold Obligations.RegisterWritesTakeEffectAtTheTicksEnd
  rintro ⟨-, -, h⟩
  have hkept := h { agenda := [(0, .sreg 0 0 1)] } 1 0 0 0 1 (by decide) rfl
  exact absurd hkept (by decide)

end Sys2Proof.Machine
end

section
/-! Schedule faults within a frame (R59, R71): the record, the abort tick and what they leave. -/
namespace Sys2Proof.Machine
open Sys2Proof.Safety

section
variable (s : State) (f : FaultRec) (t : Nat)

theorem State.logFault_cores : (s.logFault f).cores = s.cores := by
  unfold State.logFault
  dsimp only
  split <;> rfl

/-- The first fault of a frame is recorded (R71). -/
def State.recordFault : State :=
  if s.frame.first.isSome then s else (s.logFault f).setFrame { s.frame with first := some f }

/-- Abort mode starts in a fault's tick (R59). -/
def State.startAbort : State :=
  let s := s.setFrame { s.frame with bad := true }
  if s.frame.abortTick.isNone then (s.setFrame { s.frame with abortTick := some t }).rset0 PLAN_FRAME_CTRL.ABORT_MODE 1 else s

@[simp] theorem State.recordFault_cores : (s.recordFault f).cores = s.cores := by
  unfold State.recordFault
  split
  · rfl
  · exact s.logFault_cores f

@[simp] theorem State.recordFault_first : (s.recordFault f).frame.first = some (s.frame.first.getD f) := by
  cases h : s.frame.first <;> simp [State.recordFault, h]

@[simp] theorem State.recordFault_abortTick : (s.recordFault f).frame.abortTick = s.frame.abortTick := by
  unfold State.recordFault
  split <;> rfl

theorem State.recordFault_phase : (s.recordFault f).frame.phase = s.frame.phase := by
  unfold State.recordFault
  split <;> rfl

@[simp] theorem State.startAbort_cores : (s.startAbort t).cores = s.cores := by
  cases h : s.frame.abortTick <;> simp [State.startAbort, h]

@[simp] theorem State.startAbort_first : (s.startAbort t).frame.first = s.frame.first := by
  cases h : s.frame.abortTick <;> simp [State.startAbort, h]

@[simp] theorem State.startAbort_bad : (s.startAbort t).frame.bad = true := by
  cases h : s.frame.abortTick <;> simp [State.startAbort, h]

@[simp] theorem State.startAbort_abortTick : (s.startAbort t).frame.abortTick = some (s.frame.abortTick.getD t) := by
  cases h : s.frame.abortTick <;> simp [State.startAbort, h]

/-- A fault's record as the frame stamps it (R71). -/
def State.stampFault : FaultRec :=
  { f with gst := s.frame.start + t, ftick := t, variant := s.plan.active.getD 0, flags := 0 + f.flags,
           origin := if f.flags = 0 then s.rget IDENT_DOMAIN.DEVICE_ID else f.origin }

/-- A fault of a frame in progress that is not in abort mode is counted, recorded if it is the first, and starts abort mode. -/
theorem State.raiseFault_inFrame (hc : causeFailSafe f.cause = false) (hp : s.frame.phase = .inFrame) (hm : s.mutedAt t = false) :
    s.raiseFault f t =
      ((s.setFrame { s.frame with faults := s.frame.faults + 1 }).recordFault (s.stampFault f t)).startAbort t := by
  unfold State.raiseFault
  extract_lets region inFrame g _ counted _ recorded _ aborting _ raised
  have hin : inFrame = true := by simp [inFrame, hp]
  have hg : g = s.stampFault f t := by simp [g, hin, hc, State.stampFault]
  have hphase : recorded.frame.phase = .inFrame := (counted.recordFault_phase g).trans hp
  have hraised : raised = (counted.recordFault g).startAbort t := by
    simp only [raised]
    rw [if_neg (by simp [hm]), if_pos hin, if_pos (decide_eq_true hphase)]
    rfl
  rw [if_neg (by simp [g, hc]), hraised, hg]

end

section
variable {s : State} {x : Issue} {cause unit detail t : Nat} (hc : causeFailSafe cause = false) (hp : s.frame.phase = .inFrame)
  (hm : s.mutedAt t = false)
include hc hp hm

/-- A fault leaves every core as it was (R71). -/
theorem State.instrFault_core (c : Nat) : (s.instrFault x cause unit detail t).core c = s.core c := by
  unfold State.instrFault State.coreFault State.core
  rw [State.raiseFault_inFrame s _ t hc hp hm]
  simp

theorem State.instrFault_bad : (s.instrFault x cause unit detail t).frame.bad = true := by
  unfold State.instrFault State.coreFault
  rw [State.raiseFault_inFrame s _ t hc hp hm]
  simp

/-- The first fault of a frame is its record (R71). -/
theorem State.instrFault_first (hf : s.frame.first = none) :
    (s.instrFault x cause unit detail t).frame.first.map (fun f => (f.cause, f.unit, f.detail)) = some (cause, unit, detail % 2 ^ 32) := by
  unfold State.instrFault State.coreFault
  rw [State.raiseFault_inFrame s _ t hc hp hm]
  simp [hf, State.stampFault]

/-- The first fault of a frame starts abort mode in its tick (R59). -/
theorem State.instrFault_abortTick (ha : s.frame.abortTick = none) : (s.instrFault x cause unit detail t).frame.abortTick = some t := by
  unfold State.instrFault State.coreFault
  rw [State.raiseFault_inFrame s _ t hc hp hm]
  simp [ha]

end

end Sys2Proof.Machine
end

section
/-! LDI, LDS and STS (R87, R88, R98). -/
namespace Sys2Proof.Machine
open Sys2Proof.Safety

theorem ldi_scalarResult (x : Issue) (rd : RegSpec) (h : Bool) (imm : BitVec 32) :
    scalarResult (.ldi x rd h imm) x rd (fun k => ldiValue (k.reg rd) h imm) := scalarResult_of fun _ => rfl

/-! ### The effects of LDS and STS at their tick -/

section
variable {s : State} {x : Issue} {ra : RegSpec} {imm : BitVec 23} {t w : Nat} (hw : ((s.core x.core).wordIndex ra imm).toNat = w)
include hw

/-- An LDS of a good word in the scratchpad: its access, and its word due in rd (R88). -/
theorem State.ldsAt_good (rd : RegSpec) (hin : w < 524288) (hm : s.mutedAt t = false) (hb : spadBad (s.core x.core) (8 * w) 8 = false) :
    s.ldsAt x rd ra imm t = (s.access x.core (wordAccess x.core t w)).pushReg x t rd
      (BitVec.ofNat 64 (natOfBytes (spadBytes (s.core x.core) (8 * w) 8))) := by
  subst hw
  simp [State.ldsAt, Nat.not_le.2 hin, hm, hb]

/-- An STS in the scratchpad: its word is due at the end of the tick (R88). -/
theorem State.stsAt_within (rs : RegSpec) (hin : w < 524288) : s.stsAt x rs ra imm t = s.pendWrite x.core
    { tick := t, acc := wordAccess x.core t w, addr := 8 * w, bytes := bytesOf ((s.core x.core).reg rs).toNat 8 } := by
  subst hw
  simp [State.stsAt, Nat.not_le.2 hin]

/-- An STS beyond the scratchpad is an ADDRESS fault (R88). -/
theorem State.stsAt_beyond (rs : RegSpec) (hout : 524288 ≤ w) (hm : s.mutedAt t = false) :
    s.stsAt x rs ra imm t = s.instrFault x 0x0F 0xFFFF (w % 2 ^ 32) t := by
  subst hw
  simp [State.stsAt, hout, hm]

end

/-! ### LDS and STS in service-class code -/

section
variable {k : Core} {ra : RegSpec} {imm : BitVec 23} (r : RegSpec)

theorem stsSvc_outside (h : k.inArea (k.wordIndex ra imm).toNat = false) : stsSvc r ra imm k = (k, some 0x04) := by
  simp [stsSvc, h]

theorem ldsSvc_outside (h : k.inArea (k.wordIndex ra imm).toNat = false) : ldsSvc r ra imm k = (k, some 0x04) := by
  simp [ldsSvc, h]

variable {w : Nat} (hw : (k.wordIndex ra imm).toNat = w) (h : k.inArea w = true)
include hw h

theorem stsSvc_inside : stsSvc r ra imm k = (spadWrite k (8 * w) (bytesOf (k.reg r).toNat 8), none) := by
  simp [stsSvc, hw, h]

theorem ldsSvc_inside : ldsSvc r ra imm k = (k.setReg r (BitVec.ofNat 64 (natOfBytes (spadBytes k (8 * w) 8))), none) := by
  simp [ldsSvc, hw, h]

end

section
variable {s : State} {x : Issue} {ra : RegSpec} {imm : BitVec 23} (rd : RegSpec)

theorem State.ldsService_outside (h : (s.core x.core).inArea ((s.core x.core).wordIndex ra imm).toNat = false) :
    s.ldsService x rd ra imm = s.svcStep x (ldsSvc rd ra imm) := by
  simp [State.ldsService, h]

variable {w : Nat} (hw : ((s.core x.core).wordIndex ra imm).toNat = w)
include hw

theorem State.ldsService_good (h : spadBad (s.core x.core) (8 * w) 8 = false) :
    s.ldsService x rd ra imm = s.svcStep x (ldsSvc rd ra imm) := by
  simp [State.ldsService, hw, h]

/-- A bad word gives rd zeros and ends the call (R98, R170). -/
theorem State.ldsService_bad (hr : s.svcReady x.core = true) (hin : (s.core x.core).inArea w = true)
    (h : spadBad (s.core x.core) (8 * w) 8 = true) :
    s.ldsService x rd ra imm = (s.setCore x.core ((s.core x.core).setReg rd 0#64)).svcEnd x.core 0x0C := by
  simp [State.ldsService, hw, hr, hin, h]

end

section
variable {s : State} {x : Issue} {ra : RegSpec} {imm : BitVec 23} (hc : x.core < 256) (hs : x.svc = true)
include hc hs

theorem exec_sts_svc (rs : RegSpec) : exec (.sts x rs ra imm) s = .next (s.svcStep x (stsSvc rs ra imm)) :=
  (onCore_of hc _ _).trans (by rw [if_pos hs])

theorem exec_lds_svc (rd : RegSpec) : exec (.lds x rd ra imm) s = .next (s.ldsService x rd ra imm) :=
  (onCore_of hc _ _).trans (by rw [if_pos hs])

end

/-- Settles O19: LDI's two forms by their value, LDS and STS by where their word lies and by the class of their code. -/
theorem immediatesAndScratchpadWords : Obligations.ImmediatesAndScratchpadWords := by
  refine ⟨fun x rd imm => ⟨ldi_scalarResult x rd false imm, by simpa only [ldiValue_high] using ldi_scalarResult x rd true imm⟩,
    fun s x rd ra imm w hc hp hi hd hw hin hm hb => ?_, fun s x rs ra imm w hc hp hi hw hin => ?_,
    fun s x rs ra imm hc hp hi hph hout hm => ?_, fun s x rs ra imm hc hs hr hout => ?_,
    fun s x rs ra imm w hc hs hr hw hin => ?_, fun s x rd ra imm w hc hs hr hw hin => ⟨fun hb hd => ?_, fun hb => ?_⟩⟩
  · refine ⟨_, onCore_issue hc hp hi _ _ _, ?_⟩
    rw [State.ldsAt_good hw.symm rd hin hm hb]
    simp [State.pushReg_core, hd]
  · refine ⟨_, onCore_issue hc hp hi _ _ _, ?_⟩
    rw [State.stsAt_within hw.symm rs hin]
    simp [wordAccess]
  · refine ⟨_, onCore_issue hc hp hi _ _ _, ?_⟩
    have haddress : causeFailSafe 0x0F = false := rfl
    rw [State.stsAt_beyond rfl rs hout hm]
    simp [State.instrFault_bad haddress hph hm, State.instrFault_core haddress hph hm]
  · rw [exec_sts_svc hc hs, exec_lds_svc hc hs]
    constructor
    · rw [State.svcStep_ends hr (stsSvc_outside rs hout)]
    · rw [State.ldsService_outside rs hout, State.svcStep_ends hr (ldsSvc_outside rs hout)]
  · refine ⟨_, (exec_sts_svc hc hs rs).trans (by rw [State.svcStep_goes hr (stsSvc_inside rs hw.symm hin)]), ?_⟩
    simp +contextual [State.core_setCore_ne]
  · refine ⟨_, (exec_lds_svc hc hs rd).trans
      (by rw [State.ldsService_good rd hw.symm hb, State.svcStep_goes hr (ldsSvc_inside rd hw.symm hin)]), ?_⟩
    simp [Core.setReg, hd]
  · rw [exec_lds_svc hc hs, State.ldsService_bad rd hw.symm hr hin hb]

end Sys2Proof.Machine
end

section
/-! What a tick's end does with what the queues asked for in it (R69, R85, R89): checks, then effects. -/
namespace Sys2Proof.Machine
open Sys2Proof.Safety

/-! ### A tick with one effect, or with two checks -/

/-- A fold over the places of a list in order, of which one holds an element. -/
theorem foldl_range_one {α β : Type} (f : β → α → β) {g : Nat → List α} {m : Nat} {a : α} (b : β) {n : Nat}
    (hg : ∀ r, r < n → g r = if r = m then [a] else []) :
    (List.range n).foldl (fun b r => (g r).foldl f b) b = if m < n then f b a else b := by
  induction n with
  | zero => simp
  | succ n ih =>
    rw [List.range_succ, List.foldl_append, ih fun r hr => hg r (by omega)]
    by_cases h : n = m
    · simp [hg, h]
    · have hlt : m < n + 1 ↔ m < n := by omega
      simp [hg, h, hlt]

/-- A fold over the places of a list in order, of which two hold an element. -/
theorem foldl_range_two {α β : Type} (f : β → α → β) {g : Nat → List α} {m₁ m₂ : Nat} {a₁ a₂ : α} (hm : m₁ < m₂)
    (hg : ∀ r, g r = if r = m₁ then [a₁] else if r = m₂ then [a₂] else []) (b : β) {n : Nat} (hn : m₂ < n) :
    (List.range n).foldl (fun b r => (g r).foldl f b) b = f (f b a₁) a₂ := by
  have hfirst : (List.range m₂).foldl (fun b r => (g r).foldl f b) b = f b a₁ := by
    rw [foldl_range_one (m := m₁) (a := a₁) f b fun r hr => by simp [hg, Nat.ne_of_lt hr], if_pos hm]
  induction n with
  | zero => omega
  | succ n ih =>
    rw [List.range_succ, List.foldl_append]
    by_cases h : n = m₂
    · subst h
      have hne : n ≠ m₁ := by omega
      rw [hfirst]
      simp [hg, hne]
    · have h₁ : n ≠ m₁ := by omega
      rw [ih (by omega)]
      simp [hg, h, h₁]

theorem Effect.rank_lt (e : Effect) : e.rank < 9 := by
  cases e <;> simp only [Effect.rank] <;> omega

section
variable {k : Core} {u : Nat} {e : Effect}

/-- The end of a tick in which one effect is due: the checks' counters, then the effect. -/
theorem Core.applyAgenda_one (h : k.agenda = [(u, e)]) : k.applyAgenda u =
    Core.applyEffect { k with tokens := (k.checks u).tokens, credits := (k.checks u).credits, agenda := [] } e := by
  unfold Core.applyAgenda
  dsimp only
  rw [foldl_range_one (fun k e => Core.applyEffect k e) (m := e.rank) (a := e), if_pos e.rank_lt]
  · simp [h]
  · intro r _
    by_cases hr : r = e.rank
    · simp [h, hr]
    · simp [h, hr, Ne.symm hr]

/-- An effect that is no check leaves the checks nothing. -/
theorem Core.checks_none (h : k.agenda = [(u, e)]) (hq : e.checkQueue = none) : k.checks u = { tokens := k.tokens, credits := k.credits } := by
  simp [Core.checks, h, hq, List.range_succ]

theorem Core.checks_one {q : Nat} (h : k.agenda = [(u, e)]) (hq : e.checkQueue = some q) (h5 : q < 5) :
    k.checks u = Checks.step { tokens := k.tokens, credits := k.credits } e := by
  unfold Core.checks
  rw [foldl_range_one Checks.step (m := q) (a := e), if_pos h5]
  intro r _
  by_cases hr : r = q
  · simp [h, hq, hr]
  · simp [h, hq, hr, Ne.symm hr]

/-- Two queues' checks go in the queues' order, however they stand in the agenda (R89). -/
theorem Core.checks_two {e₁ e₂ : Effect} {q₁ q₂ : Nat} (hag : k.agenda = [(u, e₁), (u, e₂)] ∨ k.agenda = [(u, e₂), (u, e₁)])
    (h₁ : e₁.checkQueue = some q₁) (h₂ : e₂.checkQueue = some q₂) (hlt : q₁ < q₂) (h5 : q₂ < 5) :
    k.checks u = (Checks.step { tokens := k.tokens, credits := k.credits } e₁).step e₂ := by
  unfold Core.checks
  refine foldl_range_two Checks.step hlt (fun r => ?_) _ h5
  have hne : q₂ ≠ q₁ := by omega
  by_cases hr₁ : r = q₁
  · rcases hag with hag | hag <;> simp [hag, h₁, h₂, hr₁, hne]
  · by_cases hr₂ : r = q₂
    · rcases hag with hag | hag <;> simp [hag, h₁, h₂, hr₂, hne, hne.symm]
    · rcases hag with hag | hag <;> simp [hag, h₁, h₂, hr₁, hr₂, Ne.symm hr₁, Ne.symm hr₂]

end

/-! ### Each check (R69, R89, R90) -/

section
variable {c : Checks} {q pc : Nat}

theorem Checks.step_wait {id n : Nat} (h : n ≤ Assoc.get 0 c.tokens id) :
    c.step (.tokenWait q pc id n) = { c with tokens := Assoc.put 0 c.tokens id (Assoc.get 0 c.tokens id - n) } :=
  if_neg (by omega)

theorem Checks.step_wait_absent {id n : Nat} (h : Assoc.get 0 c.tokens id < n) :
    c.step (.tokenWait q pc id n) = { c with faults := c.faults ++ [{ queue := q, pc := pc, cause := 0x01, detail := id }] } := if_pos h

theorem Checks.step_credit {pool : Nat} (h : 0 < Assoc.get 0 c.credits pool) :
    c.step (.creditTake q pc pool) = { c with credits := Assoc.put 0 c.credits pool (Assoc.get 0 c.credits pool - 1) } :=
  if_neg (by omega)

theorem Checks.step_credit_absent {pool : Nat} (h : Assoc.get 0 c.credits pool = 0) :
    c.step (.creditTake q pc pool) = { c with faults := c.faults ++ [{ queue := q, pc := pc, cause := 0x04, detail := pool }] } := if_pos h

theorem mem_maskTokens {mask j : Nat} : j ∈ maskTokens mask ↔ j < 32 ∧ mask.testBit j = true := by simp [maskTokens]

theorem maskTokens_nodup (mask : Nat) : (maskTokens mask).Nodup := List.nodup_range.filter _

/-- One token less of each of a list. -/
theorem get_foldl_takeOne (l : List Nat) (hl : l.Nodup) (m : Assoc Nat) (j : Nat) :
    Assoc.get 0 (l.foldl (fun m j => Assoc.put 0 m j (Assoc.get 0 m j - 1)) m) j = Assoc.get 0 m j - if j ∈ l then 1 else 0 := by
  induction l generalizing m with
  | nil => simp
  | cons a l ih =>
    obtain ⟨ha, hl⟩ := List.nodup_cons.1 hl
    rw [List.foldl_cons, ih hl, Assoc.get_put]
    by_cases h : j = a
    · simp [h, ha]
    · simp [h]

variable {mask : Nat}

theorem Checks.step_bar (h : ∀ j, j < 32 → mask.testBit j = true → 0 < Assoc.get 0 c.tokens j) : c.step (.tokenBar q pc mask) =
    { c with tokens := (maskTokens mask).foldl (fun m j => Assoc.put 0 m j (Assoc.get 0 m j - 1)) c.tokens } := by
  have hnone : ((maskTokens mask).filter fun j => decide (Assoc.get 0 c.tokens j = 0)) = [] := by
    refine List.filter_eq_nil_iff.2 fun j hj => ?_
    obtain ⟨h32, hbit⟩ := mem_maskTokens.1 hj
    simpa using Nat.ne_of_gt (h j h32 hbit)
  simp [Checks.step, hnone]

theorem Checks.step_bar_absent {j : Nat} (h32 : j < 32) (hbit : mask.testBit j = true) (h : Assoc.get 0 c.tokens j = 0) :
    ∃ missing, c.step (.tokenBar q pc mask) = { c with faults := c.faults ++ [barFault q pc missing] } := by
  refine ⟨(maskTokens mask).filter fun j => decide (Assoc.get 0 c.tokens j = 0), if_neg ?_⟩
  rw [List.isEmpty_iff, List.filter_eq_nil_iff]
  exact fun hall => hall j (mem_maskTokens.2 ⟨h32, hbit⟩) (decide_eq_true h)

end

end Sys2Proof.Machine
end

section
/-! Queue control and tokens (R79, R80, R89, R91 to R93). -/
namespace Sys2Proof.Machine
open Sys2Proof.Safety

/-! ### Where a queue goes -/

@[simp] theorem QueueSt.goTo_branches (q : QueueSt) (pc : Nat) : (q.goTo pc).branches = q.branches := rfl

@[simp] theorem QueueSt.next_branches (q : QueueSt) : q.next.branches = q.branches := rfl

@[simp] theorem QueueSt.join_branches (q : QueueSt) : q.join.branches = q.branches.drop 1 := rfl

theorem QueueSt.loop_body (q : QueueSt) (count : Nat) {body : Nat} (h : 0 < body) : q.loop count body =
    { q with pc := q.pc + 8
             loops := { first := q.pc + 8, stop := q.pc + 8 + 8 * body, left := if count = 0 then 65536 else count } :: q.loops } :=
  if_neg (by omega)

/-- A branch opens, with the place and the signals that its JOIN checks (R92). -/
theorem QueueSt.branch_head (q : QueueSt) (t alen blen : Nat) (taken : Bool) :
    (q.branch t alen blen taken).branches.head?.map (fun b => (b.joinPc, b.tBrb, b.sigs0)) =
      some (q.pc + 8 * (1 + alen + blen), t, q.sigs) := rfl

/-- An arm T that holds words follows its BRB (R92). -/
theorem QueueSt.branch_taken_pc (q : QueueSt) (t blen : Nat) {alen : Nat} (h : 0 < alen) : (q.branch t alen blen true).pc = q.pc + 8 := by
  have hne : ¬ some (q.pc + 8 * (1 + alen)) = some (q.pc + 8) := fun h' => by have := Option.some.inj h'; omega
  exact if_neg hne

theorem QueueSt.branch_armF_pc (q : QueueSt) (t alen blen : Nat) : (q.branch t alen blen false).pc = q.pc + 8 * (1 + alen) := rfl

/-! ### JOIN's check (R92, R93) -/

section
variable {s : State} {x : Issue} {ticks sig t : Nat} {b : BranchSt} {bs : List BranchSt} (hb : (s.queue x).branches = b :: bs)
include hb

theorem State.joinAt_balanced (h : (t - b.tBrb = ticks ∧ (s.queue x).sigs - b.sigs0 = sig) ∨ s.abortedAt t = true) :
    s.joinAt x ticks sig t = s := by
  simp only [State.joinAt, hb]
  exact if_pos h.symm

theorem State.joinAt_unbalanced (ha : s.abortedAt t = false) (h : t - b.tBrb ≠ ticks ∨ (s.queue x).sigs - b.sigs0 ≠ sig) :
    s.joinAt x ticks sig t =
      s.push x.core t (.unbalanced x.queue (s.queue x).pc (t - b.tBrb) ((s.queue x).sigs - b.sigs0)) := by
  simp only [State.joinAt, hb]
  refine if_neg ?_
  rw [ha]
  rintro (h' | ⟨h₁, h₂⟩)
  · exact Bool.false_ne_true h'
  · exact h.elim (· h₁) (· h₂)

end

theorem State.waitAt_unmuted {s : State} {t : Nat} (h : s.mutedAt t = false) (x : Issue) (token n : Nat) :
    s.waitAt x token n t = s.push x.core t (.tokenWait x.queue (s.queue x).pc token n) := if_neg (by simp [h])

theorem State.barAt_unmuted {s : State} {t : Nat} (h : s.mutedAt t = false) (x : Issue) (mask : BitVec 32) :
    s.barAt x mask t = s.push x.core t (.tokenBar x.queue (s.queue x).pc mask.toNat) := if_neg (by simp [h])

/-! ### Tokens at the end of a tick (R69, R89) -/

section
variable {k : Core} {u q pc token n : Nat}

theorem Core.tokenAdd_ends (h : k.agenda = [(u, .tokenAdd q pc token n)]) :
    Assoc.get 0 (k.applyAgenda u).tokens token = Nat.min 255 (Assoc.get 0 k.tokens token + n) := by
  rw [Core.applyAgenda_one h, Core.checks_none h rfl]
  simp [Core.applyEffect]

theorem Core.tokenWait_ends (h5 : q < 5) (h : k.agenda = [(u, .tokenWait q pc token n)]) (hn : n ≤ Assoc.get 0 k.tokens token) :
    (k.checks u).faults.length = 0 ∧ Assoc.get 0 (k.applyAgenda u).tokens token = Assoc.get 0 k.tokens token - n := by
  rw [Core.applyAgenda_one h, Core.checks_one h rfl h5, Checks.step_wait hn]
  simp [Core.applyEffect]

theorem Core.tokenWait_absent (h5 : q < 5) (h : k.agenda = [(u, .tokenWait q pc token n)]) (hn : Assoc.get 0 k.tokens token < n) :
    (k.checks u).faults.map (fun f => (f.queue, f.pc, f.cause, f.detail)) = [(q, pc, 0x01, token)] ∧
      (k.applyAgenda u).tokens = k.tokens := by
  rw [Core.applyAgenda_one h, Core.checks_one h rfl h5, Checks.step_wait_absent hn]
  simp [Core.applyEffect]

variable {mask : Nat} (h5 : q < 5) (h : k.agenda = [(u, .tokenBar q pc mask)])
include h5 h

theorem Core.tokenBar_ends (hall : ∀ j, j < 32 → mask.testBit j = true → 0 < Assoc.get 0 k.tokens j) :
    (k.checks u).faults.length = 0 ∧
      ∀ j, j < 32 → Assoc.get 0 (k.applyAgenda u).tokens j = Assoc.get 0 k.tokens j - (if mask.testBit j then 1 else 0) := by
  rw [Core.applyAgenda_one h, Core.checks_one h rfl h5, Checks.step_bar hall]
  refine ⟨rfl, fun j hj => ?_⟩
  simp [Core.applyEffect, get_foldl_takeOne _ (maskTokens_nodup mask), mem_maskTokens, hj]

theorem Core.tokenBar_absent {j : Nat} (h32 : j < 32) (hbit : mask.testBit j = true) (h0 : Assoc.get 0 k.tokens j = 0) :
    (k.checks u).faults.map (fun f => (f.queue, f.pc, f.cause)) = [(q, pc, 0x02)] ∧ (k.applyAgenda u).tokens = k.tokens := by
  obtain ⟨missing, hstep⟩ := Checks.step_bar_absent (c := { tokens := k.tokens, credits := k.credits }) (q := q) (pc := pc) h32 hbit h0
  rw [Core.applyAgenda_one h, Core.checks_one h rfl h5, hstep]
  exact ⟨rfl, rfl⟩

end

/-- Settles O20: each instruction by where its queue goes and what it leaves for the tick's end, then what the tick's end does. -/
theorem queueControlAndTokens : Obligations.QueueControlAndTokens := by
  refine ⟨fun s x hc hp hi => ?_, fun s h hcmd => ?_, fun s x hc hp hi => ?_, fun s x count body hc hp hi hb => ?_,
    fun s x cond ra rb alen blen hc hp hi hal hab => ?_, fun s x cond ra rb alen blen hc hp hi hab => ?_,
    fun s x ticks sig b bs hc hp hi hb h => ?_, fun s x ticks sig b bs hc hp hi hb hab h => ?_,
    fun k u q pc dt ds h => ?_, fun s x hc hp hi => ?_, fun s x token n hc hp hi => ?_, fun s x token n hc hp hi hm => ?_,
    fun s x mask hc hp hi hm => ?_, fun k u q pc token n h => Core.tokenAdd_ends h,
    fun k u q pc token n h5 h => ⟨Core.tokenWait_ends h5 h, Core.tokenWait_absent h5 h⟩,
    fun k u q pc mask h5 h => ⟨Core.tokenBar_ends h5 h, fun j => Core.tokenBar_absent h5 h⟩,
    fun k u q1 q2 pc1 pc2 token n1 n2 hlt h5 hag h1 h2 => ?_⟩
  · exact onCore_issue hc hp hi _ _ _
  · exact congrArg _ (State.runCmd_plain s h cmdNop _ _ hcmd)
  · exact onCore_issue hc hp hi _ _ _
  · exact ⟨_, onCore_planOnly hc hp hi _ _, by rw [QueueSt.loop_body _ _ hb]; rfl⟩
  · refine ⟨_, onCore_planOnly hc hp hi _ _, ?_, ?_, ?_⟩
    · rw [issuedAs_queue, hab]
      dsimp only
      cases hcond : condHolds cond (((atIssue s x).core x.core).reg ra) (((atIssue s x).core x.core).reg rb)
      · exact QueueSt.branch_armF_pc _ _ _ _
      · exact QueueSt.branch_taken_pc _ _ _ hal
    · rw [issuedAs_queue]
      exact QueueSt.branch_head _ _ _ _ _
    · simp [noEffect]
  · refine ⟨_, onCore_planOnly hc hp hi _ _, ?_⟩
    rw [issuedAs_queue, hab]
    exact QueueSt.branch_armF_pc _ (s.issueTick x) alen blen
  · refine (onCore_planOnly hc hp hi _ _).trans ?_
    rw [State.joinAt_balanced hb h]
  · refine ⟨_, onCore_planOnly hc hp hi _ _, ?_⟩
    rw [State.joinAt_unbalanced hb hab h]
    simp [hb]
  · simp [Core.joinFaults, h]
  · exact ⟨onCore_cannot hp hi _ _ _, onCore_cannot hp hi _ _ _⟩
  · refine ⟨_, onCore_planOnly hc hp hi _ _, ?_⟩
    simp [withSigs]
  · refine ⟨_, onCore_planOnly hc hp hi _ _, ?_⟩
    rw [State.waitAt_unmuted hm]
    simp
  · refine ⟨_, onCore_planOnly hc hp hi _ _, ?_⟩
    rw [State.barAt_unmuted hm]
    simp
  · have hfirst := Checks.step_wait (c := { tokens := k.tokens, credits := k.credits }) (q := q1) (pc := pc1) h1
    rw [Core.checks_two hag rfl rfl hlt h5, hfirst, Checks.step_wait_absent (by simpa using h2)]
    rfl

end Sys2Proof.Machine
end

section
/-! Service calls, library routines and service windows (R97 to R99). -/
namespace Sys2Proof.Machine
open Sys2Proof.Safety

/-! ### SVC_RUN (R97) -/

/-- SVC_RUN to an idle core of the map loads its buffer, and its reply comes later. -/
theorem exec_svcRun {s : State} {h : HostCmd} (code : List Word) (hcmd : plainCmd s h cmdSvcRun) (hc : h.a0 < 256) (h0 : 0 < h.a2)
    (h512 : h.a2 ≤ 512) (hv : s.coreValid h.a0 = true) (hst : (s.core h.a0).svc.state = 0) :
    exec (.svcRun h code) s = .next (s.setCore h.a0 { s.core h.a0 with
      svc := { code := code.take h.a2, state := if s.inWindow then 1 else 2, base := (s.core h.a0).svc.base,
               count := (s.core h.a0).svc.count, results := (s.core h.a0).svc.results, cmd := some h } }) := by
  refine congrArg _ ((State.runCmd_plain s h cmdSvcRun _ _ hcmd).trans ?_)
  have hform : ¬ (h.a0 ≥ 256 ∨ h.a2 = 0 ∨ h.a2 > 512 ∨ ¬ s.coreValid h.a0 = true) := by
    simp [hv]
    omega
  dsimp only
  rw [if_neg hform, if_neg (by simp [hst])]

/-! ### BRU and LCALL (R87, R98, R99) -/

section
variable {s : State} {x : Issue} (hc : x.core < 256) (hs : x.svc = true) (hr : s.svcReady x.core = true)

theorem moveIndex_of {i j : Nat} {off : Int} (h : (i : Int) + off = j) (hj : j < 512) : moveIndex i off = some j := by
  have hrange : 0 ≤ (j : Int) ∧ (j : Int) < 512 := by omega
  simp [moveIndex, h, hrange]

section
include hc hs hr

/-- BRU moves the call to its next index, if that lies in the buffer. -/
theorem exec_bru_svc {cond : Nat} {ra rb : RegSpec} {off : BitVec 27} {i : Nat}
    (hi : (if condHolds cond ((s.core x.core).reg ra) ((s.core x.core).reg rb) = true then moveIndex (s.core x.core).svc.index off.toInt
      else some ((s.core x.core).svc.index + 1)) = some i) :
    exec (.bru x cond ra rb off) s = .next (s.setCore x.core { s.core x.core with svc := { (s.core x.core).svc with index := i } }) := by
  refine (onCore_of hc _ _).trans (congrArg _ ?_)
  rw [if_pos ⟨hs, hr⟩]
  dsimp only
  rw [hi]

/-- LCALL by whether the routine is resident, its arguments lie in the service area, and its bound fits the window. -/
theorem exec_lcall_svc (r : Nat) : exec (.lcall x r) s = .next (
    if s.routineVersion r = 0 then s.svcEnd x.core 0x05
    else if (s.core x.core).routineArgsOk r = false then s.svcEnd x.core 0x04
    else match s.windowLeft with
      | none => s.setCore x.core { s.core x.core with svc := { (s.core x.core).svc with waitingCall := some r } }
      | some left =>
        if s.running = true ∧ s.frame.gap - s.verdictTicks - 3136 < (s.core x.core).routineBound r then s.svcEnd x.core 0x05
        else if (s.core x.core).routineBound r ≤ left then
          s.setCore x.core { s.core x.core with svc := { (s.core x.core).svc with waitingCall := some r } }
        else s.setCore x.core { s.core x.core with svc := { (s.core x.core).svc with state := 2 } }) := by
  refine (onCore_of hc _ _).trans (congrArg _ ?_)
  rw [if_pos ⟨hs, hr⟩]
  simp only [Bool.not_eq_true, gt_iff_lt] <;> rfl

end
end

theorem exec_bru_lcall_plan {x : Issue} (hp : x.svc = false) (s : State) (cond : Nat) (ra rb : RegSpec) (off : BitVec 27) (r : Nat) :
    exec (.bru x cond ra rb off) s = .next s ∧ exec (.lcall x r) s = .next s := by
  constructor <;> refine congrArg Host.Outcome.next ?_ <;> simp [hp]

/-- The resident routines of R99's table have a version. -/
theorem State.routineVersion_resident (s : State) {r : Nat} (h : r = 1 ∨ r = 2 ∨ r = 3 ∨ r = 4 ∨ r = 16) : s.routineVersion r ≠ 0 := by
  have hlisted : [0x0001, 0x0002, 0x0003, 0x0004, 0x0010].contains r = true := by simpa using h
  have hone : s.routineVersion r = Nat.max 1 _ := if_pos hlisted
  rw [hone]
  exact Nat.ne_of_gt (Nat.lt_of_lt_of_le Nat.one_pos (Nat.le_max_left _ _))

/-- An opcode that service-class code may not hold ends the call (R98). -/
theorem onCore_planOnly_svc {s : State} {x : Issue} (hc : x.core < 256) (hs : x.svc = true) (hr : s.svcReady x.core = true)
    (effect : State → Nat → State) (flow : State → QueueSt → Nat → QueueSt) :
    onCore s x (s.planOnly x effect flow) = .next (s.svcEnd x.core 0x04) := by
  rw [onCore_of hc, State.planOnly_svc hs]
  exact congrArg _ (State.svcStep_ends hr rfl)

/-! ### The fill routine (R99) -/

/-- The completion of routine 1: its lines are filled, s0 is its status, and the call goes on. -/
theorem exec_libraryRoutineCompletion_fill {s : State} {c : Nat} (st : Nat) (rs : List Nat) (hc : c < 256)
    (hw : (s.core c).svc.waitingCall = some 0x0001) :
    exec (.libraryRoutineCompletion c st rs) s = .next (s.setCore c
      { spadWrite (s.core c) (64 * (s.core c).arg 1) (List.replicate (8 * (s.core c).arg 2) (bytesOf ((s.core c).arg 3) 8)).flatten with
        sregs := Assoc.put 0 (s.core c).sregs 0 0
        svc := { (s.core c).svc with waitingCall := none, status := 0, index := (s.core c).svc.index + 1 } }) := by
  refine (onUnit_of (decide_eq_true hc) _ _).trans (congrArg _ ?_)
  dsimp only
  rw [hw]
  rfl

/-! ### Service windows (R97) -/

/-- After every call has gone from one state to another, only calls that wait for a routine are in the first. -/
theorem State.svcAll_left (s : State) {src dst : Nat} (h : src ≠ dst) :
    ∀ e ∈ (s.svcAll src dst).cores, e.2.svc.state = src → e.2.svc.waitingCall.isSome = true := by
  intro e he hst
  obtain ⟨a, -, rfl⟩ := List.mem_map.1 he
  split at hst
  · exact absurd hst.symm h
  · rename_i hwas
    rw [if_neg hwas]
    simpa [hst, Option.isSome_iff_ne_none] using hwas

theorem exec_serviceWindowStart {s : State} (hw : s.inWindow = true) (hl : s.rgr.libTrial = false) :
    exec .serviceWindowStart s = .next (s.svcAll 2 1) := by
  refine congrArg _ ((if_pos hw).trans (if_neg ?_))
  simp [State.svcAll, hl]

theorem exec_serviceWindowEnd {s : State} (hw : s.inWindow = false) (hd : s.mem.svcDma = []) :
    exec .serviceWindowEnd s = .next (s.svcAll 1 2) := by
  refine congrArg _ ((if_neg (by simp [hw])).trans ?_)
  rw [hd]
  rfl

/-- Settles O21: each command of a call and of a window by the state that it finds. -/
theorem serviceCallsRun : Obligations.ServiceCallsRun := by
  refine ⟨fun s h code => exec_svcRun code, fun s x cond ra rb off i hc hs hr hcond hmove hi => ?_,
    fun s x cond ra rb off hc hs hr hcond => ?_, fun s x r hc hs hr hres hargs hw => ?_, fun s x r hc hs hr hw => ?_,
    fun s c st rs hc hw => ?_, fun s hw hl => ?_, fun s hw hd => ?_, fun s => ⟨fun hw => ?_, fun hw => ?_⟩,
    fun s x r left hc hs hr hw hres hargs => ?_, fun s x cond ra rb off r hp => exec_bru_lcall_plan hp s cond ra rb off r, ?_⟩
  · exact exec_bru_svc hc hs hr (by rw [if_pos hcond, moveIndex_of hmove hi])
  · exact exec_bru_svc hc hs hr (by rw [if_neg (by simp [hcond])])
  · simp [exec_lcall_svc hc hs hr, hw, s.routineVersion_resident hres, hargs]
  · simp [exec_lcall_svc hc hs hr, hw]
  · refine ⟨_, exec_libraryRoutineCompletion_fill st rs hc hw, ?_⟩
    simp +contextual [State.core_setCore_ne]
  · exact ⟨_, exec_serviceWindowStart hw hl, s.svcAll_left (by decide), rfl⟩
  · exact ⟨_, exec_serviceWindowEnd hw hd, s.svcAll_left (by decide), rfl⟩
  · exact congrArg _ (if_neg (by simp [hw]))
  · exact congrArg _ (if_pos hw)
  · simp [exec_lcall_svc hc hs hr, hw, hres, hargs]
  · intro s x token n count body cond alen blen slot line src len rmode ch route pool done kt fmtA fmtB eng ra rb rc mask emask b1 b2 b3
      hc hs hr c hmem
    have h := onCore_planOnly_svc hc hs hr
    simp only [List.mem_cons, List.not_mem_nil, or_false] at hmem
    rcases hmem with rfl | rfl | rfl | rfl | rfl | rfl | rfl | rfl | rfl | rfl | rfl | rfl | rfl | rfl <;> exact h _ _

end Sys2Proof.Machine
end

section
/-! An instruction that issues at the frame's present tick, in a frame without a fault. -/
namespace Sys2Proof.Machine
open Sys2Proof.Safety

@[simp] theorem State.tel_mutedAt (s : State) (k n t : Nat) : (s.tel k n).mutedAt t = s.mutedAt t := by simp [State.mutedAt]

@[simp] theorem State.tel_abortedAt (s : State) (k n t : Nat) : (s.tel k n).abortedAt t = s.abortedAt t := by simp [State.abortedAt]

theorem State.mutedAt_clear {s : State} (hs : s.frame.fromStart = false) (ha : s.frame.abortTick = none) (t : Nat) : s.mutedAt t = false := by
  simp [State.mutedAt, hs, ha]

/-- No tick passes before an instruction that issues at the tick that the frame has come to. -/
theorem atIssue_now {s : State} {x : Issue} (h : s.issueTick x = s.frame.now) : atIssue s x = s.tel 0 1 := by
  simp [atIssue, State.advance, h, State.runTicks]

theorem State.canIssue_inFrame {s : State} {x : Issue} (h : s.canIssue x = true) : s.frame.phase = .inFrame := by
  simp only [State.canIssue, Bool.and_eq_true, decide_eq_true_eq] at h
  exact h.1.1

end Sys2Proof.Machine
end

section
/-! MPASS: what its engines take (R94, R106, R109, R384). -/
namespace Sys2Proof.Machine
open Sys2Proof.Safety

/-! ### Engines that take passes -/

@[simp] theorem Core.engine_setEngine_same (k : Core) (e : Nat) (x : Engine) : (k.setEngine e x).engine e = x := by
  simp [Core.engine, Core.setEngine]

theorem Core.engine_setEngine_ne (k : Core) (e : Nat) (x : Engine) {d : Nat} (h : d ≠ e) : (k.setEngine e x).engine d = k.engine d := by
  simp [Core.engine, Core.setEngine, Assoc.get_put_ne _ _ _ _ _ _ h]

@[simp] theorem issuedAs_engine (s : State) (x : Issue) (q : QueueSt) (t e : Nat) :
    ((issuedAs s x q t).core x.core).engine e = (s.core x.core).engine e := by simp [Core.engine]

theorem Core.startPass_eq (k : Core) (e : Nat) (p : Pass) : ∃ x : Engine, x.passes = (k.engine e).passes ++ [p] ∧ k.startPass e p = k.setEngine e x := by
  unfold Core.startPass
  dsimp only
  split <;> exact ⟨_, rfl, rfl⟩

/-- Engines that take a pass each, one after the other: every other engine and everything else of the core stays. -/
theorem foldl_startPass (g : Core → Nat × Nat → Pass) (l : List (Nat × Nat)) : ∀ (k : Core), (l.map (·.1)).Nodup →
    (∃ engines, l.foldl (fun k e => k.startPass e.1 (g k e)) k = { k with engines := engines }) ∧
    (∀ e, e ∉ l.map (·.1) → (l.foldl (fun k e => k.startPass e.1 (g k e)) k).engine e = k.engine e) ∧
    (∀ a ∈ l, ∃ engines, ((l.foldl (fun k e => k.startPass e.1 (g k e)) k).engine a.1).passes =
      (k.engine a.1).passes ++ [g { k with engines := engines } a]) := by
  induction l with
  | nil => exact fun k _ => ⟨⟨_, rfl⟩, fun _ _ => rfl, fun a ha => absurd ha List.not_mem_nil⟩
  | cons b l ih =>
    intro k hl
    obtain ⟨hb, hl⟩ := List.nodup_cons.1 hl
    obtain ⟨x, hx, hk⟩ := k.startPass_eq b.1 (g k b)
    rw [List.foldl_cons, hk]
    obtain ⟨⟨engines, hall⟩, hother, htake⟩ := ih (k.setEngine b.1 x) hl
    refine ⟨⟨engines, hall⟩, fun e he => ?_, fun a ha => ?_⟩
    · obtain ⟨hne, hnot⟩ := not_or.1 (mt List.mem_cons.2 he)
      rw [hother e hnot, Core.engine_setEngine_ne _ _ _ hne]
    · rcases List.mem_cons.1 ha with rfl | ha
      · exact ⟨k.engines, by rw [hother _ hb, Core.engine_setEngine_same, hx]⟩
      · have hne : a.1 ≠ b.1 := fun h => hb (List.mem_map.2 ⟨a, ha, h⟩)
        obtain ⟨engines, htaken⟩ := htake a ha
        exact ⟨engines, by rw [htaken, Core.engine_setEngine_ne _ _ _ hne]; rfl⟩

theorem engineList_nodup (emask : BitVec 4) : (engineList emask).Nodup := List.nodup_range.filter _

theorem mem_engineList {emask : BitVec 4} {e : Nat} : e ∈ engineList emask ↔ e < 4 ∧ emask.getLsbD e = true := by simp [engineList]

/-- Engines in their order, with their positions (R106). -/
theorem map_fst_zip_range (l : List Nat) : (l.zip (List.range l.length)).map (·.1) = l := List.map_fst_zip (by simp)

/-! ### MPASS at its issue tick -/

/-- What an MPASS asks for: its shape, bank, formats, registers and length, on the engines of its mask (R94). -/
structure PassForm where
  emask : BitVec 4
  split : Bool
  bank : Bool
  acc : Bool
  fmtA : Nat
  fmtB : Nat
  rA : RegSpec
  rB : RegSpec
  kt : Nat

/-- The operands of an MPASS of a form, 0 standing for 16,384 ticks (R94). -/
def PassForm.plan (f : PassForm) (k : Core) : PassPlan := passPlan k f.emask f.split f.fmtA f.fmtB f.rA f.rB (orFull f.kt 16384)

/-- The pass that engine `e.1`, at position `e.2`, takes of a form at tick t. -/
def PassForm.pass (f : PassForm) (p : PassPlan) (pc t : Nat) (bubble : Bool) (k : Core) (e : Nat × Nat) : Pass :=
  { issue := t, pc := pc, kt := orFull f.kt 16384, split := f.split, bank := f.bank, acc := f.acc, fmtA := f.fmtA, fmtB := f.fmtB,
    lineA := p.lineA + e.2 * p.sizeA, lineB := p.lineB + e.2 * p.sizeB, mask := k.rowMask e.1, bubble := bubble,
    cells := if f.acc then (k.engine e.1).sumsOf f.bank else [] }

/-- A core whose engines have taken the passes of a form. -/
def PassForm.start (f : PassForm) (p : PassPlan) (pc t : Nat) (bubble : Bool) (k : Core) : Core :=
  (p.engs.zip (List.range p.engs.length)).foldl (fun k e => k.startPass e.1 (f.pass p pc t bubble k e)) k

/-- The engines of the mask take a pass each; the others, and everything else of the core, stay. -/
theorem PassForm.start_spec (f : PassForm) (pc t : Nat) (bubble : Bool) (j k : Core) :
    (∃ engines, f.start (f.plan j) pc t bubble k = { k with engines := engines }) ∧
    (∀ e, e ∉ engineList f.emask → (f.start (f.plan j) pc t bubble k).engine e = k.engine e) ∧
    (∀ e ∈ engineList f.emask, ∃ engines n, ((f.start (f.plan j) pc t bubble k).engine e).passes =
      (k.engine e).passes ++ [f.pass (f.plan j) pc t bubble { k with engines := engines } (e, n)]) := by
  have hfst := map_fst_zip_range (engineList f.emask)
  obtain ⟨hall, hother, htake⟩ := foldl_startPass (f.pass (f.plan j) pc t bubble)
    ((engineList f.emask).zip (List.range (engineList f.emask).length)) k (by rw [hfst]; exact engineList_nodup f.emask)
  refine ⟨hall, fun e he => hother e (by rwa [hfst]), fun e he => ?_⟩
  rw [← hfst] at he
  obtain ⟨⟨_, n⟩, hmem, rfl⟩ := List.mem_map.1 he
  obtain ⟨engines, h⟩ := htake _ hmem
  exact ⟨engines, n, h⟩

section
variable {s : State} {x : Issue} {f : PassForm} {t : Nat}

/-- An MPASS that meets no fault before the abort tick: its engines take their passes, and the telemetry counts. -/
theorem State.mpassAt_clear (ha : s.abortedAt t = false)
    (hf : mpassFault (s.core x.core) (f.plan (s.core x.core)) f.split f.bank f.rA f.rB t = none) : ∃ m n o,
    s.mpassAt x f.emask f.split f.bank f.acc f.fmtA f.fmtB f.rA f.rB f.kt t =
      (((s.setCore x.core (f.start (f.plan (s.core x.core)) (s.queue x).pc t false (s.core x.core))).tel 1 m).tel 2 n).tel 3 o := by
  have hnone : (if s.mutedAt t then none
      else mpassFault (s.core x.core) (f.plan (s.core x.core)) f.split f.bank f.rA f.rB t) = none := by
    rw [hf, ite_self]
  unfold State.mpassAt
  simp only [PassForm.plan] at hnone ⊢
  simp only [hnone, ha]
  exact ⟨_, _, _, rfl⟩

/-- An MPASS that meets a fault raises it, and its passes run as bubbles (R382). -/
theorem State.mpassAt_fault {cause unit detail : Nat} (hm : s.mutedAt t = false)
    (hf : mpassFault (s.core x.core) (f.plan (s.core x.core)) f.split f.bank f.rA f.rB t = some (cause, unit, detail)) :
    let u := s.instrFault x cause unit detail t
    ∃ m n o, s.mpassAt x f.emask f.split f.bank f.acc f.fmtA f.fmtB f.rA f.rB f.kt t =
      (((u.setCore x.core (f.start (f.plan (s.core x.core)) (u.queue x).pc t true (u.core x.core))).tel 1 m).tel 2 n).tel 3 o := by
  have hsome : (if s.mutedAt t then none
      else mpassFault (s.core x.core) (f.plan (s.core x.core)) f.split f.bank f.rA f.rB t) = some (cause, unit, detail) := by
    simp [hm, hf]
  unfold State.mpassAt
  simp only [PassForm.plan] at hsome ⊢
  simp only [hsome, Option.isSome_some, Bool.or_true]
  exact ⟨_, _, _, rfl⟩

end

end Sys2Proof.Machine
end

section
/-! The settling of O23. -/
namespace Sys2Proof.Machine
open Sys2Proof.Safety

theorem engineList_one : ∀ e < 4, engineList (BitVec.ofNat 4 (2 ^ e)) = [e] := by decide

theorem beyondLines_none {first n : Nat} (h : first + n ≤ 65536) : beyondLines first n = none := if_neg (by omega)

/-- Operands that start at line 0 and fit the scratchpad meet no address check (R88). -/
theorem passAddress_none {k : Core} {rA rB : RegSpec} {p : PassPlan} (hA : (k.reg rA).toNat = 0) (hB : (k.reg rB).toNat = 0)
    (hpA : p.lineA = (k.reg rA).toNat) (hpB : p.lineB = (k.reg rB).toNat) (hsA : p.engs.length * p.sizeA ≤ 65536)
    (hsB : p.engs.length * p.sizeB ≤ 65536) : firstSome [lineFault (k.reg rA), lineFault (k.reg rB),
      beyondLines p.lineA (p.engs.length * p.sizeA), beyondLines p.lineB (p.engs.length * p.sizeB)] = none := by
  rw [beyondLines_none (by omega), beyondLines_none (by omega)]
  simp [firstSome, lineFault, hA, hB]

/-- An MPASS on an idle input whose bank has a pass that ends later is a BARRIER_STALL of its engine (R382, R384). -/
theorem mpassFault_bank {k : Core} {p : PassPlan} {split bank : Bool} {rA rB : RegSpec} {t e : Nat} {q : Pass}
    (haddr : firstSome [lineFault (k.reg rA), lineFault (k.reg rB), beyondLines p.lineA (p.engs.length * p.sizeA),
      beyondLines p.lineB (p.engs.length * p.sizeB)] = none)
    (he : p.engs = [e]) (hin : (k.engine e).inputUntil ≤ t) (hq : q ∈ (k.engine e).passes) (hb : q.bank = bank)
    (hd : t + passLat split < q.doneAt) : mpassFault k p split bank rA rB t = some (0x02, e, 2 ^ 31 + 0x06) := by
  have hidle : p.engs.find? (fun e => decide ((k.engine e).inputUntil > t)) = none := by simp [he, hin]
  have hearlier : (k.engine e).passes.any (fun q => decide (q.bank = bank) && decide (t + passLat split < q.doneAt)) = true :=
    List.any_eq_true.2 ⟨q, hq, by simp [hb, hd]⟩
  have hbusy : p.engs.find? (fun e => (k.engine e).passes.any fun q => decide (q.bank = bank) && decide (t + passLat split < q.doneAt)) =
      some e := by
    rw [he]
    exact List.find?_cons_of_pos hearlier
  unfold mpassFault
  simp only [haddr, hidle, hbusy]

/-- The pass of an MPASS that would complete out of its bank's order is a bubble, and its BARRIER_STALL starts abort mode. -/
theorem State.mpassAt_bank {s : State} {x : Issue} {e : Nat} {split bank acc : Bool} {fmtA fmtB : Nat} {rA rB : RegSpec} {kt t : Nat} {q : Pass}
    (he : e < 4) (hph : s.frame.phase = .inFrame) (hm : s.mutedAt t = false) (hat : s.frame.abortTick = none) (hfirst : s.frame.first = none)
    (hA : ((s.core x.core).reg rA).toNat = 0) (hB : ((s.core x.core).reg rB).toNat = 0) (hkt : kt ≠ 0)
    (hsA : engineLines fmtA split (passK kt (pairRate4 fmtA fmtB)) ≤ 65536) (hsB : engineLines fmtB split (passK kt (pairRate4 fmtA fmtB)) ≤ 65536)
    (hin : ((s.core x.core).engine e).inputUntil ≤ t) (hq : q ∈ ((s.core x.core).engine e).passes) (hb : q.bank = bank)
    (hd : t + passLat split < q.doneAt) :
    let u := s.mpassAt x (BitVec.ofNat 4 (2 ^ e)) split bank acc fmtA fmtB rA rB kt t
    u.frame.first.map (fun f => (f.cause, f.unit, f.detail)) = some (0x02, e, 0x80000006) ∧ u.frame.abortTick = some t ∧
      ∃ p : Pass, ((u.core x.core).engine e).passes = ((s.core x.core).engine e).passes ++ [p] ∧ p.bubble = true := by
  intro u
  let f : PassForm := ⟨BitVec.ofNat 4 (2 ^ e), split, bank, acc, fmtA, fmtB, rA, rB, kt⟩
  have hstall : causeFailSafe 0x02 = false := rfl
  have hplan : (f.plan (s.core x.core)).engs = [e] := engineList_one e he
  have hlen : orFull kt 16384 = kt := if_neg hkt
  have hsizeA : (f.plan (s.core x.core)).sizeA ≤ 65536 := by simpa only [PassForm.plan, passPlan, f, hlen] using hsA
  have hsizeB : (f.plan (s.core x.core)).sizeB ≤ 65536 := by simpa only [PassForm.plan, passPlan, f, hlen] using hsB
  have hfault : mpassFault (s.core x.core) (f.plan (s.core x.core)) split bank rA rB t = some (0x02, e, 2 ^ 31 + 0x06) :=
    mpassFault_bank (passAddress_none hA hB rfl rfl (by simpa [hplan] using hsizeA) (by simpa [hplan] using hsizeB)) hplan hin hq hb hd
  obtain ⟨m, n, o, hpass⟩ := State.mpassAt_fault (f := f) hm hfault
  have hu : u = _ := hpass
  have hcore := State.instrFault_core hstall hph hm (x := x) (unit := e) (detail := 2 ^ 31 + 0x06) x.core
  have hrecord := State.instrFault_first hstall hph hm (x := x) (unit := e) (detail := 2 ^ 31 + 0x06) hfirst
  have habort := State.instrFault_abortTick hstall hph hm (x := x) (unit := e) (detail := 2 ^ 31 + 0x06) hat
  generalize s.instrFault x 0x02 e (2 ^ 31 + 0x06) t = v at hu hcore hrecord habort
  obtain ⟨-, -, htake⟩ := f.start_spec (v.queue x).pc t true (s.core x.core) (s.core x.core)
  have hmem : e ∈ (f.plan (s.core x.core)).engs := hplan ▸ List.mem_singleton_self e
  obtain ⟨engines, n', htaken⟩ := htake e hmem
  rw [hu, State.tel_frame, State.tel_frame, State.tel_frame]
  refine ⟨hrecord, habort, f.pass (f.plan (s.core x.core)) (v.queue x).pc t true { s.core x.core with engines := engines } (e, n'), ?_, rfl⟩
  simpa only [State.tel_core, State.core_setCore_same, hcore] using htaken

/-- Settles O23: the passes that the engines of the mask take, and the fault of one that would complete out of order. -/
theorem matrixPassStartsInOrder : Obligations.MatrixPassStartsInOrder := by
  refine ⟨fun s x emask split bank acc fmtA fmtB rA rB kt hc hp hi ha hf => ?_,
    fun s x e split bank acc fmtA fmtB rA rB kt q hc hp hi he hph hnow hat hst hfirst hA hB hkt hsA hsB hin hq hb hd => ?_⟩
  · let f : PassForm := ⟨emask, split, bank, acc, fmtA, fmtB, rA, rB, kt⟩
    refine ⟨_, onCore_planOnly hc hp hi _ _, ?_⟩
    obtain ⟨m, n, o, hpass⟩ := State.mpassAt_clear (f := f) ha hf
    obtain ⟨⟨engines, hall⟩, hother, htake⟩ := f.start_spec ((atIssue s x).queue x).pc (s.issueTick x) false
      ((atIssue s x).core x.core) ((atIssue s x).core x.core)
    rw [hpass]
    refine ⟨fun e he hbit => ?_, fun e he hbit => ?_, ?_, ?_, fun d hd => ?_, by simp, by simp⟩
    · obtain ⟨engines', n', htaken⟩ := htake e (mem_engineList.2 ⟨he, hbit⟩)
      refine ⟨_, by simpa only [issuedAs_engine, State.tel_core, State.core_setCore_same] using htaken, rfl, rfl, rfl, rfl, rfl, rfl, rfl, rfl, rfl,
        fun hacc => ?_, rfl⟩
      simp [PassForm.pass, f, hacc]
    · have hnot : e ∉ engineList emask := fun hmem => absurd (mem_engineList.1 hmem).2 (by simp [hbit])
      simpa only [issuedAs_engine, State.tel_core, State.core_setCore_same] using hother e hnot
    · simp [hall]
    · simp [hall]
    · simp [issuedAs_core_ne, State.core_setCore_ne, hd]
  · obtain ⟨hrecord, habort, p, htaken, hbubble⟩ := State.mpassAt_bank (s := s.tel 0 1) (x := x) (acc := acc) (t := s.issueTick x) (q := q) he
      (by simpa using hph) (by simp [State.mutedAt_clear hst hat]) (by simpa using hat) (by simpa using hfirst) (by simpa using hA)
      (by simpa using hB) hkt hsA hsB (by simpa [hnow] using hin) (by simpa using hq) hb hd
    refine ⟨_, onCore_planOnly hc hp hi _ _, ?_⟩
    rw [atIssue_now hnow, issuedAs_frame, issuedAs_engine]
    exact ⟨hrecord, habort.trans (congrArg some hnow), p, by simpa using htaken, hbubble⟩

end Sys2Proof.Machine
end

section
/-! Completions (R109, R130). -/
namespace Sys2Proof.Machine
open Sys2Proof.Safety

/-! ### The frame's tick -/

theorem State.doTick_now (s : State) : s.doTick.frame.now = s.frame.now + 1 := rfl

theorem State.runTicks_now (s : State) (n : Nat) : (s.runTicks n).frame.now = s.frame.now + n := by
  induction n generalizing s with
  | zero => rfl
  | succ n ih =>
    unfold State.runTicks
    split
    · rfl
    · rw [ih, s.doTick_now]
      omega

/-- The frame goes on to a tick that is ahead of it. -/
theorem State.advance_now (s : State) (t : Nat) : (s.advance t).frame.now = Nat.max s.frame.now t := by
  show (s.runTicks _).frame.now = max _ _
  rw [s.runTicks_now]
  omega

/-! ### What the work of a tick leaves in an engine -/

/-- An engine at a pass's completion: the bank takes its sums. -/
def Engine.takeSums (dead : Bool) (x : Engine) (p : Pass) : Engine :=
  if p.bubble ∨ dead then x
  else
    let cells := if p.cells.isEmpty then List.replicate 1024 0 else p.cells
    if p.bank then { x with bank1 := cells } else { x with bank0 := cells }

/-- An engine at a run's completion: a reduction leaves its result. -/
def Engine.takeResult (dead : Bool) (x : Engine) (v : VRun) : Engine :=
  if v.bubble ∨ dead ∨ v.rmode = 0 then x else { x with resVal := v.lastVal, resIdx := v.lastIdx }

theorem Engine.takeSums_keeps (dead : Bool) (l : List Pass) (x : Engine) :
    ∃ a b, l.foldl (Engine.takeSums dead) x = { x with bank0 := a, bank1 := b } := by
  induction l generalizing x with
  | nil => exact ⟨_, _, rfl⟩
  | cons p l ih =>
    have hp : ∃ a b, x.takeSums dead p = { x with bank0 := a, bank1 := b } := by
      unfold Engine.takeSums
      dsimp only
      split
      · exact ⟨x.bank0, x.bank1, rfl⟩
      · split <;> exact ⟨_, _, rfl⟩
    obtain ⟨_, _, hp⟩ := hp
    obtain ⟨a, b, h⟩ := ih (x.takeSums dead p)
    exact ⟨a, b, by rw [List.foldl_cons, h, hp]⟩

theorem Engine.takeResult_keeps (dead : Bool) (l : List VRun) (x : Engine) :
    ∃ a b, l.foldl (Engine.takeResult dead) x = { x with resVal := a, resIdx := b } := by
  induction l generalizing x with
  | nil => exact ⟨_, _, rfl⟩
  | cons v l ih =>
    have hv : ∃ a b, x.takeResult dead v = { x with resVal := a, resIdx := b } := by
      unfold Engine.takeResult
      split <;> exact ⟨_, _, rfl⟩
    obtain ⟨_, _, hv⟩ := hv
    obtain ⟨a, b, h⟩ := ih (x.takeResult dead v)
    exact ⟨a, b, by rw [List.foldl_cons, h, hv]⟩

/-- An engine at a tick: its complete passes and then its complete runs leave what they leave, and go. -/
theorem Engine.settle_eq (x : Engine) (t : Nat) (dead : Bool) : x.settle t dead =
    { (x.vruns.filter fun v => decide (v.doneAt ≤ t)).foldl (Engine.takeResult dead)
        ((x.passes.filter fun p => decide (p.doneAt ≤ t)).foldl (Engine.takeSums dead) x) with
      passes := x.passes.filter fun p => decide (t < p.doneAt)
      vruns := x.vruns.filter fun v => decide (t < v.doneAt) } := by
  obtain ⟨_, _, hy⟩ := Engine.takeSums_keeps dead (x.passes.filter fun p => decide (p.doneAt ≤ t)) x
  generalize hy' : (x.passes.filter fun p => decide (p.doneAt ≤ t)).foldl (Engine.takeSums dead) x = y at hy
  have hruns : y.vruns = x.vruns := by rw [hy]
  have hpasses : y.passes = x.passes := by rw [hy]
  obtain ⟨_, _, hz⟩ := Engine.takeResult_keeps dead (x.vruns.filter fun v => decide (v.doneAt ≤ t)) y
  generalize hz' : (x.vruns.filter fun v => decide (v.doneAt ≤ t)).foldl (Engine.takeResult dead) y = z at hz
  have hpasses' : z.passes = x.passes := by rw [hz]; exact hpasses
  have hruns' : z.vruns = x.vruns := by rw [hz]; exact hruns
  rw [← hruns] at hz'
  rw [← hpasses', ← hruns', ← hz', ← hy']
  rfl

section
variable {x : Engine} {t : Nat}

/-- The runs leave the banks as the passes left them. -/
theorem Engine.settle_banks (dead : Bool) :
    let y := (x.passes.filter fun p => decide (p.doneAt ≤ t)).foldl (Engine.takeSums dead) x
    (x.settle t dead).bank0 = y.bank0 ∧ (x.settle t dead).bank1 = y.bank1 := by
  intro y
  obtain ⟨_, _, hz⟩ := Engine.takeResult_keeps dead (x.vruns.filter fun v => decide (v.doneAt ≤ t)) y
  rw [x.settle_eq, hz]
  exact ⟨rfl, rfl⟩

theorem Engine.settle_passes (dead : Bool) : (x.settle t dead).passes = x.passes.filter fun p => decide (t < p.doneAt) := by rw [x.settle_eq]

/-- A pass that is complete and no bubble leaves its sums in its bank (R109). -/
theorem Engine.settle_pass {p : Pass} (hx : x.passes = [p]) (hb : p.bubble = false) (hc : p.cells ≠ []) (hd : p.doneAt ≤ t) :
    (x.settle t false).bank0 = (if p.bank then x.bank0 else p.cells) ∧ (x.settle t false).bank1 = (if p.bank then p.cells else x.bank1) := by
  have hdone : (x.passes.filter fun p => decide (p.doneAt ≤ t)) = [p] := by simp [hx, hd]
  obtain ⟨h0, h1⟩ := Engine.settle_banks (x := x) (t := t) false
  rw [hdone] at h0 h1
  rw [h0, h1]
  cases hbank : p.bank <;> simp [Engine.takeSums, hb, hc, hbank]

/-- One run: its reduction's result, if it is complete, no bubble and has one; the latest one otherwise (R130). -/
theorem Engine.settle_run {v : VRun} (hx : x.vruns = [v]) :
    (x.settle t false).resVal = (if v.doneAt ≤ t ∧ v.bubble = false ∧ v.rmode ≠ 0 then v.lastVal else x.resVal) ∧
    (x.settle t false).resIdx = (if v.doneAt ≤ t ∧ v.bubble = false ∧ v.rmode ≠ 0 then v.lastIdx else x.resIdx) := by
  obtain ⟨_, _, hy⟩ := Engine.takeSums_keeps false (x.passes.filter fun p => decide (p.doneAt ≤ t)) x
  rw [x.settle_eq, hy, hx]
  by_cases hd : v.doneAt ≤ t
  · cases hb : v.bubble <;> by_cases hr : v.rmode = 0 <;> simp [hd, Engine.takeResult, hb, hr]
  · simp [hd]

end

theorem execPassCompletion_of {s : State} {c e : Nat} {bank : Bool} {p : Pass} (hc : c < 256) (he : e < 4)
    (hph : s.frame.phase = .inFrame) (hp : ((s.core c).engine e).passes.find? (fun p => decide (p.bank = bank)) = some p) :
    exec (.passCompletion c e bank) s = .next (s.advance p.doneAt) := by
  show execPassCompletion c e bank s = _
  unfold execPassCompletion onEngine
  rw [onUnit_of (by simp [hc, he]), hp]
  simp [hph]

theorem execVrunCompletion_of {s : State} {c e : Nat} {v : VRun} (hc : c < 256) (he : e < 4)
    (hph : s.frame.phase = .inFrame) (hv : ((s.core c).engine e).vruns.head? = some v) :
    exec (.vrunCompletion c e) s = .next (s.advance v.doneAt) := by
  show execVrunCompletion c e s = _
  unfold execVrunCompletion onEngine
  rw [onUnit_of (by simp [hc, he]), hv]
  simp [hph]

/-- Settles O24: the completions go on to the tick of their work, where a pass leaves its sums and a reduction its result. -/
theorem completionsLeaveResults : Obligations.CompletionsLeaveResults := by
  refine ⟨fun s c e bank p hc he hph hp => ⟨_, execPassCompletion_of hc he hph hp, rfl, s.advance_now _⟩,
    fun s c e v hc he hph hv => ⟨_, execVrunCompletion_of hc he hph hv, rfl, s.advance_now _⟩,
    fun x p t hx hb hc hd => ?_, fun x p t hx hd => ?_, fun x v t hx hb hr hd => ?_, fun x v t hx hv => ?_⟩
  · obtain ⟨h0, h1⟩ := Engine.settle_pass hx hb hc hd
    refine ⟨?_, fun hbank => ?_, fun hbank => ?_⟩
    · simp [Engine.settle_passes, hx, hd]
    · simp [h0, h1, hbank]
    · simp [h0, h1, hbank]
  · have hnone : (x.passes.filter fun p => decide (p.doneAt ≤ t)) = [] := by simp [hx, hd]
    obtain ⟨h0, h1⟩ := Engine.settle_banks (x := x) (t := t) false
    rw [hnone] at h0 h1
    exact ⟨by simp [Engine.settle_passes, hx, hd], h0, h1⟩
  · simpa [hd, hb, hr] using Engine.settle_run (t := t) hx
  · have hno : ¬ (v.doneAt ≤ t ∧ v.bubble = false ∧ v.rmode ≠ 0) := by
      rintro ⟨-, hb, hr⟩
      rcases hv with h | h
      · exact hr h
      · simp [hb] at h
    simpa only [if_neg hno] using Engine.settle_run (t := t) hx

end Sys2Proof.Machine
end

section
/-! Vector runs (R95, R96). -/
namespace Sys2Proof.Machine
open Sys2Proof.Safety

/-- What a VRUN of one engine asks of a core (R95). -/
def oneRun (k : Core) (e slot src : Nat) (rSrc rDst rRed : RegSpec) (len rmode : Nat) : RunPlan :=
  { engs := [e], word := Assoc.get identityWord k.cslots slot, src := src, rSrc := k.reg rSrc, rDst := k.outReg rDst,
    rRed := k.outReg rRed, len := orFull len 2048, lenField := len, rmode := rmode }

section
variable {s : State} {x : Issue} {e slot src : Nat} {rSrc rDst rRed : RegSpec} {len rmode t : Nat}

/-- A VRUN of one engine that meets no fault before the abort tick: the engine takes its run, and the telemetry counts. -/
theorem State.vrunAt_clear (he : e < 4) (ha : s.abortedAt t = false)
    (hf : (oneRun (s.core x.core) e slot src rSrc rDst rRed len rmode).fault (s.core x.core) t = none) :
    ∃ n, s.vrunAt x (BitVec.ofNat 4 (2 ^ e)) slot src rSrc rDst rRed len rmode t =
      (s.setCore x.core ((s.core x.core).startRun e slot
        { (oneRun (s.core x.core) e slot src rSrc rDst rRed len rmode).run (s.core x.core) e 0 t false with pc := (s.queue x).pc })).tel 4 n := by
  have hnone : (if s.mutedAt t then none
      else (oneRun (s.core x.core) e slot src rSrc rDst rRed len rmode).fault (s.core x.core) t) = none := by
    rw [hf, ite_self]
  unfold State.vrunAt
  simp only [oneRun] at hnone ⊢
  simp only [engineList_one e he, hnone, ha]
  exact ⟨_, rfl⟩

/-- A REDS of an idle chain copies the result that the engine holds (R96). -/
theorem State.redsAt_idle {which : Bool} {sd : RegSpec} (hm : s.mutedAt t = false)
    (hidle : ((s.core x.core).engine e).vBusyUntil ≤ t) : s.redsAt x sd e which t = s.pushReg x t sd
      (BitVec.ofNat 64 (if which then ((s.core x.core).engine e).resIdx else ((s.core x.core).engine e).resVal)) := by
  simp [State.redsAt, hm, Nat.not_lt.2 hidle]

/-- A REDS of a busy chain is a BARRIER_STALL of its engine (R96). -/
theorem State.redsAt_busy {which : Bool} {sd : RegSpec} (hm : s.mutedAt t = false)
    (hbusy : t < ((s.core x.core).engine e).vBusyUntil) : s.redsAt x sd e which t = s.instrFault x 0x02 e (2 ^ 31 + 0x02) t := by
  simp [State.redsAt, hm, hbusy]

end

/-- A core whose engine has taken a run: its other engines, and everything else, stay. -/
theorem Core.startRun_eq (k : Core) (e slot : Nat) (v : VRun) :
    ∃ y : Engine, y.vruns = (k.engine e).vruns ++ [v] ∧ k.startRun e slot v = k.setEngine e y := ⟨_, rfl, rfl⟩

/-- Settles O26: a VRUN's run, and a REDS of an idle and of a busy chain. -/
theorem vectorRunsStart : Obligations.VectorRunsStart := by
  refine ⟨fun s x e slot src rSrc rDst rRed len rmode hc hp hi he hm ha hf => ?_,
    fun s x sd e which hc hp hi hsd hm hidle => ?_, fun s x sd e which hc hp hi hnow hat hst hfirst hbusy => ?_⟩
  · refine ⟨_, onCore_planOnly hc hp hi _ _, ?_⟩
    obtain ⟨n, hrun⟩ := State.vrunAt_clear (s := atIssue s x) he ha hf
    let v : VRun := { (oneRun ((atIssue s x).core x.core) e slot src rSrc rDst rRed len rmode).run ((atIssue s x).core x.core) e 0
      (s.issueTick x) false with pc := ((atIssue s x).queue x).pc }
    obtain ⟨y, htaken, hstart⟩ := ((atIssue s x).core x.core).startRun_eq e slot v
    rw [hrun, hstart]
    refine ⟨⟨v, ?_, rfl, rfl, rfl, rfl, rfl⟩, fun d hd hne => ?_, ?_, ?_, by simp, by simp⟩
    · simpa only [issuedAs_engine, State.tel_core, State.core_setCore_same, Core.engine_setEngine_same] using htaken
    · simpa only [issuedAs_engine, State.tel_core, State.core_setCore_same] using Core.engine_setEngine_ne _ e y hne
    · simp [Core.setEngine]
    · simp [Core.setEngine]
  · refine ⟨_, onCore_planOnly hc hp hi _ _, ?_⟩
    rw [State.redsAt_idle hm hidle]
    simp [State.pushReg_core, hsd]
  · refine ⟨_, onCore_planOnly hc hp hi _ _, ?_⟩
    have hphase : (s.tel 0 1).frame.phase = .inFrame := by simp [State.canIssue_inFrame hi]
    have hmuted : (s.tel 0 1).mutedAt (s.issueTick x) = false := by simp [State.mutedAt_clear hst hat]
    have hstall : causeFailSafe 0x02 = false := rfl
    rw [atIssue_now hnow, State.redsAt_busy hmuted (by simpa [hnow] using hbusy)]
    refine ⟨?_, ?_⟩
    · rw [issuedAs_frame]
      exact State.instrFault_first hstall hphase hmuted (by rwa [State.tel_frame])
    · rw [issuedAs_core]
      simp [State.instrFault_core hstall hphase hmuted]

end Sys2Proof.Machine
end

section
/-! A descriptor that a channel takes (R171 to R173, R175). -/
namespace Sys2Proof.Machine
open Sys2Proof.Safety

/-! ### Channels -/

@[simp] theorem Core.channel_setChannel_same (k : Core) (ch : Nat) (d : DmaCh) : (k.setChannel ch d).channel ch = d := by
  simp [Core.channel, Core.setChannel]

theorem Core.channel_setChannel_ne (k : Core) (ch : Nat) (d : DmaCh) {c : Nat} (h : c ≠ ch) : (k.setChannel ch d).channel c = k.channel c := by
  simp [Core.channel, Core.setChannel, Assoc.get_put_ne _ _ _ _ _ _ h]

@[simp] theorem issuedAs_channel (s : State) (x : Issue) (q : QueueSt) (t ch : Nat) :
    ((issuedAs s x q t).core x.core).channel ch = (s.core x.core).channel ch := by simp [Core.channel]

/-- The first key of a channel that is idle holds its next work (R171). -/
theorem Core.freeKey_idle {k : Core} {ch t : Nat} (h : k.keyBusy ch t = false) : k.freeKey ch t = ch := by
  simp [Core.freeKey, List.range_succ_eq_map, h]

/-! ### A channel starts -/

/-- The work that a descriptor gives a channel. -/
def State.dmaWork (s : State) (x : Issue) (ch done : Nat) (a b : DmaSide) (bubble : Bool) (t : Nat) : DmaCh :=
  { src := a, dst := b, prio := a.prio, bubble := bubble, pc := (s.queue x).pc, issued := t, total := a.size / pieceSize a b,
    next := if a.remote then a.size / pieceSize a b else 0, size := pieceSize a b, done := done,
    lastLand := ((s.core x.core).channel ch).lastLand, kept := ((s.core x.core).channel ch).kept }

section
variable {s : State} {x : Issue} {ch done : Nat} {a b : DmaSide} {bubble : Bool} {t : Nat}

/-- A core whose channel has taken its work. -/
def State.dmaCore (s : State) (x : Issue) (ch done : Nat) (a b : DmaSide) (bubble : Bool) (t : Nat) : Core :=
  (s.core x.core).setChannel ((s.core x.core).freeKey ch t) (s.dmaWork x ch done a b bubble t)

/-- What a descriptor's read adds to a core is the read alone. -/
theorem State.dmaWork_access (acc : BankAccess) : (s.access x.core acc).dmaWork x ch done a b bubble t = s.dmaWork x ch done a b bubble t := by
  simp [State.dmaWork, Core.channel]

theorem State.dmaCore_access (acc : BankAccess) (hk : (s.core x.core).keyBusy ch t = false) : (s.access x.core acc).dmaCore x ch done a b bubble t =
    { (s.core x.core).setChannel ch (s.dmaWork x ch done a b bubble t) with accesses := (s.core x.core).accesses ++ [acc] } := by
  have hkey : ({ s.core x.core with accesses := (s.core x.core).accesses ++ [acc] } : Core).keyBusy ch t = false := hk
  rw [State.dmaCore, s.dmaWork_access, State.access_core, Core.freeKey_idle hkey]
  rfl

theorem State.startDma_eq : s.startDma x ch done a b bubble t =
    if a.remote && (channelRoute s.activeImage x.core ch).isSome then
      (s.setCore x.core (s.dmaCore x ch done a b bubble t)).remoteRequest x.core ((s.core x.core).freeKey ch t) t (s.dmaWork x ch done a b bubble t)
    else if a.remote then
      (s.setCore x.core (s.dmaCore x ch done a b bubble t)).setCore x.core ((s.core x.core).setChannel ((s.core x.core).freeKey ch t)
        { s.dmaWork x ch done a b bubble t with total := 0, next := 0 })
    else s.setCore x.core (s.dmaCore x ch done a b bubble t) := rfl

theorem State.startDma_near (ha : a.remote = false) :
    s.startDma x ch done a b bubble t = s.setCore x.core (s.dmaCore x ch done a b bubble t) := by
  simp [State.startDma_eq, ha]

/-- A remote source asks for its bytes in the next slot of its request route, beside the sends of instructions (R175, log 15). -/
theorem State.remoteRequest_of {u : State} {c r : Nat} {d : DmaCh} (hr : channelRoute u.activeImage c (ch % 16) = some r) :
    ∃ y : SendSt, u.remoteRequest c ch t d =
        u.setCore c { u.core c with sends := Assoc.put none (u.core c).sends (r + 4096 * (1 + ch % 16)) (some y) } ∧
      y.count = 1 ∧ y.fixed.isSome = true ∧ y.hold = d.bubble ∧ y.slot = nextSlot (u.route r).posMask (u.frame.start + t + 8) := by
  unfold State.remoteRequest
  rw [hr]
  exact ⟨_, rfl, rfl, rfl, rfl, rfl⟩

/-- A request changes nothing of its core but its sends. -/
theorem State.remoteRequest_core (u : State) (c : Nat) (d : DmaCh) :
    ∃ sends, (u.remoteRequest c ch t d).core c = { u.core c with sends := sends } := by
  cases hr : channelRoute u.activeImage c (ch % 16) with
  | none => exact ⟨(u.core c).sends, by rw [State.remoteRequest, hr]⟩
  | some r =>
    obtain ⟨y, hy, -⟩ := State.remoteRequest_of (t := t) (d := d) hr
    exact ⟨_, by rw [hy, State.core_setCore_same]⟩

theorem State.remoteRequest_frame (u : State) (c : Nat) (d : DmaCh) : (u.remoteRequest c ch t d).frame = u.frame := by
  unfold State.remoteRequest
  split <;> rfl

theorem State.startDma_frame : (s.startDma x ch done a b bubble t).frame = s.frame := by
  rw [State.startDma_eq]
  split
  · rw [State.remoteRequest_frame]
    rfl
  · split <;> rfl

theorem State.startDma_remote {r : Nat} (ha : a.remote = true) (hr : channelRoute s.activeImage x.core ch = some r) (h16 : ch < 16)
    (hk : (s.core x.core).keyBusy ch t = false) : ∃ (u : State) (y : SendSt), s.startDma x ch done a b bubble t = u.setCore x.core
        { s.dmaCore x ch done a b bubble t with sends := Assoc.put none (s.core x.core).sends (r + 4096 * (1 + ch)) (some y) } ∧
      u.mem = s.mem ∧ u.regs = s.regs ∧ y.count = 1 ∧ y.fixed.isSome = true ∧ y.hold = bubble ∧
      y.slot = nextSlot (s.route r).posMask (s.frame.start + t + 8) := by
  have hmod : ch % 16 = ch := Nat.mod_eq_of_lt h16
  obtain ⟨y, hreq, hcount, hfixed, hhold, hslot⟩ := State.remoteRequest_of (u := s.setCore x.core (s.dmaCore x ch done a b bubble t)) (t := t)
    (c := x.core) (ch := ch) (d := s.dmaWork x ch done a b bubble t) (r := r) (by rw [hmod]; exact hr)
  rw [hmod, State.core_setCore_same] at hreq
  refine ⟨s.setCore x.core (s.dmaCore x ch done a b bubble t), y, ?_, rfl, rfl, hcount, hfixed, hhold, hslot⟩
  rw [State.startDma_eq, ha, hr, Core.freeKey_idle hk, if_pos rfl]
  exact hreq

/-- Whichever way a channel starts, its work is a bubble as asked, and no effect is due. -/
theorem State.startDma_core : (((s.startDma x ch done a b bubble t).core x.core).channel ((s.core x.core).freeKey ch t)).bubble = bubble ∧
    ((s.startDma x ch done a b bubble t).core x.core).agenda = (s.core x.core).agenda := by
  rw [State.startDma_eq]
  split
  · obtain ⟨sends, hcore⟩ := (s.setCore x.core (s.dmaCore x ch done a b bubble t)).remoteRequest_core (ch := (s.core x.core).freeKey ch t)
      (t := t) x.core (s.dmaWork x ch done a b bubble t)
    rw [hcore, State.core_setCore_same]
    exact ⟨congrArg DmaCh.bubble (Core.channel_setChannel_same _ _ _), rfl⟩
  · split <;> simp only [State.core_setCore_same]
    · exact ⟨congrArg DmaCh.bubble (Core.channel_setChannel_same _ _ _), rfl⟩
    · exact ⟨congrArg DmaCh.bubble (Core.channel_setChannel_same _ _ _), rfl⟩

/-! ### DMA at its issue tick -/

/-- The bank access that reads a descriptor. -/
def descriptorRead (x : Issue) (ch desc t : Nat) : BankAccess :=
  { cls := 3, issued := t, unit := dmaUnit x.core ch, kind := 0, line := desc / 2 }

/-- The sides that a descriptor of a core's scratchpad names (R171). -/
def descSides (k : Core) (desc : Nat) : DmaSide × DmaSide :=
  (k.sideOf (leAt (spadBytes k (32 * desc) 32) 0 8) (leAt (spadBytes k (32 * desc) 32) 8 8),
    k.sideOf (leAt (spadBytes k (32 * desc) 32) 16 8) (leAt (spadBytes k (32 * desc) 32) 24 8))

variable {desc : Nat}

/-- A DMA whose descriptor passes its checks starts its idle channel. -/
theorem State.dmaAt_clear (hs : descSides (s.core x.core) desc = (a, b)) (hm : s.mutedAt t = false)
    (hbad : spadBad (s.core x.core) (32 * desc) 32 = false) (hf : s.dmaFault x.core ch a b = none)
    (hb : (s.core x.core).channelBusy ch t = false) :
    s.dmaAt x ch done desc t = (s.access x.core (descriptorRead x ch desc t)).startDma x ch done a b false t := by
  obtain ⟨rfl, rfl⟩ := Prod.mk.inj hs
  have hf' : (s.access x.core (descriptorRead x ch desc t)).dmaFault x.core ch _ _ = none := hf
  have hm' : (s.access x.core (descriptorRead x ch desc t)).mutedAt t = false := hm
  unfold State.dmaAt
  simp only [descriptorRead] at hf' hm' ⊢
  simp only [hm', hbad, hf', hb, Bool.false_eq_true, if_false, Option.isSome_none, Bool.or_self]

/-- A DMA whose descriptor meets a check raises its fault, and its work runs as a bubble (R382). -/
theorem State.dmaAt_fault {cause detail : Nat} (hs : descSides (s.core x.core) desc = (a, b)) (hm : s.mutedAt t = false)
    (hbad : spadBad (s.core x.core) (32 * desc) 32 = false) (hf : s.dmaFault x.core ch a b = some (cause, detail)) :
    s.dmaAt x ch done desc t =
      ((s.access x.core (descriptorRead x ch desc t)).instrFault x cause ch detail t).startDma x ch done a b true t := by
  obtain ⟨rfl, rfl⟩ := Prod.mk.inj hs
  have hf' : (s.access x.core (descriptorRead x ch desc t)).dmaFault x.core ch _ _ = some (cause, detail) := hf
  have hm' : (s.access x.core (descriptorRead x ch desc t)).mutedAt t = false := hm
  unfold State.dmaAt
  simp only [descriptorRead] at hf' hm' ⊢
  simp only [hm', hbad, hf', Bool.false_eq_true, if_false, Option.isSome_some, Bool.or_true]

/-- Sides of unequal size meet check 2 (R172). -/
theorem State.dmaFault_sizes (c : Nat) (har : a.rsv = 0) (hbr : b.rsv = 0) (hbp : b.prio = 0) (has : a.space ≠ 3) (hbs : b.space ≠ 3)
    (hax : a.xlate = false) (hbx : b.xlate = false) (hsize : a.len * a.count ≠ b.len * b.count) :
    s.dmaFault c ch a b = some (0x10, 2 * 2 ^ 28 + a.base % 2 ^ 28) := by
  have hsides : s.sidesFault a b = some (2, a.base) := by
    simp [State.sidesFault, DmaSide.size, har, hbr, hbp, has, hbs, hax, hbx, hsize]
  simp [State.dmaFault, hsides]

/-! ### What a DMA leaves of its core -/

section
variable (hs : descSides (s.core x.core) desc = (a, b)) (hm : s.mutedAt t = false)
  (hbad : spadBad (s.core x.core) (32 * desc) 32 = false)
include hs hm hbad

/-- A near source makes its idle channel ready, and the other channels stay (R171, R173). -/
theorem State.dmaAt_near (hf : s.dmaFault x.core ch a b = none) (hb : (s.core x.core).channelBusy ch t = false)
    (hk : (s.core x.core).keyBusy ch t = false) (ha : a.remote = false) : ∃ (u : State) (k : Core),
      s.dmaAt x ch done desc t = u.setCore x.core k ∧ u.mem = s.mem ∧ u.regs = s.regs ∧
      (∀ c, k.channel c = ((s.core x.core).setChannel ch (s.dmaWork x ch done a b false t)).channel c) ∧
      k.queues = (s.core x.core).queues ∧ k.spad = (s.core x.core).spad ∧ k.sregs = (s.core x.core).sregs := by
  have hdma := (State.dmaAt_clear (done := done) hs hm hbad hf hb).trans (State.startDma_near ha)
  rw [State.dmaCore_access _ hk] at hdma
  exact ⟨_, _, hdma, rfl, rfl, fun _ => rfl, rfl, rfl, rfl⟩

/-- A remote source asks for its bytes in the next slot of its request route (R175). -/
theorem State.dmaAt_remote {r : Nat} (hf : s.dmaFault x.core ch a b = none) (hb : (s.core x.core).channelBusy ch t = false)
    (hk : (s.core x.core).keyBusy ch t = false) (h16 : ch < 16) (ha : a.remote = true)
    (hr : channelRoute s.activeImage x.core ch = some r) : ∃ (u : State) (k : Core) (y : SendSt),
      s.dmaAt x ch done desc t = u.setCore x.core k ∧ u.mem = s.mem ∧ u.regs = s.regs ∧
      k.channel ch = s.dmaWork x ch done a b false t ∧ k.sending (r + 4096 * (1 + ch)) = some y ∧
      y.count = 1 ∧ y.fixed.isSome = true ∧ y.hold = false ∧ y.slot = nextSlot (s.route r).posMask (s.frame.start + t + 8) := by
  have hk' : ((s.access x.core (descriptorRead x ch desc t)).core x.core).keyBusy ch t = false := by
    rw [State.access_core]
    exact hk
  obtain ⟨u, y, hstart, hmem, hregs, hrequest⟩ := State.startDma_remote (s := s.access x.core (descriptorRead x ch desc t)) (done := done)
    (b := b) (bubble := false) ha hr h16 hk'
  rw [State.dmaCore_access _ hk] at hstart
  exact ⟨u, _, y, (State.dmaAt_clear hs hm hbad hf hb).trans hstart, hmem, hregs, Core.channel_setChannel_same _ _ _,
    by rw [Core.sending, Assoc.get_put_same], hrequest⟩

/-- A descriptor's fault is the frame's first, and its work is a bubble that the channel's next free key holds (R172, R382). -/
theorem State.dmaAt_bubble {cause detail : Nat} (hf : s.dmaFault x.core ch a b = some (cause, detail)) (hc : causeFailSafe cause = false)
    (hph : s.frame.phase = .inFrame) (hfirst : s.frame.first = none) :
    (s.dmaAt x ch done desc t).frame.first.map (fun f => (f.cause, f.unit, f.detail)) = some (cause, ch, detail % 2 ^ 32) ∧
    (((s.dmaAt x ch done desc t).core x.core).channel ((s.core x.core).freeKey ch t)).bubble = true ∧
    ((s.dmaAt x ch done desc t).core x.core).agenda = (s.core x.core).agenda := by
  have hcore := State.instrFault_core (s := s.access x.core (descriptorRead x ch desc t)) (x := x) (unit := ch) (detail := detail) hc hph hm x.core
  have hrecord := State.instrFault_first (s := s.access x.core (descriptorRead x ch desc t)) (x := x) (unit := ch) (detail := detail) hc hph hm hfirst
  rw [State.dmaAt_fault hs hm hbad hf]
  generalize (s.access x.core (descriptorRead x ch desc t)).instrFault x cause ch detail t = u at hcore hrecord ⊢
  obtain ⟨hbubble, hagenda⟩ := State.startDma_core (s := u) (x := x) (ch := ch) (done := done) (a := a) (b := b) (bubble := true) (t := t)
  rw [State.access_core] at hcore
  refine ⟨by rwa [State.startDma_frame], ?_, by rw [hagenda, hcore]⟩
  rw [hcore] at hbubble
  exact hbubble

end

end

end Sys2Proof.Machine
end

section
/-! A channel's next piece (R158, R173). -/
namespace Sys2Proof.Machine
open Sys2Proof.Safety

/-- What comes at a tick of a frame comes at the frame that has gone on to it. -/
theorem State.atTick_of {s : State} {tick : Option Nat} {t : Nat} (ht : tick = some t) (hph : s.frame.phase = .inFrame)
    (f : State → Nat → State) : s.atTick tick f = f (s.advance t) t := by
  subst ht
  exact if_pos hph

theorem exec_dmaPiece {s : State} {c ch t : Nat} (hc : c < 256) (hph : s.frame.phase = .inFrame) (ht : (s.core c).pieceTick = some t)
    (hch : ((s.advance t).core c).pickChannel t = some ch) : exec (.dmaPiece c) s = .next ((s.advance t).issuePiece c ch t) := by
  refine (onUnit_of (decide_eq_true hc) _ _).trans (congrArg _ ?_)
  rw [State.atTick_of ht hph, hch]

section
variable (s : State) (c ch t : Nat)

/-- The piece that a channel's next bytes make, between memory at `ma`, untranslated and installed, and a scratchpad. -/
def State.memPiece (toMem : Bool) (ma : Nat) : Piece :=
  let d := (s.core c).channel ch
  let da := d.dst.byteAt (d.next * d.size)
  { ch := ch, index := d.next, issue := t, len := d.size, pc := d.pc, dead := d.bubble || s.mutedAt t,
    dstCore := if d.dst.space = 1 ∧ d.dst.remote = false ∧ s.coreValid (windowCore da) = true then some (windowCore da) else none,
    dstAddr := da % 2 ^ 22, mem := true, toMem := toMem, phys := some ma, tag := physTweak,
    arriveAt := some (t + s.reqTicks (s.nearMem c ma)), landAt := t + s.landTicks (s.nearMem c ma) toMem }

/-- A channel goes on to its next piece, with one piece more in flight. -/
def Core.goesOn (k : Core) (ch t : Nat) (p : Piece) : Core :=
  let d := k.channel ch
  { k.setChannel ch { d with next := d.next + 1, lastLand := if d.next = 0 then p.landAt else Nat.max d.lastLand p.landAt } with
    pieces := k.pieces ++ [p], dmaTick := t + 1, dmaLast := Assoc.put 15 k.dmaLast d.prio (ch % 16) }

variable {s c ch t}

/-- A piece from memory is asked of it. -/
theorem State.issuePiece_fromMem (hss : ((s.core c).channel ch).src.space = 0) (hsr : ((s.core c).channel ch).src.remote = false)
    (hsx : ((s.core c).channel ch).src.xlate = false) (hds : ((s.core c).channel ch).dst.space = 1)
    (hin : inMemory (((s.core c).channel ch).src.byteAt (((s.core c).channel ch).next * ((s.core c).channel ch).size))
      ((s.core c).channel ch).size = true) : s.issuePiece c ch t = s.setCore c ((s.core c).goesOn ch t (s.memPiece c ch t false
        (((s.core c).channel ch).src.byteAt (((s.core c).channel ch).next * ((s.core c).channel ch).size)))) := by
  simp [State.issuePiece, Core.goesOn, State.memPiece, hss, hsr, hsx, hds, hin]

/-- A piece to memory is ordered at memory, and read first where the scratchpad is one of this device's. -/
theorem State.issuePiece_toMem (hss : ((s.core c).channel ch).src.space = 1) (hds : ((s.core c).channel ch).dst.space = 0)
    (hdr : ((s.core c).channel ch).dst.remote = false) (hdx : ((s.core c).channel ch).dst.xlate = false)
    (hin : inMemory (((s.core c).channel ch).dst.byteAt (((s.core c).channel ch).next * ((s.core c).channel ch).size))
      ((s.core c).channel ch).size = true) :
    let d := (s.core c).channel ch
    let sa := d.src.byteAt (d.next * d.size)
    let p := s.memPiece c ch t true (d.dst.byteAt (d.next * d.size))
    let u := s.setCore c ((s.core c).goesOn ch t p)
    s.issuePiece c ch t = if d.src.remote then u
      else u.pieceRead c (windowCore sa) { d with next := d.next + 1, lastLand := if d.next = 0 then p.landAt else Nat.max d.lastLand p.landAt } p
        (sa % 2 ^ 22) (if windowCore sa = c then t else t + u.hop c (windowCore sa)) := by
  intro d sa p u
  cases hsr : ((s.core c).channel ch).src.remote <;>
    simp [d, sa, u, p, State.issuePiece, Core.goesOn, State.memPiece, hss, hds, hdr, hdx, hin, hsr]

/-- A read of a scratchpad leaves the pieces in flight, and memory, as they are. -/
theorem State.pieceRead_pieces (e : Nat) (d : DmaCh) (p : Piece) (a v : Nat) :
    ((s.pieceRead c e d p a v).core c).pieces = (s.core c).pieces ∧ (s.pieceRead c e d p a v).mem = s.mem := by
  unfold State.pieceRead
  split
  · exact ⟨rfl, rfl⟩
  · by_cases h : c = e
    · subst h
      simp
    · simp [State.core_setCore_ne _ _ _ _ h]

/-- A piece to memory is one more in flight, and changes no memory yet. -/
theorem State.issuePiece_toMem_pieces (hss : ((s.core c).channel ch).src.space = 1) (hds : ((s.core c).channel ch).dst.space = 0)
    (hdr : ((s.core c).channel ch).dst.remote = false) (hdx : ((s.core c).channel ch).dst.xlate = false)
    (hin : inMemory (((s.core c).channel ch).dst.byteAt (((s.core c).channel ch).next * ((s.core c).channel ch).size))
      ((s.core c).channel ch).size = true) :
    ((s.issuePiece c ch t).core c).pieces = (s.core c).pieces ++ [s.memPiece c ch t true
      (((s.core c).channel ch).dst.byteAt (((s.core c).channel ch).next * ((s.core c).channel ch).size))] ∧
    (s.issuePiece c ch t).mem = s.mem := by
  have hgone (p : Piece) : ((s.setCore c ((s.core c).goesOn ch t p)).core c).pieces = (s.core c).pieces ++ [p] := by
    rw [State.core_setCore_same]
    rfl
  rw [State.issuePiece_toMem hss hds hdr hdx hin]
  split
  · exact ⟨hgone _, rfl⟩
  · obtain ⟨hread, hmem⟩ := State.pieceRead_pieces (s := s.setCore c ((s.core c).goesOn ch t _)) (c := c) _ _ _ _ _
    exact ⟨hread.trans (hgone _), hmem⟩

theorem Core.goesOn_next (k : Core) (p : Piece) : ((k.goesOn ch t p).channel ch).next = (k.channel ch).next + 1 := by
  simp [Core.goesOn, Core.channel, Core.setChannel]

end

/-- Settles O29: a descriptor that passes its checks, one with sides of unequal size, one with a remote source, and a channel's
next piece from and to memory. -/
theorem dmaChecksItsDescriptorAndTicks : Obligations.DmaChecksItsDescriptorAndTicks := by
  refine ⟨fun s x ch done desc a b hc hp hi hm hbad ha hb hf hbusy hkey har => ?_,
    fun s x ch done desc a b hc hp hi hnow hat hst hfirst hbad ha hb hrsv hrsv' hprio hsp hsp' hx hx' hsize => ?_,
    fun s x ch done desc r a b hc hp hi h16 hm hbad ha hb hf hbusy hkey har hr => ?_,
    fun s u c ch t hc hph ht hu hch hss hsr hsx hds hin => ?_, fun s u c ch t hc hph ht hu hch hss hds hdr hdx hin => ?_⟩
  · obtain ⟨u, k, hdma, hmem, hregs, hchannel, hqueues, hspad, hsregs⟩ :=
      State.dmaAt_near (done := done) (Prod.ext ha.symm hb.symm) hm hbad hf hbusy hkey har
    refine ⟨_, onCore_planOnly hc hp hi _ _, ?_⟩
    rw [hdma]
    simp only [issuedAs_channel, State.core_setCore_same, hchannel, Core.channel_setChannel_same]
    refine ⟨?_, rfl, rfl, rfl, rfl, by simp [State.dmaWork, har], rfl, rfl, rfl, fun c hne => Core.channel_setChannel_ne _ _ _ hne,
      by simpa using hspad, by simpa using hsregs, hmem, hregs⟩
    simp [withSigs, State.queue, hqueues]
  · obtain ⟨hrecord, hbubble, hagenda⟩ := State.dmaAt_bubble (s := s.tel 0 1) (x := x) (ch := ch) (done := done) (t := s.issueTick x)
      (by rw [State.tel_core]; exact Prod.ext ha.symm hb.symm) (by simp [State.mutedAt_clear hst hat]) (by rwa [State.tel_core])
      (State.dmaFault_sizes x.core hrsv hrsv' hprio hsp hsp' hx hx' hsize) rfl (by simp [State.canIssue_inFrame hi]) (by simpa using hfirst)
    have hdetail : (2 * 2 ^ 28 + a.base % 2 ^ 28) % 2 ^ 32 = 0x20000000 + a.base % 2 ^ 28 := by omega
    refine ⟨_, onCore_planOnly hc hp hi _ _, ?_⟩
    rw [atIssue_now hnow, issuedAs_frame, issuedAs_channel, issuedAs_core]
    exact ⟨by rwa [← hdetail], by simpa [← hnow] using hbubble, by simpa using hagenda⟩
  · obtain ⟨u, k, y, hdma, hmem, hregs, hwork, hsending, hcount, hfixed, hhold, hslot⟩ :=
      State.dmaAt_remote (done := done) (Prod.ext ha.symm hb.symm) hm hbad hf hbusy hkey h16 har hr
    refine ⟨_, y, onCore_planOnly hc hp hi _ _, ?_⟩
    rw [hdma]
    simp only [issuedAs_channel, State.core_setCore_same, hwork]
    refine ⟨?_, hcount, hfixed, hhold, hslot, rfl, rfl, by simp [State.dmaWork, har], hmem, hregs⟩
    rw [issuedAs_core, State.core_setCore_same]
    exact hsending
  · subst hu
    refine ⟨_, _, (exec_dmaPiece hc hph ht hch).trans (congrArg _ (State.issuePiece_fromMem hss hsr hsx hds hin)),
      congrArg Core.pieces (State.core_setCore_same _ _ _), rfl, rfl, rfl, rfl, rfl, rfl, rfl, ?_, ?_, rfl, rfl⟩
    · rw [State.core_setCore_same, Core.goesOn_next]
    · rw [State.core_setCore_same]
      rfl
  · subst hu
    obtain ⟨hpieces, hmem⟩ := State.issuePiece_toMem_pieces (t := t) hss hds hdr hdx hin
    exact ⟨_, _, exec_dmaPiece hc hph ht hch, hpieces ▸ List.mem_append_right _ (List.mem_singleton_self _), rfl, rfl, rfl, rfl, rfl, hmem⟩

end Sys2Proof.Machine
end

section
/-! A piece's landing (R90, R158, R173). -/
namespace Sys2Proof.Machine
open Sys2Proof.Safety

theorem exec_dmaPieceLanding {s : State} {c t : Nat} {p : Piece} (hc : c < 256) (hph : s.frame.phase = .inFrame)
    (ht : leastSome ((s.core c).pieces.map Piece.landing) = some t) (hp : ((s.advance t).core c).pieceAt Piece.landing t = some p) :
    exec (.dmaPieceLanding c) s = .next ((s.advance t).landPiece c p t) := by
  refine (onUnit_of (decide_eq_true hc) _ _).trans (congrArg _ ?_)
  rw [State.pieceEvent, State.atTick_of ht hph, hp]

/-- A channel with one piece more landed, and one less in flight. -/
def Core.landed (k : Core) (p : Piece) : Core :=
  { k.setChannel p.ch { k.channel p.ch with landed := (k.channel p.ch).landed + 1 } with
    pieces := k.pieces.filter fun q => ¬ (q.ch = p.ch ∧ q.index = p.index) }

/-- What a landed piece has its own core's scratchpad take. -/
def Core.landWrite (k : Core) (c t : Nat) (p : Piece) : PendWrite :=
  { tick := t, addr := p.dstAddr, bytes := p.data,
    acc := { cls := 3, issued := (k.channel p.ch).issued, unit := dmaUnit c p.ch, kind := 2, line := p.dstAddr / 64, pc := (k.channel p.ch).pc } }

/-- A piece that memory has performed lands in its own core: it is counted and written, and the channel's last signals DONE. -/
theorem State.landPiece_own {s : State} {c t : Nat} {p : Piece} (hperf : p.performed = true) (hdead : p.dead = false)
    (hdst : p.dstCore = some c) (hbub : ((s.core c).channel p.ch).bubble = false) :
    let u := (s.setCore c ((s.core c).landed p)).pendWrite c ((s.core c).landWrite c t p)
    s.landPiece c p t = if ((s.core c).channel p.ch).landed + 1 = ((s.core c).channel p.ch).total
      then u.push c t (.tokenAdd 3 ((s.core c).channel p.ch).pc ((s.core c).channel p.ch).done 1) else u := by
  intro u
  simp [u, State.landPiece, Core.landed, Core.landWrite, hperf, hdead, hdst, hbub]

@[simp] theorem Core.landed_channel (k : Core) (p : Piece) :
    (k.landed p).channel p.ch = { k.channel p.ch with landed := (k.channel p.ch).landed + 1 } := by
  simp [Core.landed, Core.channel, Core.setChannel]

/-- Settles O31: a landed piece in its own core's scratchpad, by whether it is its channel's last. -/
theorem dmaPieceLands : Obligations.DmaPieceLands := by
  intro s u c t p hc hph ht hu hp hperf hdead hdst hbub
  subst hu
  refine ⟨_, (exec_dmaPieceLanding hc hph ht hp).trans (congrArg _ (State.landPiece_own hperf hdead hdst hbub)), ?_⟩
  have hwritten (l : List PendWrite) : (l ++ [((s.advance t).core c).landWrite c t p]).getLast?.map (fun w => (w.tick, w.addr, w.bytes)) =
    some (t, p.dstAddr, p.data) := by simp [Core.landWrite]
  have hchannel : ((((s.advance t).core c).landed p).channel p.ch).landed = (((s.advance t).core c).channel p.ch).landed + 1 := by
    rw [Core.landed_channel]
  have hpieces : (((s.advance t).core c).landed p).pieces =
    ((s.advance t).core c).pieces.filter fun q => ¬ (q.ch = p.ch ∧ q.index = p.index) := rfl
  have hagenda : (((s.advance t).core c).landed p).agenda = ((s.advance t).core c).agenda := rfl
  generalize ((s.advance t).core c).landed p = k at hchannel hpieces hagenda ⊢
  have hlanded {j : Core} (hj : j.dma = k.dma) : (j.channel p.ch).landed = (((s.advance t).core c).channel p.ch).landed + 1 := by
    rw [← hchannel, Core.channel, hj, Core.channel]
  split
  · simp only [State.push_core, State.pendWrite_core, State.core_setCore_same, hpieces, hagenda]
    exact ⟨hlanded rfl, trivial, hwritten _, trivial, by simp, by simp⟩
  · simp only [State.pendWrite_core, State.core_setCore_same, hpieces, hagenda, List.append_nil]
    exact ⟨hlanded rfl, trivial, hwritten _, trivial, by simp, by simp⟩

end Sys2Proof.Machine
end

section
/-! Transport: SEND, RECV and CGIVE (R90, R207, R243). -/
namespace Sys2Proof.Machine
open Sys2Proof.Safety

theorem Core.earlierPlace_ne (k : Core) (r : Nat) : k.earlierPlace r ≠ r := by
  show r + 4096 * (64 + _) ≠ r
  omega

/-- A core's sends once one more is in progress on a route, the one that it follows at its earlier place (log 47). -/
def Core.sendsWith (k : Core) (r : Nat) (y : SendSt) : Assoc (Option SendSt) :=
  Assoc.put none ((k.sending r).elim k.sends fun last => Assoc.put none k.sends (k.earlierPlace r) (some last)) r (some y)

section
variable {s : State} {x : Issue} {r count pool done t : Nat} {rA : RegSpec}

/-- The stream that a SEND that meets no fault gives its route. -/
def State.sendStream (s : State) (x : Issue) (r : Nat) (rA : RegSpec) (count done t : Nat) : SendSt :=
  let slot := nextSlot (s.route r).posMask (s.frame.start + t + 8)
  { issue := t, pc := (s.queue x).pc, line := ((s.core x.core).reg rA).toNat, count := count, sent := 0, done := done, hold := false,
    slot := slot, last := slotAfter (s.route r).posMask slot (count - 1), cap := s.flitCap (s.route r).outPort }

/-- A SEND that meets no fault starts its stream, and its credit is due at the end of its tick (R90). -/
theorem State.sendAt_clear (hm : s.mutedAt t = false) (hpool : pool < 15)
    (hf : s.sendFault (s.core x.core) r ((s.core x.core).reg rA) count t = none) : s.sendAt x r rA count pool done t =
      (s.setCore x.core { s.core x.core with sends := (s.core x.core).sendsWith r (s.sendStream x r rA count done t) }).push x.core t
        (.creditTake x.queue (s.queue x).pc pool) := by
  have hcredit : decide (15 ≤ pool) = false := decide_eq_false (by omega)
  cases hlast : (s.core x.core).sending r <;>
    simp [State.sendAt, Core.sendsWith, State.sendStream, hm, hf, hlast, hcredit, State.queue]

/-- A RECV that meets no fault arms its idle route (R90). -/
theorem State.recvAt_clear (hm : s.mutedAt t = false) (htwin : (s.route r).twin = false)
    (hf : streamFault ((s.core x.core).reg rA) (s.flitCap (s.route r).inPort) count = none) (hb : (s.core x.core).recvBusy r t = false) :
    s.recvAt x r rA count done t = s.setCore x.core { s.core x.core with recvs := Assoc.put none (s.core x.core).recvs r (some
      { issue := t, pc := (s.queue x).pc, line := ((s.core x.core).reg rA).toNat, count := count, done := done, bubble := false,
        twin := false, cap := s.flitCap (s.route r).inPort }) } := by
  simp [State.recvAt, State.recvBase, hm, htwin, hf, hb]

/-- A CGIVE within the counter's range is due at the end of its tick (R90). -/
theorem State.cgiveAt_fits {n : Nat} (hm : s.mutedAt t = false)
    (hfit : Assoc.get 0 (s.core x.core).pendCredits (16 * r + pool) + n ≤ 255) :
    s.cgiveAt x r pool n t = s.push x.core t (.pendCredit r pool n) := by
  simp [State.cgiveAt, hm, Nat.not_lt.2 hfit]

/-- A CGIVE past it is a TOKEN_OVERFLOW that leaves the counter at its end (R90). -/
theorem State.cgiveAt_overflows {n : Nat} (hm : s.mutedAt t = false)
    (hover : 255 < Assoc.get 0 (s.core x.core).pendCredits (16 * r + pool) + n) : s.cgiveAt x r pool n t =
      (s.setCore x.core { s.core x.core with pendCredits := Assoc.put 0 (s.core x.core).pendCredits (16 * r + pool) 255 }).instrFault x 0x03
        0xFFFF (2 ^ 30 + pool) t := by
  simp [State.cgiveAt, hm, hover]

/-- The overflow is the frame's first fault, and gives the counter nothing more. -/
theorem State.cgiveAt_full {n : Nat} (hm : s.mutedAt t = false)
    (hover : 255 < Assoc.get 0 (s.core x.core).pendCredits (16 * r + pool) + n) (hph : s.frame.phase = .inFrame) (hfirst : s.frame.first = none) :
    (s.cgiveAt x r pool n t).frame.first.map (fun f => (f.cause, f.detail)) = some (0x03, (2 ^ 30 + pool) % 2 ^ 32) ∧
    ((s.cgiveAt x r pool n t).core x.core).agenda = (s.core x.core).agenda ∧
    Assoc.get 0 ((s.cgiveAt x r pool n t).core x.core).pendCredits (16 * r + pool) = 255 := by
  let k : Core := { s.core x.core with pendCredits := Assoc.put 0 (s.core x.core).pendCredits (16 * r + pool) 255 }
  have hcause : causeFailSafe 0x03 = false := rfl
  have hcore := State.instrFault_core (s := s.setCore x.core k) (x := x) (unit := 0xFFFF) (detail := 2 ^ 30 + pool) (t := t) hcause hph hm x.core
  have hrecord := State.instrFault_first (s := s.setCore x.core k) (x := x) (unit := 0xFFFF) (detail := 2 ^ 30 + pool) (t := t) hcause hph hm hfirst
  rw [State.cgiveAt_overflows hm hover]
  refine ⟨by simpa [Option.map_map, Function.comp_def] using congrArg (Option.map fun f => (f.1, f.2.2)) hrecord, ?_, ?_⟩ <;>
    rw [hcore, State.core_setCore_same]
  exact Assoc.get_put_same 0 (s.core x.core).pendCredits (16 * r + pool) 255

end

section
variable (k : Core) (r : Nat) (y : SendSt)

theorem Core.sendsWith_same : Assoc.get none (k.sendsWith r y) r = some y := by simp [Core.sendsWith]

theorem Core.sendsWith_earlier {last : SendSt} (h : k.sending r = some last) : Assoc.get none (k.sendsWith r y) (k.earlierPlace r) = some last := by
  rw [Core.sendsWith, h, Assoc.get_put_ne _ none _ _ _ _ (k.earlierPlace_ne r), Option.elim_some, Assoc.get_put_same]

theorem Core.sendsWith_other {q : Nat} (h : q ≠ r) (h' : q ≠ k.earlierPlace r) : Assoc.get none (k.sendsWith r y) q = k.sending q := by
  rw [Core.sendsWith, Assoc.get_put_ne _ none _ _ _ _ h]
  cases k.sending r with
  | none => rfl
  | some last => exact Assoc.get_put_ne _ none _ _ _ _ h'

end

/-- Settles O32: SEND, RECV and CGIVE at their issue ticks, and a SEND's credit at the end of its. -/
theorem transportInstructions : Obligations.TransportInstructions := by
  refine ⟨fun s x r rA count pool done hc hp hi hpool hm hf hb => ?_, fun s x r rA count done hc hp hi hm htwin hf hb => ?_,
    fun s x r pool n hc hp hi hm hfit => ?_, fun s x r pool n hc hp hi hnow hat hst hfirst hpool hover => ?_,
    fun k u q pc pool h5 hag => ⟨fun h => ?_, fun h => ?_⟩⟩
  · refine ⟨_, (atIssue s x).sendStream x r rA count done (s.issueTick x), onCore_planOnly hc hp hi _ _, ?_⟩
    rw [State.sendAt_clear hm hpool hf]
    refine ⟨?_, ?_, rfl, rfl, rfl, rfl, rfl, rfl, ?_, fun last hlast => ?_, fun q hq hq' => ?_, ?_, ?_, ?_⟩
    · simp [withSigs, State.queue]
    · simpa [Core.sending] using Core.sendsWith_same _ _ _
    · simp
    · simpa [Core.sending] using Core.sendsWith_earlier _ _ _ hlast
    · simpa [Core.sending] using Core.sendsWith_other _ _ _ hq hq'
    · simp
    · simp
    · simp
  · let y : RecvSt := { issue := s.issueTick x, pc := ((atIssue s x).queue x).pc, line := (((atIssue s x).core x.core).reg rA).toNat,
                        count := count, done := done, bubble := false, twin := false,
                        cap := (atIssue s x).flitCap ((atIssue s x).route r).inPort }
    refine ⟨_, y, onCore_planOnly hc hp hi _ _, ?_⟩
    rw [State.recvAt_clear hm htwin hf hb]
    refine ⟨?_, ?_, rfl, rfl, rfl, rfl, rfl, rfl, fun q hq => ?_, ?_, ?_, ?_⟩
    · simp [withSigs, State.queue]
    · simp [Core.receiving, y]
    · simp [Core.receiving, Assoc.get_put_ne _ _ _ _ _ _ hq]
    · simp
    · simp
    · simp
  · refine ⟨_, onCore_planOnly hc hp hi _ _, ?_⟩
    rw [State.cgiveAt_fits hm hfit]
    simp
  · refine ⟨_, onCore_planOnly hc hp hi _ _, ?_⟩
    obtain ⟨hrecord, hagenda, hpend⟩ := State.cgiveAt_full (s := s.tel 0 1) (x := x) (t := s.issueTick x) (by simp [State.mutedAt_clear hst hat])
      (by simpa using hover) (by simp [State.canIssue_inFrame hi]) (by simpa using hfirst)
    rw [atIssue_now hnow, issuedAs_frame, issuedAs_core]
    exact ⟨by rw [hrecord, Nat.mod_eq_of_lt (by omega)], by simpa using hagenda, hpend⟩
  · rw [Core.applyAgenda_one hag, Core.checks_one hag rfl h5, Checks.step_credit h]
    simp [Core.applyEffect]
  · rw [Core.applyAgenda_one hag, Core.checks_one hag rfl h5, Checks.step_credit_absent h]
    simp [Core.applyEffect]

end Sys2Proof.Machine
end

section
/-! VCFG: a slot of the chain's configurations (R118, R131). -/
namespace Sys2Proof.Machine
open Sys2Proof.Safety

/-- The access of a VCFG: it reads its line of configuration in its tick (R118). -/
def configRead (line t : Nat) : BankAccess := { cls := 2, issued := t, unit := 0, kind := 0, line := line }

section
variable {s : State} {x : Issue} {slot line t : Nat} (hm : s.mutedAt t = false)
  (hgood : spadBad (s.core x.core) (64 * line) 64 = false)
include hm hgood

/-- A word that the checks allow is due in its slot at the end of the tick (R118). -/
theorem State.vcfgAt_allowed (hf : cfgFault (spadLine (s.core x.core) line) = none) : s.vcfgAt x slot line t =
    (s.access x.core (configRead line t)).push x.core t (.cslot slot (spadLine (s.core x.core) line)) := by
  simp [State.vcfgAt, configRead, hm, hgood, hf]

/-- A word that the checks do not allow is a CHAIN_CONFIG fault of its lowest offending byte (R131). -/
theorem State.vcfgAt_offends {b : Nat} (hf : cfgFault (spadLine (s.core x.core) line) = some b) :
    s.vcfgAt x slot line t = (s.access x.core (configRead line t)).instrFault x 0x19 0xFFFF b t := by
  simp [State.vcfgAt, configRead, hm, hgood, hf]

end

/-- Settles O25: a VCFG whose word is allowed, one whose word offends, and the slot that the tick's end writes. -/
theorem chainConfigurationIsChecked : Obligations.ChainConfigurationIsChecked := by
  refine ⟨fun s x slot line hc hp hi hm hgood hf => ?_,
    fun s x slot line b hc hp hi hnow hat hst hfirst hgood hf hb => ?_, fun k u c w hag => ?_⟩
  · refine ⟨_, onCore_planOnly hc hp hi _ _, ?_⟩
    rw [State.vcfgAt_allowed hm hgood hf]
    simp
  · refine ⟨_, onCore_planOnly hc hp hi _ _, ?_⟩
    have hconfig : causeFailSafe 0x19 = false := rfl
    have hphase : (s.tel 0 1).frame.phase = .inFrame := by simp [State.canIssue_inFrame hi]
    have hmuted : (s.tel 0 1).mutedAt (s.issueTick x) = false := by simp [State.mutedAt_clear hst hat]
    rw [atIssue_now hnow, State.vcfgAt_offends hmuted (by simpa using hgood) (by simpa using hf), issuedAs_frame, issuedAs_core,
      State.instrFault_first hconfig (by simpa using hphase) (by simpa using hmuted) (by simpa using hfirst),
      State.instrFault_core hconfig (by simpa using hphase) (by simpa using hmuted), Nat.mod_eq_of_lt (by omega)]
    simp
  · rw [Core.applyAgenda_one hag]
    exact Assoc.get_put_same identityWord k.cslots c w

end Sys2Proof.Machine
end

section
/-! FP32 values and their bits (R134, R137). -/
namespace Sys2Proof.Machine

/-! ### A magnitude that fits its format is rounded to itself -/

/-- A magnitude of the format's own precision, subnormal or normal, has the encoding that counts its quanta above the format's
least binade, and loses nothing in any rounding mode. -/
theorem FloatFmt.roundMag_of_fits (f : FloatFmt) (mode : Round) {mant : Nat} {exp : Int} (hexp : f.emin ≤ exp)
    (hmant : mant < 2 ^ (f.m + 1)) (hnorm : exp = f.emin ∨ 2 ^ f.m ≤ mant) :
    ∃ tiny, f.roundMag mode mant exp = ((exp - f.emin).toNat * 2 ^ f.m + mant, false, tiny) := by
  by_cases hzero : mant = 0
  · have hleast : exp = f.emin := hnorm.resolve_right (by simp [hzero])
    exact ⟨false, by simp [FloatFmt.roundMag, hzero, hleast]⟩
  · have hlog : Nat.log2 mant < f.m + 1 := (Nat.log2_lt hzero).2 hmant
    have hquantum : max ((Nat.log2 mant : Int) + exp - f.m) f.emin = exp := by
      rcases hnorm with hleast | hfull
      · omega
      · have := (Nat.le_log2 hzero).2 hfull
        omega
    exact ⟨decide ((Nat.log2 mant : Int) + exp < 1 - f.bias), by simp [FloatFmt.roundMag, hzero, hquantum]⟩

/-- Bits of a finite value in any format: the value has the bits' sign, and its magnitude rounds to the bits below the sign. -/
theorem FloatFmt.roundMag_decode (f : FloatFmt) (mode : Round) {b : Nat} (hb : b < 2 ^ f.width)
    (hfinite : b % 2 ^ (f.width - 1) ≤ f.largest) :
    ∃ mant exp tiny, f.decode b = .fin (b.testBit (f.width - 1)) mant exp ∧
      f.roundMag mode mant exp = (b % 2 ^ (f.width - 1), false, tiny) := by
  have hdigits := Nat.div_add_mod' (b % 2 ^ (f.width - 1)) (2 ^ f.m)
  have hfrac := Nat.mod_lt (b % 2 ^ (f.width - 1)) (Nat.two_pow_pos f.m)
  have hdecode : f.decode b = if b % 2 ^ (f.width - 1) / 2 ^ f.m = 0
      then .fin (b.testBit (f.width - 1)) (b % 2 ^ (f.width - 1) % 2 ^ f.m) f.emin
      else .fin (b.testBit (f.width - 1)) (2 ^ f.m + b % 2 ^ (f.width - 1) % 2 ^ f.m)
        (f.emin + ((b % 2 ^ (f.width - 1) / 2 ^ f.m : Nat) - 1)) := by
    simp only [FloatFmt.decode, Nat.mod_eq_of_lt hb, if_neg (Nat.not_lt.2 hfinite)]
  generalize b % 2 ^ (f.width - 1) / 2 ^ f.m = e at *
  generalize b % 2 ^ (f.width - 1) % 2 ^ f.m = m at *
  cases e with
  | zero =>
    obtain ⟨tiny, h⟩ := f.roundMag_of_fits mode (mant := m) (Int.le_refl f.emin) (by omega) (.inl rfl)
    exact ⟨m, f.emin, tiny, hdecode, by rw [h, ← hdigits, Int.sub_self]; rfl⟩
  | succ e =>
    obtain ⟨tiny, h⟩ := f.roundMag_of_fits mode (mant := 2 ^ f.m + m) (exp := f.emin + e) (by omega) (by omega) (.inr (by omega))
    have hquanta : (f.emin + e - f.emin).toNat = e := by omega
    have hexponent : f.emin + ((e + 1 : Nat) - 1) = f.emin + (e : Int) := by omega
    rw [if_neg (Nat.succ_ne_zero e), hexponent] at hdecode
    exact ⟨2 ^ f.m + m, f.emin + e, tiny, hdecode, by rw [h, ← hdigits, hquanta, Nat.succ_mul, Nat.add_assoc]⟩

/-- Bits are their sign's bit and the bits below it. -/
theorem FloatFmt.magnitude_add_signBit (f : FloatFmt) (hw : 0 < f.width) {b : Nat} (hb : b < 2 ^ f.width) :
    b % 2 ^ (f.width - 1) + f.signBit (b.testBit (f.width - 1)) = b := by
  obtain ⟨w, hsucc⟩ : ∃ w, f.width = w + 1 := ⟨f.width - 1, by omega⟩
  simp only [hsucc, FloatFmt.signBit, Nat.add_sub_cancel, Nat.testBit_eq_decide_div_mod_eq, decide_eq_true_eq] at hb ⊢
  have hsplit := Nat.mod_pow_succ (x := b) (b := 2) (k := w)
  rw [Nat.mod_eq_of_lt hb] at hsplit
  rcases Nat.mod_two_eq_zero_or_one (b / 2 ^ w) with hs | hs <;> simp [hs] at hsplit ⊢ <;> exact hsplit.symm

/-- Bits above the largest finite value's, in a format with infinities and NaNs, are an infinity's or a NaN's. -/
theorem FloatFmt.decode_not_finite (f : FloatFmt) {b : Nat} (hb : b < 2 ^ f.width) (hover : f.largest < b % 2 ^ (f.width - 1))
    (hinf : f.hasInf = true) (hnan : f.nan.isSome = true) :
    f.decode b = if b % 2 ^ (f.width - 1) = f.largest + 1 then .inf (b.testBit (f.width - 1)) else .nan := by
  simp [FloatFmt.decode, Nat.mod_eq_of_lt hb, hover, hinf, hnan]

/-! ### FP32 -/

/-- FP32 bits of a finite value: their value rounds to them. -/
theorem toFP32_fp32_finite {b : Nat} (hb : b < 2 ^ fmtFP32.width) (hfinite : b % 2 ^ (fmtFP32.width - 1) ≤ fmtFP32.largest) :
    toFP32 (fp32 b) = (b, 0) := by
  obtain ⟨mant, exp, tiny, hvalue, hround⟩ := fmtFP32.roundMag_decode .nearest hb hfinite
  simp [fp32, hvalue, toFP32, hround, Nat.not_lt.2 hfinite, fmtFP32.magnitude_add_signBit (by decide) hb]

/-- FP32 bits of an infinity: their value rounds to them. -/
theorem toFP32_fp32_infinite {b : Nat} (hb : b < 2 ^ fmtFP32.width) (hinf : b % 2 ^ (fmtFP32.width - 1) = fmtFP32.largest + 1) :
    toFP32 (fp32 b) = (b, 0) := by
  have hvalue := fmtFP32.decode_not_finite hb (by omega) rfl rfl
  have hbits := fmtFP32.magnitude_add_signBit (by decide) hb
  rw [hinf] at hbits
  rw [fp32, hvalue, if_pos hinf]
  exact congrArg (·, 0) hbits

/-- Settles O28: bits that are no NaN are a finite value's or an infinity's, and each keeps its bits. -/
theorem fp32RoundsItsOwnValuesToThemselves : Obligations.FP32RoundsItsOwnValuesToThemselves := by
  intro b hb hnan
  rcases Nat.lt_or_ge fmtFP32.largest (b % 2 ^ (fmtFP32.width - 1)) with hover | hfinite
  · refine toFP32_fp32_infinite hb (Decidable.byContradiction fun hinf => hnan ?_)
    rw [fp32, fmtFP32.decode_not_finite hb hover rfl rfl, if_neg hinf]
  · exact toFP32_fp32_finite hb hfinite

end Sys2Proof.Machine
end

section
/-! Integer cells (R138, R140): the exact sum of a block's products and its clamp into a 32-bit bank. -/
namespace Sys2Proof.Machine

/-! ### Two's-complement fields -/

/-- A field of `w` bits is below 2 ^ w. -/
theorem fieldOfInt_lt (t : Int) (w : Nat) : fieldOfInt t w < 2 ^ w := by
  have hpos := Nat.two_pow_pos w
  have := Int.emod_lt_of_pos t (Int.natCast_pos.2 hpos)
  simp only [fieldOfInt]
  omega

/-- A whole number that fits a two's-complement field is what the field reads. -/
theorem signedOf_fieldOfInt {t : Int} {w : Nat} (hlow : -(2 ^ w : Nat) ≤ t) (hhigh : t < (2 ^ w : Nat)) :
    signedOf (fieldOfInt t (w + 1)) (w + 1) = t := by
  rw [signedOf, Nat.mod_eq_of_lt (fieldOfInt_lt t (w + 1)), fieldOfInt, Nat.add_sub_cancel, Nat.pow_succ]
  rcases Int.lt_or_le t 0 with hneg | hnonneg
  · have hmod : t % (2 ^ w * 2 : Nat) = t + (2 ^ w * 2 : Nat) := by
      rw [← Int.add_emod_right, Int.emod_eq_of_lt] <;> omega
    rw [hmod]
    split <;> omega
  · rw [Int.emod_eq_of_lt hnonneg (by omega)]
    split <;> omega

/-! ### The bank's addition -/

/-- A sum above 32 bits clamps to the most. -/
theorem bankAddInt_above {bank : Nat} {s : Int} (h : 2 ^ 31 - 1 < signedOf bank 32 + s) :
    bankAddInt bank s = (2 ^ 31 - 1, fSAT) := if_pos h

/-- A sum below 32 bits clamps to the least. -/
theorem bankAddInt_below {bank : Nat} {s : Int} (h : signedOf bank 32 + s < -(2 ^ 31)) :
    bankAddInt bank s = (2 ^ 31, fSAT) :=
  (if_neg (by omega)).trans (if_pos h)

/-- A sum within 32 bits is the bank, with no flag. -/
theorem bankAddInt_within {bank : Nat} {s : Int} (hlow : -(2 ^ 31) ≤ signedOf bank 32 + s)
    (hhigh : signedOf bank 32 + s ≤ 2 ^ 31 - 1) : bankAddInt bank s = (fieldOfInt (signedOf bank 32 + s) 32, 0) :=
  (if_neg (by omega)).trans (if_neg (by omega))

/-! ### The block's sum -/

/-- The exact value of a whole number. -/
def intVal (i : Int) : Val := .fin (decide (i < 0)) i.natAbs 0

/-- An INT8 element has its two's-complement value (R134). -/
theorem elemVal_int8 (bits : Nat) : elemVal 10 bits = intVal (signedOf bits 8) := rfl

/-- Magnitudes multiplied under the sign of their product are the whole numbers' product. -/
theorem sign_natAbs_mul (i j : Int) (unit : Nat) :
    (if (decide (i < 0) != decide (j < 0)) = true then -((i.natAbs * j.natAbs * unit : Nat) : Int) else (i.natAbs * j.natAbs * unit : Nat)) =
      i * j * unit := by
  have hmag (k : Int) : (k.natAbs : Int) = if k < 0 then -k else k := by split <;> omega
  by_cases hi : i < 0 <;> by_cases hj : j < 0 <;>
    simp only [Int.natCast_mul, hmag, hi, hj, if_true, if_false, decide_true, decide_false, bne_self_eq_false, Bool.bne_false,
      Bool.bne_true, Bool.not_false, Bool.false_eq_true, Int.neg_mul, Int.mul_neg, Int.neg_neg]

/-- A product of whole numbers goes into a block sum exactly, in units of 2 ^ -40 (R138). -/
theorem BlockSum.addProduct_int (b : BlockSum) (i j : Int) :
    b.addProduct (intVal i) (intVal j) = { b with sum := b.sum + i * j * 2 ^ 40 } := by
  simp only [BlockSum.addProduct, mulVal, intVal, sign_natAbs_mul]
  rfl

/-- A block of products of whole numbers leaves their sum, in units of 2 ^ -40. -/
theorem BlockSum.foldl_addProduct_int (x y : Nat → Int) (l : List Nat) (b : BlockSum) :
    (l.foldl (fun b n => b.addProduct (intVal (x n)) (intVal (y n))) b).sum = b.sum + (l.map fun n => x n * y n).sum * 2 ^ 40 := by
  induction l generalizing b with
  | nil => simp
  | cons n l ih =>
    rw [List.foldl_cons, ih, BlockSum.addProduct_int, List.map_cons, List.sum_cons]
    simp only [Int.add_mul, Int.add_assoc]

/-- A cell of a pair of integer formats adds the exact sum of its block to its bank (R140). -/
theorem cellStep_int (p : Pass) (i j k0 k1 bank : Nat) (x y : Nat → Int) (hgroup : pairGroup p.fmtA p.fmtB = some 4)
    (hpair : ∀ n, cellPair p i j (k0 + n) = (intVal (x n), intVal (y n))) :
    cellStep p i j k0 k1 bank = bankAddInt bank ((List.range (k1 - k0)).map fun n => x n * y n).sum := by
  simp [cellStep, hgroup, hpair, BlockSum.foldl_addProduct_int]

/-- Settles O27: a block's products are exact in the accumulator, and the bank's addition is above, below or within 32 bits. -/
theorem integerCellsSaturate : Obligations.IntegerCellsSaturate := by
  refine ⟨fun p i j k0 k1 bank hA hB _ _ _ _ _ => ?_, fun bank s _ => ?_⟩
  · refine cellStep_int p i j k0 k1 bank _ _ (by rw [hA, hB]; rfl) fun n => ?_
    rw [cellPair, hA, hB]
    exact Prod.ext (elemVal_int8 _) (elemVal_int8 _)
  · rcases Int.lt_or_le (2 ^ 31 - 1) (signedOf bank 32 + s) with habove | hhigh
    · rw [bankAddInt_above habove]
      have hsat : signedOf (2 ^ 31 - 1) 32 = 2 ^ 31 - 1 := rfl
      exact ⟨by simp only [hsat]; omega, by decide, iff_of_false (by decide) (by omega), .inr rfl⟩
    · rcases Int.lt_or_le (signedOf bank 32 + s) (-(2 ^ 31)) with hbelow | hlow
      · rw [bankAddInt_below hbelow]
        have hsat : signedOf (2 ^ 31) 32 = -2 ^ 31 := rfl
        exact ⟨by simp only [hsat]; omega, by decide, iff_of_false (by decide) (by omega), .inr rfl⟩
      · rw [bankAddInt_within hlow hhigh]
        have hread := signedOf_fieldOfInt (w := 31) hlow (by omega)
        exact ⟨by simp only [hread]; omega, fieldOfInt_lt _ _, iff_of_true rfl ⟨hlow, hhigh⟩, .inl rfl⟩

end Sys2Proof.Machine
end
